-- ==== Sys2Proof/Word.lean ====
section
/-! DEFINITION. The words of the Vanfira 460 (spec/00_scope.md 0.5) and the fixed-size tables its records stand in. -/

namespace Sys2Proof

/-- A byte of a record. -/
abbrev Byte := BitVec 8

/-- A word of a transaction: 8 bytes (0.5, Memory records). -/
abbrev Word := BitVec 64

/-- A bottle index (0.5, Bottle indices). -/
abbrev Bottle := BitVec 32

/-- A sequence number of a frame or record, compared serially (0.5). -/
abbrev Seq := BitVec 32

/-- A table of exactly `n` entries, numbered from 0: units, zones, ports, cameras, gates, windows, templates, checks. -/
structure Table (α : Type) (n : Nat) where
  /-- The entries in order. -/
  toList : List α
  /-- There are exactly `n` of them. -/
  length_eq : toList.length = n
deriving DecidableEq, Repr

/-- Entry `i`. -/
def Table.get {α : Type} {n : Nat} (t : Table α n) (i : Fin n) : α :=
  t.toList.get (i.cast t.length_eq.symm)

/-- The table with entry `i` replaced by `a`. -/
def Table.set {α : Type} {n : Nat} (t : Table α n) (i : Fin n) (a : α) : Table α n :=
  ⟨t.toList.set i.val a, by rw [List.length_set]; exact t.length_eq⟩

/-- The table whose entry `i` is `f i`. -/
def Table.ofFn {α : Type} {n : Nat} (f : Fin n → α) : Table α n :=
  ⟨List.ofFn f, List.length_ofFn⟩

/-- The table with every entry `a`. -/
def Table.replicate {α : Type} (n : Nat) (a : α) : Table α n :=
  ⟨List.replicate n a, List.length_replicate⟩

/-- Every entry changed by `f`, which also sees its number. -/
def Table.mapFin {α β : Type} {n : Nat} (t : Table α n) (f : Fin n → α → β) : Table β n :=
  Table.ofFn fun i => f i (t.get i)

/-- Entry `i` changed by `f`. -/
def Table.modify {α : Type} {n : Nat} (t : Table α n) (i : Fin n) (f : α → α) : Table α n :=
  t.set i (f (t.get i))

end Sys2Proof
end

