-- ==== Sys2Proof/Syntax.lean ====
section
/-! DEFINITION. The commands of the part: one constructor for each row of spec/opcode_table.json.

The table gives no operand bits. The operands are what the environment brings with the event: which unit, gate,
zone or port an expiry is of, a new input level, an upstream transaction, memory's answer. The arguments of a
mailbox or control-word command stand in the data of the processor's write that carried it (R149), which the part
holds in flight; so those commands name only the slot they come from. -/

namespace Sys2Proof

/-- One word of a write: its data and one enable flag per byte (08 8.1). -/
structure WriteWord where
  /-- The 8-byte value. -/
  data : Word
  /-- Bit i enables byte i. -/
  enables : Byte
deriving DecidableEq, Repr

/-- The kind of an upstream transaction with what the kind carries (08 8.1). -/
inductive Access where
  /-- A READ of so many words. -/
  | read (words : Nat)
  /-- A WRITE of these words. -/
  | write (words : List WriteWord)
deriving DecidableEq, Repr

/-- An upstream transaction (08 8.1): source tag 0 … 31, byte address, kind with length and data. -/
structure Txn where
  /-- The source tag. -/
  tag : Fin 32
  /-- The 32-bit byte address. -/
  addr : BitVec 32
  /-- READ or WRITE. -/
  access : Access
deriving DecidableEq, Repr

/-- The commands: the rows of spec/opcode_table.json. A `tag` names the source whose oldest outstanding transaction
memory answers; `ok` is memory's OKAY (else FAULT); `data` is what memory returned. -/
inductive Instr where
  /-- RESET_N: assertion and release, with the strap levels CFG_BASE[3:0] at the release (R153, R155). -/
  | resetN (straps : BitVec 4)
  /-- PITCH_EDGE (R11). -/
  | pitchEdge
  /-- STOP_TIMER_EXPIRY (R14). -/
  | stopTimerExpiry
  /-- SLEW_MOVE (R2). -/
  | slewMove
  /-- HOLDOVER_EXPIRY (R9). -/
  | holdoverExpiry
  /-- TIME_FRAME: memory answers OKAY a write of port tag `tag` that covers a TIMEFRAME slot whole (R3). -/
  | timeFrame (tag : Fin 32)
  /-- ACCOUNT_SECOND of unit `u` (R15). -/
  | accountSecond (u : Fin 24)
  /-- VERDICT_RECORD: likewise, a VERDICT slot (R47). -/
  | verdictRecord (tag : Fin 32)
  /-- ROBOT_STATUS_FRAME: likewise, a STATUS slot of a FILLER unit (R82). -/
  | robotStatusFrame (tag : Fin 32)
  /-- ROBOT_STATUS_TIMEOUT of unit `u` (R84). -/
  | robotStatusTimeout (u : Fin 24)
  /-- GATE_STATUS_FRAME: likewise, a STATUS slot of a GATE unit (R66). -/
  | gateStatusFrame (tag : Fin 32)
  /-- GATE_STATUS_TIMEOUT of gate `g` (R66). -/
  | gateStatusTimeout (g : Fin 2)
  /-- SEQUENCE_WRITE: memory answers OKAY a processor write that covers the sequence field of unit `u`'s command frame (R93). -/
  | sequenceWrite (u : Fin 24)
  /-- ROBOT_COMMAND_READ: memory answers OKAY a robot's read of its command frame (R96). -/
  | robotCommandRead (tag : Fin 32) (data : List Word)
  /-- GATE_COMMAND_READ: likewise, a gate's (R71). -/
  | gateCommandRead (tag : Fin 32) (data : List Word)
  /-- GUARD_RAW_CHANGE: the raw level of GUARD[z] becomes `opened` (true is OPEN) (R106). -/
  | guardRawChange (z : Fin 8) (opened : Bool)
  /-- GUARD_OPEN of zone `z` (R106). -/
  | guardOpen (z : Fin 8)
  /-- GUARD_CLOSED of zone `z` (R106). -/
  | guardClosed (z : Fin 8)
  /-- ACCESS_TIMER_EXPIRY of zone `z` (R118). -/
  | accessTimerExpiry (z : Fin 8)
  /-- CLEARING_WINDOW_EXPIRY of zone `z` (R120). -/
  | clearingWindowExpiry (z : Fin 8)
  /-- ENTER written to zone slot `z` (R115). -/
  | enter (z : Fin 8)
  /-- CONFIRM written to zone slot `z` (R117). -/
  | confirm (z : Fin 8)
  /-- EXTEND written to zone slot `z` (R118). -/
  | extend (z : Fin 8)
  /-- CANCEL written to zone slot `z` (R119). -/
  | cancel (z : Fin 8)
  /-- RESET written to zone slot `z` (R114). -/
  | reset (z : Fin 8)
  /-- RESUME written to zone slot `z` (R114). -/
  | resume (z : Fin 8)
  /-- SENSE written to zone slot `z` (R112). -/
  | sense (z : Fin 8)
  /-- MAILBOX_READ: memory answers OKAY a processor read of the mailbox (R165). -/
  | mailboxRead (data : List Word)
  /-- RELEASE written to the general slot (R91). -/
  | release
  /-- CLEAR_SUSPECT written to the general slot (R87). -/
  | clearSuspect
  /-- ACCOUNT_CLEAR written to the general slot (R17). -/
  | accountClear
  /-- PORT_CLEAR written to the general slot (R138). -/
  | portClear
  /-- SNAPSHOT written to the general slot (R61). -/
  | snapshot
  /-- PURGE written to the general slot (R42). -/
  | purge
  /-- LINE_RESUME written to the general slot (R76). -/
  | lineResume
  /-- SNAPSHOT_WRITE_ANSWERED: memory answers a snapshot line (R62). -/
  | snapshotWriteAnswered (ok : Bool)
  /-- CONSUMER_WRITE: memory answers OKAY a processor write of the consumer word (R168). -/
  | consumerWrite
  /-- NOTICE_WRITE_ANSWERED: memory answers a notice write (R167). -/
  | noticeWriteAnswered (ok : Bool)
  /-- SWITCH_TABLE: memory answers OKAY a write by tag 17 of the whole table (R128). -/
  | switchTable
  /-- TABLE_TIMER_EXPIRY (R130). -/
  | tableTimerExpiry
  /-- INTERVAL_BOUNDARY (R133). -/
  | intervalBoundary
  /-- SILENCE_EXPIRY of port `p` + 1 (R136). -/
  | silenceExpiry (p : Fin 16)
  /-- UPSTREAM_TRANSACTION: `t` is presented while OBSERVE_ALL stands at `observeAll` (R147, R139). -/
  | upstreamTransaction (t : Txn) (observeAll : Bool)
  /-- VIEW_READ: the view instant of the oldest view read, while OBSERVE_ALL stands at `observeAll` (R151, R142). -/
  | viewRead (observeAll : Bool)
  /-- FORWARDED_RESPONSE: memory answers a transaction with no observed or substituted content (R144). -/
  | forwardedResponse (tag : Fin 32) (ok : Bool) (data : List Word)
  /-- ARBITER_GRANT: the downstream port can take a transaction (R152). -/
  | arbiterGrant
  /-- FULL_LOAD: the control word is written with load kind 1 (R156). -/
  | fullLoad
  /-- PARAMETER_LOAD: load kind 2 (R156). -/
  | parameterLoad
  /-- CHANGEOVER_LOAD: load kind 3 (R156). -/
  | changeoverLoad
  /-- CONFIG_READ_ANSWERED: memory answers the loader's read of an image line (R157). -/
  | configReadAnswered (ok : Bool) (data : List Word)
  /-- REFERENCE_PERIOD: 8 ns of local time pass (R1). -/
  | referencePeriod
  /-- OTHER_COMMAND_CODE: a code that is no command of the slot is written to it; slot 8 is the general one (R109, R164). -/
  | otherCommandCode (slot : Fin 9)
  /-- OTHER_LOAD_KIND: the control word is written with a load kind that is not 0, 1, 2 or 3 (R156). -/
  | otherLoadKind
deriving DecidableEq, Repr

end Sys2Proof
end

