-- ==== Sys2Proof/Decode.lean ====
section
/-! DEFINITION. The commands that a word spells by the bits of spec/opcode_table.json. Every row of that table has
an empty list of fields and no fixed bits, so no word spells a command (log 37). -/

namespace Sys2Proof

/-- The command that the `nbits` bits of `w` spell: none, since no row of the table gives bits. -/
def decodeTableWord (nbits w : Nat) : Option Instr :=
  match nbits, w with
  | _, _ => none

end Sys2Proof
end

