-- ==== Sys2Proof/Machine/Types.lean ====
section
/-! DEFINITION. The enumerations with their codes (spec/11 11.1), the configuration, and the records the blocks own. -/

namespace Sys2Proof.Machine

/-! ## Enumerations -/

/-- A machine state, reported or accepted (0.7, R66, R82). -/
inductive MachineState where
  /-- OFFLINE: nothing taken since the FULL load. -/
  | offline
  /-- IDLE. -/
  | idle
  /-- RUNNING. -/
  | running
  /-- SAFE: parked. -/
  | safe
  /-- FAULT. -/
  | fault
  /-- LOST: silent past its status timeout. -/
  | lost
deriving DecidableEq, Repr

/-- The code of a MachineState (11.1). -/
def MachineState.code : MachineState → Nat
  | .offline => 0
  | .idle => 1
  | .running => 2
  | .safe => 3
  | .fault => 4
  | .lost => 5

/-- A mode of a robot command frame (5.6). -/
inductive RobotMode where
  /-- STOP. -/
  | stop
  /-- HOLD. -/
  | hold
  /-- RUN. -/
  | run
deriving DecidableEq, Repr

/-- The code of a RobotMode (11.1). -/
def RobotMode.code : RobotMode → Nat
  | .stop => 0
  | .hold => 1
  | .run => 2

/-- The gate state of a robot (5.4). -/
inductive GateState where
  /-- HELD: receives the hold form. -/
  | held
  /-- ARMING: waits for RELEASE. -/
  | arming
  /-- RELEASED. -/
  | released
deriving DecidableEq, Repr

/-- The code of a GateState (11.1). -/
def GateState.code : GateState → Nat
  | .held => 0
  | .arming => 1
  | .released => 2

/-- A hold cause of a robot; the code is its bit number (R86, 11.1). -/
inductive Cause where
  /-- ZONE. -/
  | zone
  /-- PORT. -/
  | port
  /-- LOST. -/
  | lost
  /-- FAULT. -/
  | fault
  /-- SAFE. -/
  | safe
  /-- STALE. -/
  | stale
  /-- SUSPECT. -/
  | suspect
  /-- LINE. -/
  | line
deriving DecidableEq, Repr

/-- The code of a Cause (11.1). -/
def Cause.code : Cause → Nat
  | .zone => 0
  | .port => 1
  | .lost => 2
  | .fault => 3
  | .safe => 4
  | .stale => 5
  | .suspect => 6
  | .line => 7

/-- A cause of the line-hold set; the code is c of bit 7g + c (R67, R75, 11.1). -/
inductive LineCause where
  /-- GATE_PORT, conditional. -/
  | port
  /-- GATE_LOST, conditional. -/
  | lost
  /-- GATE_FAULT, conditional. -/
  | fault
  /-- GATE_ZONE, conditional. -/
  | zone
  /-- GATE_MISSED, latched. -/
  | missed
  /-- GATE_MISMATCH, latched. -/
  | mismatch
  /-- GATE_UNCONFIRMED, latched. -/
  | unconfirmed
deriving DecidableEq, Repr

/-- The code of a LineCause (11.1). -/
def LineCause.code : LineCause → Nat
  | .port => 0
  | .lost => 1
  | .fault => 2
  | .zone => 3
  | .missed => 4
  | .mismatch => 5
  | .unconfirmed => 6

/-- A grade (R52). -/
inductive Grade where
  /-- PASS. -/
  | pass
  /-- MINOR. -/
  | minor
  /-- MAJOR. -/
  | major
deriving DecidableEq, Repr

/-- The code of a Grade (11.1). -/
def Grade.code : Grade → Nat
  | .pass => 0
  | .minor => 1
  | .major => 2

/-- A defect class (3.2, R52, R54). -/
inductive DefectClass where
  /-- FILL. -/
  | fill
  /-- CLOSURE. -/
  | closure
  /-- LABEL. -/
  | label
  /-- COSMETIC. -/
  | cosmetic
  /-- IMAGE: the camera had no usable image. -/
  | image
  /-- NONE. -/
  | none
deriving DecidableEq, Repr

/-- The code of a DefectClass (11.1). -/
def DefectClass.code : DefectClass → Nat
  | .fill => 0
  | .closure => 1
  | .label => 2
  | .cosmetic => 3
  | .image => 4
  | .none => 5

/-- A zone state (6.3). -/
inductive ZoneState where
  /-- START. -/
  | start
  /-- RUN. -/
  | run
  /-- REQUESTED. -/
  | requested
  /-- BREAK. -/
  | breakpoint
  /-- OPEN. -/
  | opened
  /-- CLEARING. -/
  | clearing
  /-- HELD. -/
  | held
  /-- FORCED. -/
  | forced
deriving DecidableEq, Repr

/-- The code of a ZoneState (11.1). -/
def ZoneState.code : ZoneState → Nat
  | .start => 0
  | .run => 1
  | .requested => 2
  | .breakpoint => 3
  | .opened => 4
  | .clearing => 5
  | .held => 6
  | .forced => 7

/-- A port state (7.3). -/
inductive PortState where
  /-- DOWN. -/
  | down
  /-- ACTIVE. -/
  | active
  /-- LISTEN. -/
  | listen
  /-- LOCKED. -/
  | locked
deriving DecidableEq, Repr

/-- The code of a PortState (11.1). -/
def PortState.code : PortState → Nat
  | .down => 0
  | .active => 1
  | .listen => 2
  | .locked => 3

/-- The reason of a port's last change of state (7.1). -/
inductive PortReason where
  /-- LOAD. -/
  | load
  /-- LINK. -/
  | link
  /-- TABLE_STALE. -/
  | tableStale
  /-- VIOLATION. -/
  | violation
  /-- BUDGET. -/
  | budget
  /-- SILENCE. -/
  | silence
  /-- LOCKOUT. -/
  | lockout
  /-- CLEAR. -/
  | clear
deriving DecidableEq, Repr

/-- The code of a PortReason (11.1). -/
def PortReason.code : PortReason → Nat
  | .load => 0
  | .link => 1
  | .tableStale => 2
  | .violation => 3
  | .budget => 4
  | .silence => 5
  | .lockout => 6
  | .clear => 7

/-- The clock-unit state (R9). -/
inductive ClockState where
  /-- NONE. -/
  | none
  /-- LOCKED. -/
  | locked
  /-- HOLDOVER. -/
  | holdover
deriving DecidableEq, Repr

/-- The code of a ClockState (11.1). -/
def ClockState.code : ClockState → Nat
  | .none => 0
  | .locked => 1
  | .holdover => 2

/-- A mailbox slot's state (R112, R164). -/
inductive SlotState where
  /-- IDLE. -/
  | idle
  /-- IN_PROGRESS. -/
  | inProgress
  /-- COMPLETE. -/
  | complete
deriving DecidableEq, Repr

/-- The code of a SlotState (11.1). -/
def SlotState.code : SlotState → Nat
  | .idle => 0
  | .inProgress => 1
  | .complete => 2

/-- A completion code (R110, R164). -/
inductive Completion where
  /-- NORMAL. -/
  | normal
  /-- NORMAL-BREAK. -/
  | normalBreak
  /-- NORMAL-CLEAR. -/
  | normalClear
  /-- ABNORMAL-TIMEOUT. -/
  | abnormalTimeout
  /-- ABNORMAL-CHANGED. -/
  | abnormalChanged
  /-- ABNORMAL-GUARD. -/
  | abnormalGuard
  /-- ABNORMAL-CANCELLED. -/
  | abnormalCancelled
  /-- ABNORMAL-UNVERIFIABLE. -/
  | abnormalUnverifiable
  /-- ABNORMAL-REMAINING. -/
  | abnormalRemaining
  /-- INVALID. -/
  | invalid
  /-- BUSY. -/
  | busy
deriving DecidableEq, Repr

/-- The code of a Completion (11.1). -/
def Completion.code : Completion → Nat
  | .normal => 1
  | .normalBreak => 2
  | .normalClear => 3
  | .abnormalTimeout => 4
  | .abnormalChanged => 5
  | .abnormalGuard => 6
  | .abnormalCancelled => 7
  | .abnormalUnverifiable => 8
  | .abnormalRemaining => 9
  | .invalid => 10
  | .busy => 11

/-- A zone command (11.1, R113). -/
inductive ZoneCommand where
  /-- ENTER. -/
  | enter
  /-- CONFIRM. -/
  | confirm
  /-- EXTEND. -/
  | extend
  /-- CANCEL. -/
  | cancel
  /-- RESET. -/
  | reset
  /-- RESUME. -/
  | resume
  /-- SENSE. -/
  | sense
deriving DecidableEq, Repr

/-- The code of a ZoneCommand (11.1). -/
def ZoneCommand.code : ZoneCommand → Nat
  | .enter => 1
  | .confirm => 2
  | .extend => 3
  | .cancel => 4
  | .reset => 5
  | .resume => 6
  | .sense => 7

/-- The ZoneCommand a code of the image names, if any (11.1, R173). -/
def ZoneCommand.ofCode : Nat → Option ZoneCommand
  | 1 => some .enter
  | 2 => some .confirm
  | 3 => some .extend
  | 4 => some .cancel
  | 5 => some .reset
  | 6 => some .resume
  | 7 => some .sense
  | _ => none

/-- A command of the general slot (11.1, R164). -/
inductive GeneralCommand where
  /-- RELEASE. -/
  | release
  /-- CLEAR_SUSPECT. -/
  | clearSuspect
  /-- ACCOUNT_CLEAR. -/
  | accountClear
  /-- PORT_CLEAR. -/
  | portClear
  /-- SNAPSHOT. -/
  | snapshot
  /-- PURGE. -/
  | purge
  /-- LINE_RESUME. -/
  | lineResume
deriving DecidableEq, Repr

/-- The code of a GeneralCommand (11.1). -/
def GeneralCommand.code : GeneralCommand → Nat
  | .release => 16
  | .clearSuspect => 17
  | .accountClear => 18
  | .portClear => 19
  | .snapshot => 20
  | .purge => 21
  | .lineResume => 22

/-- The GeneralCommand a code of the image names, if any (11.1, R173). -/
def GeneralCommand.ofCode : Nat → Option GeneralCommand
  | 16 => some .release
  | 17 => some .clearSuspect
  | 18 => some .accountClear
  | 19 => some .portClear
  | 20 => some .snapshot
  | 21 => some .purge
  | 22 => some .lineResume
  | _ => none

/-- An outcome of a load or a request (9.2). -/
inductive LoadCode where
  /-- NONE. -/
  | none
  /-- APPLIED. -/
  | applied
  /-- BUSY. -/
  | busy
  /-- READ_ERROR. -/
  | readError
  /-- VERSION. -/
  | version
  /-- RANGE. -/
  | range
  /-- CONSISTENCY. -/
  | consistency
  /-- LINE_ACTIVE. -/
  | lineActive
  /-- MISMATCH. -/
  | mismatch
  /-- ZONE_OPEN. -/
  | zoneOpen
deriving DecidableEq, Repr

/-- The code of a LoadCode (11.1). -/
def LoadCode.code : LoadCode → Nat
  | .none => 0
  | .applied => 1
  | .busy => 2
  | .readError => 3
  | .version => 4
  | .range => 5
  | .consistency => 6
  | .lineActive => 7
  | .mismatch => 8
  | .zoneOpen => 9

/-- A load kind (R156). -/
inductive LoadKind where
  /-- FULL. -/
  | full
  /-- PARAMETER. -/
  | parameter
  /-- CHANGEOVER. -/
  | changeover
deriving DecidableEq, Repr

/-- The code of a LoadKind (11.1). -/
def LoadKind.code : LoadKind → Nat
  | .full => 1
  | .parameter => 2
  | .changeover => 3

/-- The LoadKind a code of the image names, if any (11.1, R173). -/
def LoadKind.ofCode : Nat → Option LoadKind
  | 1 => some .full
  | 2 => some .parameter
  | 3 => some .changeover
  | _ => none

/-- A reason for which placement names no bottle (R30). -/
inductive Unplaced where
  /-- TOO_OLD. -/
  | tooOld
  /-- FUTURE. -/
  | future
  /-- STALLED. -/
  | stalled
  /-- AMBIGUOUS. -/
  | ambiguous
  /-- OUT_OF_RANGE. -/
  | outOfRange
deriving DecidableEq, Repr

/-- The code of a Unplaced (11.1). -/
def Unplaced.code : Unplaced → Nat
  | .tooOld => 1
  | .future => 2
  | .stalled => 3
  | .ambiguous => 4
  | .outOfRange => 5

/-- The kind of a unit (0.3, 9 section 2). -/
inductive UnitKind where
  /-- ABSENT. -/
  | absent
  /-- FILLER: a robot. -/
  | filler
  /-- CAMERA. -/
  | camera
  /-- GATE. -/
  | gate
  /-- CLOCK. -/
  | clock
deriving DecidableEq, Repr

/-- The code of a UnitKind (11.1). -/
def UnitKind.code : UnitKind → Nat
  | .absent => 0
  | .filler => 1
  | .camera => 2
  | .gate => 3
  | .clock => 4

/-- The UnitKind a code of the image names, if any (11.1, R173). -/
def UnitKind.ofCode : Nat → Option UnitKind
  | 0 => some .absent
  | 1 => some .filler
  | 2 => some .camera
  | 3 => some .gate
  | 4 => some .clock
  | _ => none

/-- The kind of a window (8.3). -/
inductive WindowKind where
  /-- UNUSED. -/
  | unused
  /-- PLAIN. -/
  | plain
  /-- COMMAND. -/
  | command
  /-- STATUS. -/
  | status
  /-- VERDICT. -/
  | verdict
  /-- TIMEFRAME. -/
  | timeFrame
  /-- SWITCHTABLE. -/
  | switchTable
  /-- MAILBOX. -/
  | mailbox
  /-- VIEW. -/
  | view
  /-- NOTICE. -/
  | notice
deriving DecidableEq, Repr

/-- The code of a WindowKind (11.1). -/
def WindowKind.code : WindowKind → Nat
  | .unused => 0
  | .plain => 1
  | .command => 2
  | .status => 3
  | .verdict => 4
  | .timeFrame => 5
  | .switchTable => 6
  | .mailbox => 7
  | .view => 8
  | .notice => 9

/-- The WindowKind a code of the image names, if any (11.1, R173). -/
def WindowKind.ofCode : Nat → Option WindowKind
  | 0 => some .unused
  | 1 => some .plain
  | 2 => some .command
  | 3 => some .status
  | 4 => some .verdict
  | 5 => some .timeFrame
  | 6 => some .switchTable
  | 7 => some .mailbox
  | 8 => some .view
  | 9 => some .notice
  | _ => none

/-- The operation of a check (3.2). -/
inductive CheckOp where
  /-- OFF. -/
  | off
  /-- EQ. -/
  | eq
  /-- LE. -/
  | le
  /-- GE. -/
  | ge
  /-- IN. -/
  | within
  /-- OUT. -/
  | outside
deriving DecidableEq, Repr

/-- The code of a CheckOp (11.1). -/
def CheckOp.code : CheckOp → Nat
  | .off => 0
  | .eq => 1
  | .le => 2
  | .ge => 3
  | .within => 4
  | .outside => 5

/-- The CheckOp a code of the image names, if any (11.1, R173). -/
def CheckOp.ofCode : Nat → Option CheckOp
  | 0 => some .off
  | 1 => some .eq
  | 2 => some .le
  | 3 => some .ge
  | 4 => some .within
  | 5 => some .outside
  | _ => none

/-- The grade an unmet check imposes (3.2). -/
inductive Severity where
  /-- MINOR. -/
  | minor
  /-- MAJOR. -/
  | major
deriving DecidableEq, Repr

/-- The code of a Severity (11.1). -/
def Severity.code : Severity → Nat
  | .minor => 0
  | .major => 1

/-- The Severity a code of the image names, if any (11.1, R173). -/
def Severity.ofCode : Nat → Option Severity
  | 0 => some .minor
  | 1 => some .major
  | _ => none

/-- Whether an unmeasured byte fails or passes a check (3.2). -/
inductive Policy where
  /-- FAIL. -/
  | fail
  /-- SKIP. -/
  | skip
deriving DecidableEq, Repr

/-- The code of a Policy (11.1). -/
def Policy.code : Policy → Nat
  | .fail => 0
  | .skip => 1

/-- The Policy a code of the image names, if any (11.1, R173). -/
def Policy.ofCode : Nat → Option Policy
  | 0 => some .fail
  | 1 => some .skip
  | _ => none

/-- A notice kind (11.1). -/
inductive NoticeKind where
  /-- CLOCK_STEP. -/
  | clockStep
  /-- CLOCK_BACKSLEW. -/
  | clockBackslew
  /-- CLOCK_LOCKED. -/
  | clockLocked
  /-- CLOCK_HOLDOVER. -/
  | clockHoldover
  /-- CLOCK_NONE. -/
  | clockNone
  /-- LINE_RUNNING. -/
  | lineRunning
  /-- LINE_STOPPED. -/
  | lineStopped
  /-- MAINT_DUE. -/
  | maintDue
  /-- VERDICT_UNPLACED. -/
  | verdictUnplaced
  /-- VERDICT_LATE. -/
  | verdictLate
  /-- VERDICT_GAP. -/
  | verdictGap
  /-- CHANGEOVER_APPLIED. -/
  | changeoverApplied
  /-- SNAPSHOT_FAULT. -/
  | snapshotFault
  /-- LINE_HOLD. -/
  | lineHold
  /-- ROBOT_SUSPECT. -/
  | robotSuspect
  /-- ROBOT_FAULT. -/
  | robotFault
  /-- ROBOT_LOST. -/
  | robotLost
  /-- ROBOT_HELD. -/
  | robotHeld
  /-- ROBOT_ARMING. -/
  | robotArming
  /-- ROBOT_RELEASED. -/
  | robotReleased
  /-- ZONE_COMPLETION. -/
  | zoneCompletion
  /-- PORT_STATE. -/
  | portState
  /-- WOULD_QUARANTINE. -/
  | wouldQuarantine
  /-- SWITCH_TABLE_STALE. -/
  | switchTableStale
  /-- SWITCH_TABLE_RESUMED. -/
  | switchTableResumed
  /-- LOAD_OUTCOME. -/
  | loadOutcome
  /-- COMMAND_COMPLETION. -/
  | commandCompletion
deriving DecidableEq, Repr

/-- The code of a NoticeKind (11.1). -/
def NoticeKind.code : NoticeKind → Nat
  | .clockStep => 1
  | .clockBackslew => 2
  | .clockLocked => 3
  | .clockHoldover => 4
  | .clockNone => 5
  | .lineRunning => 6
  | .lineStopped => 7
  | .maintDue => 8
  | .verdictUnplaced => 9
  | .verdictLate => 10
  | .verdictGap => 11
  | .changeoverApplied => 12
  | .snapshotFault => 13
  | .lineHold => 14
  | .robotSuspect => 15
  | .robotFault => 16
  | .robotLost => 17
  | .robotHeld => 18
  | .robotArming => 19
  | .robotReleased => 20
  | .zoneCompletion => 21
  | .portState => 22
  | .wouldQuarantine => 23
  | .switchTableStale => 24
  | .switchTableResumed => 25
  | .loadOutcome => 26
  | .commandCompletion => 27

/-- The rule that gives a notice of this kind: notices of one rule join in that rule's order (R166). -/
def NoticeKind.rule : NoticeKind → Nat
  | .clockStep => 5
  | .clockBackslew => 6
  | .clockLocked => 9
  | .clockHoldover => 9
  | .clockNone => 10
  | .lineRunning => 12
  | .lineStopped => 14
  | .maintDue => 16
  | .verdictUnplaced => 37
  | .verdictLate => 40
  | .verdictGap => 46
  | .changeoverApplied => 57
  | .snapshotFault => 63
  | .lineHold => 75
  | .robotSuspect => 79
  | .robotFault => 85
  | .robotLost => 85
  | .robotHeld => 89
  | .robotArming => 89
  | .robotReleased => 89
  | .zoneCompletion => 111
  | .portState => 131
  | .wouldQuarantine => 139
  | .switchTableStale => 130
  | .switchTableResumed => 128
  | .loadOutcome => 163
  | .commandCompletion => 164

/-- A reason for which a gate rejects a bottle, in the order of R69. -/
inductive Reason where
  /-- PURGED. -/
  | purged
  /-- UNFILLED. -/
  | unfilled
  /-- DISTURBED. -/
  | disturbed
  /-- NO_VERDICT. -/
  | noVerdict
  /-- MAJOR. -/
  | major
deriving DecidableEq, Repr

/-- A response code (R144). -/
inductive Response where
  /-- OKAY. -/
  | okay
  /-- DENIED. -/
  | denied
  /-- FAULT. -/
  | fault
deriving DecidableEq, Repr

/-- Which requester an own transaction is of (R152). -/
inductive Requester where
  /-- The loader's reads. -/
  | config
  /-- Snapshot writes. -/
  | snapshot
  /-- Notice writes. -/
  | notice
deriving DecidableEq, Repr

/-- The defect classes a check may report (R158 section 8). -/
def DefectClass.ofCode : Nat → Option DefectClass
  | 0 => some .fill
  | 1 => some .closure
  | 2 => some .label
  | 3 => some .cosmetic
  | _ => Option.none

/-- The mode a processor's mode byte names, if any (R98, R171). -/
def RobotMode.ofCode : Nat → Option RobotMode
  | 0 => some .stop
  | 1 => some .hold
  | 2 => some .run
  | _ => none

/-- The state a reported-state byte names: any value but 1 … 4 is FAULT (R171). -/
def MachineState.ofReported : Nat → MachineState
  | 1 => .idle
  | 2 => .running
  | 3 => .safe
  | _ => .fault

/-! ## The configuration in force (chapter 9, layouts in 11.6) -/

/-- A window entry (8.3). -/
structure Window where
  /-- The kind. -/
  kind : WindowKind
  /-- The unit byte, for COMMAND, STATUS, VERDICT and TIMEFRAME. -/
  unit : Nat
  /-- Bit n − 1: port n may write, for PLAIN (log 49). -/
  writers : BitVec 16
  /-- Bit n − 1: port n may read, for PLAIN (log 49). -/
  readers : BitVec 16
  /-- First byte address. -/
  base : Nat
  /-- Size in bytes. -/
  size : Nat
deriving DecidableEq, Repr

/-- An UNUSED window entry, as RESET_N leaves all 32 (R153); its other fields govern nothing. -/
def Window.unused : Window :=
  { kind := .unused, unit := 0, writers := 0, readers := 0, base := 0, size := 0 }

/-- A unit entry with the robot parameters (5.1, 11.6). -/
structure UnitCfg where
  /-- The kind. -/
  kind : UnitKind
  /-- The switch port, 1 … 16. -/
  port : Nat
  /-- The zone, 0 … 7; not read for a CLOCK unit. -/
  zone : Nat
  /-- Whether every release waits for RELEASE. -/
  alwaysConfirm : Bool
  /-- SAFE reports needed, 1 … 8. -/
  safeCount : Nat
  /-- Status timeout in ms of local time. -/
  statusTimeout : Nat
  /-- Stale limit in ms of hall time. -/
  staleLimit : Nat
  /-- Lower end of the envelope, 0.1 ml. -/
  vmin : Nat
  /-- Upper end of the envelope. -/
  vmax : Nat
  /-- Slew, per mille per ms. -/
  slew : Nat
deriving DecidableEq, Repr

/-- A zone entry (6.1). -/
structure ZoneCfg where
  /-- Whether the zone has a span. -/
  hasSpan : Bool
  /-- Whether an access request stops in BREAK. -/
  breakpoint : Bool
  /-- First position of the span. -/
  first : Nat
  /-- Last position of the span. -/
  last : Nat
deriving DecidableEq, Repr

/-- A port entry (7.1). -/
structure PortCfg where
  /-- Mode OBSERVE, else ENFORCE. -/
  observe : Bool
  /-- Violation limit. -/
  limit : Nat
  /-- Write budget in words per interval. -/
  budget : Nat
  /-- Silence time in ms. -/
  silence : Nat
deriving DecidableEq, Repr

/-- A gate entry (4.1). -/
structure GateCfg where
  /-- Whether the gate is present. -/
  present : Bool
  /-- The GATE unit. -/
  unit : Nat
  /-- Advance A_g in pitches. -/
  advance : Nat
  /-- Distance D_g in pitches. -/
  distance : Nat
  /-- Status timeout in ms. -/
  statusTimeout : Nat
  /-- Bit c: camera number c is assigned to the gate. -/
  cameraSet : Byte
deriving DecidableEq, Repr

/-- A camera entry (2.4, 3.4, 3.7). -/
structure CameraCfg where
  /-- Whether a camera holds this number. -/
  present : Bool
  /-- The CAMERA unit. -/
  unit : Nat
  /-- d_c in 1/16 pitch. -/
  distance : Nat
  /-- w_c in 1/16 pitch. -/
  halfWindow : Nat
  /-- The verbose flag. -/
  verbose : Bool
  /-- t0. -/
  chainFirst : Nat
  /-- s. -/
  chainStep : Nat
  /-- tL. -/
  chainLast : Nat
  /-- The snapshot address. -/
  snapshotAddr : Nat
deriving DecidableEq, Repr

/-- The timers and thresholds section (11.6). -/
structure Timers where
  /-- Minimum pitch in ms. -/
  minPitch : Nat
  /-- Stop time in ms. -/
  stopTime : Nat
  /-- Nominal pitch period in ns. -/
  nominalPeriod : Nat
  /-- Path delay in ns. -/
  pathDelay : Nat
  /-- Suspect threshold. -/
  suspectThreshold : Nat
  /-- Maintenance thresholds in hours. -/
  maintenance : Table Nat 24
deriving DecidableEq, Repr

/-- The configuration in force, but for the template set, which the banks hold. -/
structure HallConfig where
  /-- Section 1. -/
  windows : Table Window 32
  /-- Section 2. -/
  units : Table UnitCfg 24
  /-- Section 3. -/
  zones : Table ZoneCfg 8
  /-- Section 4; entry p is port p + 1. -/
  ports : Table PortCfg 16
  /-- Section 5. -/
  gates : Table GateCfg 2
  /-- Section 6: how many entries the fill order has. -/
  fillCount : Nat
  /-- Section 6: r0 … r7. -/
  fillUnits : Table Nat 8
  /-- Section 7, by camera number. -/
  cameras : Table CameraCfg 6
  /-- Section 9. -/
  timers : Timers
  /-- Section 10. -/
  ringSize : Nat
deriving DecidableEq, Repr

/-- A check of a template (3.2). -/
structure Check where
  /-- The measurement byte tested. -/
  byteNo : Nat
  /-- The test. -/
  op : CheckOp
  /-- Reference a; 255 masks the check. -/
  a : Nat
  /-- Reference b. -/
  b : Nat
  /-- The defect an unmet check reports. -/
  cls : DefectClass
  /-- The grade an unmet check imposes. -/
  severity : Severity
  /-- What an unmeasured byte does. -/
  policy : Policy
deriving DecidableEq, Repr

/-- A template: 16 checks. -/
abbrev Template := Table Check 16

/-- A template bank: 16 templates. -/
abbrev Bank := Table Template 16

/-! ## Time and pitch (chapter 1) -/

/-- One GUARD input (R106). Levels are true for OPEN. -/
structure Guard where
  /-- The raw level. -/
  raw : Bool
  /-- Local time at which the raw level last changed. -/
  since : Nat
  /-- The filtered level. -/
  level : Bool
deriving DecidableEq, Repr

/-- A pitch-log entry (R13). -/
structure Mark where
  /-- The bottle index. -/
  bottle : Bottle
  /-- The hall time of the mark. -/
  time : Nat
deriving DecidableEq, Repr

/-- A unit's account (1.5). -/
structure Account where
  /-- Whole productive seconds. -/
  seconds : Nat
  /-- Productive ns not yet making a second. -/
  remainder : Nat
  /-- The due flag. -/
  due : Bool
deriving DecidableEq, Repr

/-! ## Bottles, verdicts and decisions (chapters 2 to 4) -/

/-- What grading returns: grade, defect class, check number, template used (R53). -/
structure Graded where
  /-- The grade. -/
  grade : Grade
  /-- The defect class. -/
  cls : DefectClass
  /-- The check number. -/
  check : Nat
  /-- The template used, or none (R54). -/
  template : Option Nat
deriving DecidableEq, Repr

/-- A verdict entry of a slot (2.1). -/
structure VerdictEntry where
  /-- The kept grade with its defect. -/
  kept : Graded
  /-- The double flag. -/
  double : Bool
deriving DecidableEq, Repr

/-- A formed decision (2.1, R69, R70). Its outcome is PASS exactly when the reason set is empty. -/
structure Decision where
  /-- The reason set, in the order of R69. -/
  reasons : List Reason
  /-- The UNDELIVERABLE flag. -/
  undeliverable : Bool
  /-- The delivered flag. -/
  delivered : Bool
  /-- Confirmed, with the ejected flag of the report that last confirmed it (R72). -/
  confirmed : Option Bool
  /-- The late-verdict count. -/
  late : Nat
deriving DecidableEq, Repr

/-- The outcome is REJECT (R69). -/
def Decision.rejects (d : Decision) : Bool :=
  !d.reasons.isEmpty

/-- The primary reason: the first of the set (R69). -/
def Decision.primary (d : Decision) : Option Reason :=
  d.reasons.head?

/-- A tracking slot (2.1). -/
structure Slot where
  /-- The bottle index. -/
  bottle : Bottle
  /-- Hall time of the bottle's mark. -/
  entry : Nat
  /-- The filler. -/
  filler : Option (Fin 24)
  /-- FILLED, else UNFILLED. -/
  filled : Bool
  /-- The bank generation. -/
  generation : Bool
  /-- The verdict entries by camera number. -/
  verdicts : Table (Option VerdictEntry) 6
  /-- Disturbed, with the zone that set it. -/
  disturbed : Option (Fin 8)
  /-- Purged. -/
  purged : Bool
  /-- The decision entries by gate. -/
  decisions : Table (Option Decision) 2
  /-- Ejected, with the gate that ejected it. -/
  ejected : Option (Fin 2)
deriving DecidableEq, Repr

/-- The 32-bit counts of a camera, in the order of the snapshot record (R59, 11.4). -/
structure CameraCounts where
  /-- taken -/
  taken : Nat
  /-- placed -/
  placed : Nat
  /-- unplaced -/
  unplaced : Nat
  /-- TOO_OLD -/
  tooOld : Nat
  /-- FUTURE -/
  future : Nat
  /-- STALLED -/
  stalled : Nat
  /-- AMBIGUOUS -/
  ambiguous : Nat
  /-- OUT_OF_RANGE -/
  outOfRange : Nat
  /-- late -/
  late : Nat
  /-- PASS -/
  pass : Nat
  /-- MINOR -/
  minor : Nat
  /-- MAJOR -/
  major : Nat
  /-- stale -/
  stale : Nat
  /-- missed -/
  missed : Nat
  /-- double -/
  double : Nat
  /-- The per-check fail counts of t0, 16 bits each (R55). -/
  fails : Table Nat 16
deriving DecidableEq, Repr

/-- A camera record (3.1, 3.6). -/
structure CameraRec where
  /-- The last taken sequence. -/
  lastSeq : Option Seq
  /-- The statistics. -/
  counts : CameraCounts
deriving DecidableEq, Repr

/-- A gate record (4.1). -/
structure GateRec where
  /-- The accepted state. -/
  accepted : MachineState
  /-- The last taken status sequence. -/
  lastSeq : Option Seq
  /-- The last report: bottle index and ejected flag. -/
  lastReport : Option (Bottle × Bool)
  /-- The fault code of the last taken frame. -/
  faultCode : BitVec 16
  /-- Local time of the last taken frame while the status timer runs. -/
  statusStart : Option Nat
  /-- passed count -/
  passed : Nat
  /-- rejected count -/
  rejected : Nat
  /-- undeliverable count -/
  undeliverable : Nat
  /-- stale status count -/
  staleStatus : Nat
  /-- unmatched report count -/
  unmatched : Nat
deriving DecidableEq, Repr

/-! ## Robots, zones, ports (chapters 5 to 7) -/

/-- A robot record (5.1), with its attribution ring and SUSPECT latch (4.6). -/
structure Robot where
  /-- The accepted state. -/
  accepted : MachineState
  /-- Consecutive SAFE reports taken while SAFE is not yet accepted. -/
  safeRun : Nat
  /-- The last taken status sequence. -/
  lastSeq : Option Seq
  /-- Local time of the last taken frame while the status timer runs. -/
  statusStart : Option Nat
  /-- The fault code. -/
  faultCode : BitVec 16
  /-- The cause set, bit by `Cause.code`. -/
  causes : Byte
  /-- The gate state. -/
  gate : GateState
  /-- Release-confirm. -/
  confirm : Bool
  /-- The recorded command sequence. -/
  cmdSeq : Option Seq
  /-- The sequence change time. -/
  seqTime : Option Nat
  /-- The last forwarded volume. -/
  lastVolume : Option Nat
  /-- The last forwarded speed. -/
  lastSpeed : Nat
  /-- The last forward time. -/
  lastForward : Option Nat
  /-- stale status count -/
  staleStatus : Nat
  /-- mode error count -/
  modeErrors : Nat
  /-- The attribution ring, oldest first. -/
  ring : List Bool
  /-- The SUSPECT latch. -/
  suspect : Bool
deriving DecidableEq, Repr

/-- The origin of a zone completion (R110, R111). -/
inductive Origin where
  /-- None. -/
  | none
  /-- A command of this sequence. -/
  | command (seq : Byte)
  /-- AUTONOMOUS. -/
  | autonomous
deriving DecidableEq, Repr

/-- A pending zone completion (R110). -/
structure PendingCompletion where
  /-- Its code. -/
  code : Completion
  /-- Its origin. -/
  origin : Origin
  /-- The further-events flag. -/
  further : Bool
deriving DecidableEq, Repr

/-- The reply answer of a zone slot (R112). -/
structure ZoneReply where
  /-- The answer's sequence. -/
  seq : Option Byte
  /-- The answer's code. -/
  code : Option Completion
  /-- The answer's origin. -/
  origin : Origin
  /-- The further-events flag. -/
  further : Bool
deriving DecidableEq, Repr

/-- A zone record (6.1). -/
structure Zone where
  /-- The state. -/
  state : ZoneState
  /-- The lock output is RELEASED. -/
  unlocked : Bool
  /-- The has-run flag. -/
  hasRun : Bool
  /-- The forced cause. -/
  forcedCause : Option ZoneState
  /-- The forced count. -/
  forcedCount : Nat
  /-- The after-forced flag. -/
  afterForced : Bool
  /-- Local time at which the request began, while the access timer runs. -/
  access : Option Nat
  /-- The extended flag. -/
  extended : Bool
  /-- The safe-reached set, ascending. -/
  safeReached : List (Fin 24)
  /-- Local time at which the clearing window began, while it runs. -/
  clearing : Option Nat
  /-- The slot's last received sequence. -/
  lastSeq : Option Byte
  /-- The sequence of the ENTER in flight. -/
  inFlight : Option Byte
  /-- The pending completion. -/
  pending : Option PendingCompletion
  /-- The reply answer. -/
  reply : ZoneReply
deriving DecidableEq, Repr

/-- A port record (7.1). -/
structure Port where
  /-- The state. -/
  state : PortState
  /-- The last reason. -/
  reason : PortReason
  /-- The accepted link is UP. -/
  linkUp : Bool
  /-- The up run. -/
  upRun : Nat
  /-- The speed code. -/
  speed : Byte
  /-- The switch's receive errors. -/
  rxErrors : BitVec 32
  /-- Interval violations. -/
  intervalViolations : Nat
  /-- Interval words. -/
  intervalWords : Nat
  /-- The would-quarantine flag. -/
  wouldQuarantine : Bool
  /-- Local time of the last write attempt while the silence timer runs. -/
  silence : Option Nat
  /-- The LISTEN history, oldest first. -/
  history : List Nat
  /-- violation count -/
  violations : Nat
  /-- denied count -/
  denied : Nat
  /-- fragment count -/
  fragments : Nat
  /-- overrun count -/
  overruns : Nat
deriving DecidableEq, Repr

/-! ## The memory path (chapter 8) -/

/-- A record or watched word of a write, handed to its owner at memory's OKAY (R148, R149). -/
inductive Handover where
  /-- A STATUS slot of robot `u`. -/
  | robotStatus (u : Fin 24) (slot : List Byte)
  /-- A STATUS slot of gate `g`. -/
  | gateStatus (g : Fin 2) (slot : List Byte)
  /-- A VERDICT slot of camera number `c`. -/
  | verdict (c : Fin 6) (slot : List Byte)
  /-- A TIMEFRAME slot of unit `u`. -/
  | timeFrame (u : Fin 24) (slot : List Byte)
  /-- The whole switch table. -/
  | switchTable (table : List Byte)
  /-- The sequence field of robot `u`'s command frame. -/
  | sequence (u : Fin 24) (value : Seq)
  /-- The command word of zone slot `z`. -/
  | zoneWord (z : Fin 8) (word : Word)
  /-- The command word of the general slot. -/
  | generalWord (word : Word)
  /-- The consumer word. -/
  | consumer (word : Word)
  /-- The image's control word. -/
  | control (word : Word)
deriving DecidableEq, Repr

/-- What the path controller settled for a transaction at its presentation (R147). -/
inductive Treatment where
  /-- Forwarded and returned unchanged. -/
  | plain
  /-- Refused: answered DENIED. -/
  | denied
  /-- A view read, answered by the part (R151). -/
  | view
  /-- A processor write that may cover the image's control word (R149, R153). -/
  | image
  /-- Forwarded and observed under entry `i`, as matched (R148, R149). -/
  | observed (i : Fin 32) (w : Window)
  /-- Forwarded and substituted under entry `i`, as matched (R150). -/
  | substituted (i : Fin 32) (w : Window)
deriving DecidableEq, Repr

/-- How far a presented transaction has gone. -/
inductive Stage where
  /-- Forwarded and waiting for the downstream port (R152). -/
  | waiting
  /-- Granted: outstanding at memory. -/
  | atMemory
  /-- Answered OKAY by memory; these records are still to be handed over. -/
  | handing (left : List Handover)
  /-- Needs no memory: waits for the earlier transactions of its tag (R144). -/
  | held
deriving DecidableEq, Repr

/-- A presented transaction not yet answered. -/
structure Flight where
  /-- The transaction. -/
  txn : Txn
  /-- Its treatment. -/
  treatment : Treatment
  /-- How far it has gone. -/
  stage : Stage
deriving DecidableEq, Repr

/-- A response given at the upstream port (R144). -/
structure Reply where
  /-- The source. -/
  tag : Fin 32
  /-- The code. -/
  response : Response
  /-- The data of a read. -/
  data : List Word
deriving DecidableEq, Repr

/-- An own transaction on the downstream port (R152). -/
structure OwnTxn where
  /-- Whose it is. -/
  requester : Requester
  /-- The byte address. -/
  addr : Nat
  /-- The words of a write; empty for a read of one line. -/
  data : List Word
  /-- A notice write presented before a FULL application (R169). -/
  oldRing : Bool
deriving DecidableEq, Repr

/-! ## Reports and loads (chapters 9 and 10) -/

/-- A notice (10.2). -/
structure Notice where
  /-- The kind. -/
  kind : NoticeKind
  /-- The subject. -/
  subject : Nat
  /-- The code. -/
  code : Nat
  /-- The hall time. -/
  stamp : Nat
  /-- The bottle index, if present. -/
  bottle : Option Bottle
  /-- The detail word. -/
  detail : BitVec 32
deriving DecidableEq, Repr

/-- The copy a SNAPSHOT makes (R61, 3.7). -/
structure SnapshotCopy where
  /-- The camera number. -/
  camera : Fin 6
  /-- The camera's unit number. -/
  unit : Nat
  /-- The clear flag of the command. -/
  clear : Bool
  /-- Hall time of the copy. -/
  time : Nat
  /-- The last taken sequence. -/
  lastSeq : Option Seq
  /-- The statistics. -/
  counts : CameraCounts
  /-- The bank generation. -/
  generation : Bool
  /-- The changeover bottle index. -/
  changeover : Option Bottle
  /-- The snapshot sequence. -/
  sequence : BitVec 32
deriving DecidableEq, Repr

/-- A snapshot in flight (3.7). -/
structure Snapshot where
  /-- The copied record. -/
  copy : SnapshotCopy
  /-- The address to write it to. -/
  addr : Nat
  /-- How many of its two writes have not been answered. -/
  unanswered : Nat
  /-- Whether one was answered FAULT. -/
  faulted : Bool
  /-- The mailbox sequence of the command. -/
  command : Byte
deriving DecidableEq, Repr

/-- The last outcome (R163). -/
structure LoadOutcome where
  /-- The code. -/
  code : LoadCode
  /-- The load kind of the request. -/
  kind : Nat
  /-- The section. -/
  part : Nat
  /-- The entry. -/
  entry : Nat
deriving DecidableEq, Repr

end Sys2Proof.Machine
end

