-- ==== Sys2Proof/Machine/State.lean ====
section
/-! DEFINITION. The state of the part: every item the spec gives its ten blocks (INVENTORY.md, State), and the queue of
commands that wait. `State.reset` is the part right after RESET_N. -/

namespace Sys2Proof.Machine

/-- No step of the part stops it with a fault: memory's FAULT and the part's own DENIED are answers (R144), a refused
load is an outcome (R163), a refused command completes INVALID or BUSY (R109, R164). So there is no member (log 38). -/
inductive Fault where
deriving DecidableEq, Repr

/-- Why a step has no meaning. -/
inductive Refusal where
  /-- Raised by an arm of `exec` for a row that has no meaning yet; no arm raises it. Safe: the step then says nothing. -/
  | notModelled (mnemonic : String)
deriving DecidableEq, Repr

/-- The time unit (chapter 1). -/
structure TimeUnit where
  /-- Local time since the release of RESET_N, ns. -/
  localTime : Nat
  /-- Hall time, ns. -/
  hall : Nat
  /-- The sub-nanosecond part of hall time, in 10^-9 ns. -/
  fraction : Nat
  /-- The frequency trim f, ppb. -/
  trim : Int
  /-- The pending phase correction p, ns. -/
  correction : Int
  /-- Local time counted toward the next move of R2, ns. -/
  slewProgress : Nat
  /-- The clock-unit state. -/
  clock : ClockState
  /-- The last taken sequence of a time frame. -/
  lastSeq : Option Seq
  /-- The previous arrival stamp. -/
  previousArrival : Nat
  /-- The rejected-frame count. -/
  rejected : Nat
  /-- Local time of the last taken frame while the holdover timer runs. -/
  holdoverStart : Option Nat
  /-- The next index. -/
  nextIndex : Bottle
  /-- The newest bottle index. -/
  newest : Option Bottle
  /-- The pitch log, oldest first. -/
  pitchLog : List Mark
  /-- The line is RUNNING. -/
  running : Bool
  /-- Local time of the last accepted mark while the stop timer runs. -/
  stopStart : Option Nat
  /-- The glitch count. -/
  glitches : Nat
  /-- The accounts by unit. -/
  accounts : Table Account 24
deriving DecidableEq, Repr

/-- The grading unit (chapter 3). -/
structure Grading where
  /-- Bank CURRENT. -/
  current : Bank
  /-- Bank PREVIOUS. -/
  previous : Bank
  /-- Bank STAGING, if it holds a set. -/
  staging : Option Bank
  /-- The bank generation. -/
  generation : Bool
  /-- The changeover bottle index. -/
  changeover : Option Bottle
  /-- The camera records. -/
  cameras : Table CameraRec 6
deriving DecidableEq, Repr

/-- The switch-table state and the interval of the port monitor (chapter 7). -/
structure TableState where
  /-- Local time at which the table timer started, while it runs. -/
  timer : Option Nat
  /-- The stale flag. -/
  stale : Bool
  /-- The table fragment count. -/
  fragments : Nat
  /-- Local time at which the current interval began. -/
  intervalStart : Nat
deriving DecidableEq, Repr

/-- The path controller, but for the window table, which the configuration holds (chapter 8). -/
structure Path where
  /-- The transactions presented and not yet answered, in order of presentation. -/
  flights : List Flight
  /-- The own queue, oldest first. -/
  ownQueue : List OwnTxn
  /-- The wait count of the own head. -/
  ownWait : Nat
  /-- Own transactions granted and not yet answered, oldest first. -/
  ownAtMemory : List OwnTxn
  /-- The other denied count. -/
  otherDenied : Nat
  /-- The responses given at the upstream port, oldest first: the model's own record of its output (log 6). -/
  responses : List Reply
deriving DecidableEq, Repr

/-- The configuration loader (9.2); the load state is READING while a kind is in flight. -/
structure Loader where
  /-- The kind in flight. -/
  kind : Option LoadKind
  /-- The staged copy: the lines read so far, in the order they were read. -/
  staged : List (List Word)
  /-- The request count. -/
  requests : BitVec 16
  /-- The last outcome. -/
  outcome : LoadOutcome
deriving DecidableEq, Repr

/-- The report unit (chapter 10, 3.7). -/
structure Report where
  /-- The general slot's last received sequence. -/
  lastSeq : Option Byte
  /-- The general slot's state. -/
  slot : SlotState
  /-- The general slot's reply answer. -/
  reply : Option (Byte × Completion)
  /-- The snapshot in flight. -/
  snapshot : Option Snapshot
  /-- The snapshot sequence. -/
  snapshotSeq : BitVec 32
  /-- The notice queue, oldest first. -/
  notices : List Notice
  /-- The producer. -/
  producer : BitVec 32
  /-- The consumer. -/
  consumer : BitVec 32
  /-- The dropped count. -/
  dropped : Nat
  /-- The consumer error count. -/
  consumerErrors : Nat
deriving DecidableEq, Repr

/-- The state of the part. -/
structure State where
  /-- The model's own: the commands that wait, first in, first out. -/
  pending : List Instr
  /-- The model's own: notices given by the step under way, before they join the notice queue (R166, log 9). -/
  given : List Notice
  /-- The model's own: numbers the steps that may use a free value (log 9). -/
  freeIndex : Nat
  /-- CFG_BASE as sampled (R153). -/
  cfgBase : BitVec 4
  /-- The level of OBSERVE_ALL as last read (R139, log 7). -/
  observeAll : Bool
  /-- The guard inputs and their filters (R106). -/
  guards : Table Guard 8
  /-- The configuration in force; none while UNCONFIGURED (R153). -/
  config : Option HallConfig
  /-- The time unit. -/
  time : TimeUnit
  /-- The tracking queue, head first (R19). -/
  queue : List Slot
  /-- The grading unit. -/
  grading : Grading
  /-- The gate records (4.1). -/
  gates : Table (Option GateRec) 2
  /-- The line-hold set, bit 7g + c (4.5). -/
  lineHold : BitVec 14
  /-- The robot records by unit (5.1). -/
  robots : Table (Option Robot) 24
  /-- The zone records (6.1). -/
  zones : Table Zone 8
  /-- The port records; entry p is port p + 1 (7.1). -/
  ports : Table Port 16
  /-- The switch-table state. -/
  table : TableState
  /-- The path controller. -/
  path : Path
  /-- The configuration loader. -/
  loader : Loader
  /-- The report unit. -/
  report : Report
deriving DecidableEq, Repr

/-- The check that RESET_N leaves in every place of a bank: OFF (R49). -/
def Check.off : Check :=
  { byteNo := 0, op := .off, a := 0, b := 0, cls := .fill, severity := .minor, policy := .fail }

/-- A bank of OFF checks (R49). -/
def Bank.off : Bank :=
  Table.replicate 16 (Table.replicate 16 Check.off)

/-- A camera's counts, all 0 (R59). -/
def CameraCounts.zero : CameraCounts :=
  { taken := 0, placed := 0, unplaced := 0, tooOld := 0, future := 0, stalled := 0, ambiguous := 0, outOfRange := 0,
    late := 0, pass := 0, minor := 0, major := 0, stale := 0, missed := 0, double := 0, fails := Table.replicate 16 0 }

/-- A camera record after RESET_N or a FULL load (3.1, R59). -/
def CameraRec.fresh : CameraRec :=
  { lastSeq := none, counts := CameraCounts.zero }

/-- A zone record as the application of a FULL load leaves it (R105). -/
def Zone.fresh : Zone :=
  { state := .start, unlocked := false, hasRun := false, forcedCause := none, forcedCount := 0, afterForced := false,
    access := none, extended := false, safeReached := [], clearing := none, lastSeq := none, inFlight := none,
    pending := none, reply := { seq := none, code := none, origin := .none, further := false } }

/-- A port record as the application of a FULL load leaves it (R127). -/
def Port.fresh : Port :=
  { state := .down, reason := .load, linkUp := false, upRun := 0, speed := 0, rxErrors := 0, intervalViolations := 0,
    intervalWords := 0, wouldQuarantine := false, silence := none, history := [], violations := 0, denied := 0,
    fragments := 0, overruns := 0 }

/-- The part after RESET_N. The straps and the raw guard levels come from outside (log 8); the zone, port and
switch-table records do not exist before the first FULL load and hold the values it gives them (log 18). -/
def State.reset : State :=
  { pending := []
    given := []
    freeIndex := 0
    cfgBase := 0
    observeAll := false
    guards := Table.replicate 8 { raw := true, since := 0, level := true }
    config := none
    time :=
      { localTime := 0, hall := 0, fraction := 0, trim := 0, correction := 0, slewProgress := 0, clock := .none,
        lastSeq := none, previousArrival := 0, rejected := 0, holdoverStart := none, nextIndex := 0, newest := none,
        pitchLog := [], running := false, stopStart := none, glitches := 0,
        accounts := Table.replicate 24 { seconds := 0, remainder := 0, due := false } }
    queue := []
    grading :=
      { current := Bank.off, previous := Bank.off, staging := none, generation := false, changeover := none,
        cameras := Table.replicate 6 CameraRec.fresh }
    gates := Table.replicate 2 none
    lineHold := 0
    robots := Table.replicate 24 none
    zones := Table.replicate 8 Zone.fresh
    ports := Table.replicate 16 Port.fresh
    table := { timer := none, stale := false, fragments := 0, intervalStart := 0 }
    path := { flights := [], ownQueue := [], ownWait := 0, ownAtMemory := [], otherDenied := 0, responses := [] }
    loader := { kind := none, staged := [], requests := 0, outcome := { code := .none, kind := 0, part := 0, entry := 0 } }
    report :=
      { lastSeq := none, slot := .idle, reply := none, snapshot := none, snapshotSeq := 0, notices := [], producer := 0,
        consumer := 0, dropped := 0, consumerErrors := 0 } }

end Sys2Proof.Machine
end

