-- ==== Sys2Proof/Machine/Bytes.lean ====
section
/-! DEFINITION. Byte order and records in memory (00 0.5, chapter 11): little-endian fields, the words a write covers,
and the rewriting of listed fields in the words of a read. -/

namespace Sys2Proof.Machine

/-- Byte `i` of a word, byte 0 the least significant (0.5). -/
def byteOf (w : Word) (i : Nat) : Byte :=
  w.extractLsb' (8 * i) 8

/-- The eight bytes of a word, lowest address first. -/
def wordBytes (w : Word) : List Byte :=
  (List.range 8).map (byteOf w)

/-- The number that little-endian bytes hold. -/
def leNat : List Byte → Nat
  | [] => 0
  | b :: bs => b.toNat + 256 * leNat bs

/-- The number in the `size` bytes at `off` of a record. -/
def fieldAt (bytes : List Byte) (off size : Nat) : Nat :=
  leNat ((bytes.drop off).take size)

/-- Bit `i` of the byte at `off` of a record (R171: a flag is read from its own bit). -/
def flagAt (bytes : List Byte) (off i : Nat) : Bool :=
  (bytes.getD off 0).getLsbD i

/-- A listed field of a record: its place, its size in bytes and its value. -/
structure Field where
  /-- Offset of its first byte. -/
  off : Nat
  /-- Size in bytes. -/
  size : Nat
  /-- The value, reduced to the size. -/
  value : Nat
deriving DecidableEq, Repr

/-- The byte that the first field covering offset `o` puts there, if any. -/
def fieldByte (fs : List Field) (o : Nat) : Option Byte :=
  (fs.find? fun f => decide (f.off ≤ o) && decide (o < f.off + f.size)).map
    fun f => BitVec.ofNat 8 (f.value / 256 ^ (o - f.off))

/-- The word at offset `off` of a record with its listed fields rewritten and every other byte kept (R172). -/
def overlayWord (fs : List Field) (off : Nat) (w : Word) : Word :=
  BitVec.ofNat 64 (leNat ((List.range 8).map fun i => (fieldByte fs (off + i)).getD (byteOf w i)))

/-- The words of a read that begins at offset `off`, with the listed fields rewritten. -/
def overlay (fs : List Field) (off : Nat) (ws : List Word) : List Word :=
  ws.mapIdx fun k w => overlayWord fs (off + 8 * k) w

/-- `n` words from offset `off` of a record the part writes or answers: 0 in every unlisted byte (R172). -/
def recordWords (fs : List Field) (off n : Nat) : List Word :=
  overlay fs off (List.replicate n 0)

/-- Memory's data as `n` words: the read returned exactly that many (log 39). -/
def fitWords (n : Nat) (data : List Word) : List Word :=
  (List.range n).map fun i => data.getD i 0

/-- The word a write beginning at offset `off` puts at offset `o` of its window, if it covers it with every byte enabled
(R149). -/
def writtenWord (ws : List WriteWord) (off o : Nat) : Option Word :=
  if off ≤ o then
    match ws[(o - off) / 8]? with
    | some w => if w.enables = BitVec.allOnes 8 then some w.data else none
    | none => none
  else none

/-- The low four bytes at offset `o`, if the write covers them with their bytes enabled: the sequence field of a command
frame (R93, 11.2). -/
def writtenLow (ws : List WriteWord) (off o : Nat) : Option Seq :=
  if off ≤ o then
    match ws[(o - off) / 8]? with
    | some w => if w.enables.extractLsb' 0 4 = BitVec.allOnes 4 then some (w.data.extractLsb' 0 32) else none
    | none => none
  else none

/-- The bytes of the `words` words at offset `o`, if the write covers them all with every byte enabled (R148). -/
def writtenBlock (ws : List WriteWord) (off o words : Nat) : Option (List Byte) :=
  let got := (List.range words).filterMap fun i => writtenWord ws off (o + 8 * i)
  if got.length = words then some (got.flatMap wordBytes) else none

/-- The byte at offset `o` in the words a read from offset `off` returned, if it covers it. -/
def returnedByte (ws : List Word) (off o : Nat) : Option Byte :=
  if off ≤ o then (ws[(o - off) / 8]?).map fun w => byteOf w ((o - off) % 8) else none

/-- A read of `n` words from offset `off` returns the word at offset `o`. -/
def returnsWord (n off o : Nat) : Bool :=
  decide (off ≤ o) && decide (o < off + 8 * n)

/-- A flag in a field. -/
def bit (b : Bool) (i : Nat) : Nat :=
  if b then 2 ^ i else 0

end Sys2Proof.Machine
end

