-- ==== Sys2Proof/Config.lean ====
section
/-! DEFINITION. The free values: what spec/ leaves open. None has a body a proof can see, so a statement about one
holds whatever it is. Those that may differ from one step to the next take the step's number (`State.freeIndex`). -/

namespace Sys2Proof

/-- The checks of R158 that relate several entries or none, so that the entry a refusal reports is open (log 16). -/
inductive OpenCheck where
  /-- MAILBOX, VIEW, NOTICE or SWITCHTABLE does not occur exactly once. -/
  | singleWindows
  /-- Too many units of a kind. -/
  | unitCounts
  /-- A GATE unit is not named by exactly one gate. -/
  | gateUnits
  /-- More than 8 fill order entries. -/
  | fillCount
  /-- A CAMERA unit has no number. -/
  | cameraUnits
  /-- The fill order count of a PARAMETER image differs. -/
  | fillCountDiffers
deriving DecidableEq, Repr

/-- Whether, at step `i`, the notice with `later` others given after it joins the queue before one of these that has `behind` of
them behind it: R166 leaves the order across rules open, and no rule orders its notices of several subjects (log 9). -/
opaque Config.noticeEarly : (i later behind : Nat) → Bool

/-- Hall time when the exact count `t` lies outside 0 … 2^64 − 1, which no rule provides for (log 10). -/
opaque Config.hallOutOfRange : (t : Int) → Nat

/-- Whether the notices of a clock step are stamped with hall time after the step (log 11). -/
opaque Config.stepStampsNew : Bool

/-- Whether the offset that CLOCK_BACKSLEW shows in microseconds is rounded down: R6 does not say, and R5 speaks of CLOCK_STEP
alone (log 46). -/
opaque Config.backslewFloors : Bool

/-- Whether CLOCK_NONE at a FULL application names the clock unit of the new configuration (log 12). -/
opaque Config.clockNoneNamesNew : Bool

/-- Which of the causes added to unit `u` at step `i` its ROBOT_HELD notice shows when one event adds several (log 13). -/
opaque Config.heldDetail : (i u : Nat) → Byte

/-- The mode byte in memory at step `i`, when a command read returns the speed word but not the mode word (log 14). -/
opaque Config.unreadMode : (i : Nat) → Byte

/-- Whether the range checks of this image section reach fields that are not in use, where R158 names no entry they pass over
and another rule gives the field no meaning (log 15). -/
opaque Config.checksUnused : (part : Nat) → Bool

/-- The entry reported when this check fails (log 16). -/
opaque Config.refusalEntry : OpenCheck → Nat

/-- Whether a header line that fails both of its tests, on the load kind byte and on the format version, is refused RANGE: R158 and
R173 do not order them (log 51). -/
opaque Config.headerShowsRange : Bool

/-- Whether, in observation, a violation short of the violation limit gives WOULD_QUARANTINE (log 17). -/
opaque Config.quarantineAtAnyViolation : Bool

/-- Whether a span shown in the view in ms counts a part of a ms as a whole one (log 42). -/
opaque Config.msRoundsUp : Bool

/-- What stands in a field of four bytes for a span of `n` ms that it cannot hold (log 43). -/
opaque Config.msBeyond : (n : Nat) → Nat

end Sys2Proof
end

