-- ==== Sys2Proof/Machine/Lookup.lean ====
section
/-! DEFINITION. What the configuration in force says: which unit, port, zone, gate, camera and window is which. -/

namespace Sys2Proof.Machine

/-- Unit number `n`, if it is one of 0 … 23. -/
def unitNumber (n : Nat) : Option (Fin 24) :=
  if h : n < 24 then some ⟨n, h⟩ else none

/-- The port with number `n`, 1 … 16 (0.5: ports are numbered from 1). -/
def portNumber (n : Nat) : Option (Fin 16) :=
  if h : 1 ≤ n ∧ n ≤ 16 then some ⟨n - 1, by omega⟩ else none

/-- The number of a port. -/
def portId (p : Fin 16) : Nat :=
  p.val + 1

/-- The kind of unit `u`. -/
def HallConfig.kindOf (c : HallConfig) (u : Fin 24) : UnitKind :=
  (c.units.get u).kind

/-- The switch port to which unit `u` is bound. -/
def HallConfig.portOf (c : HallConfig) (u : Fin 24) : Option (Fin 16) :=
  portNumber (c.units.get u).port

/-- The zone that unit `u` names. -/
def HallConfig.zoneOf (c : HallConfig) (u : Fin 24) : Option (Fin 8) :=
  if h : (c.units.get u).zone < 8 then some ⟨(c.units.get u).zone, h⟩ else none

/-- The robots: units of kind FILLER (5.1). -/
def HallConfig.isRobot (c : HallConfig) (u : Fin 24) : Bool :=
  decide (c.kindOf u = .filler)

/-- The member filler robots of zone `z`, ascending (6.1). -/
def HallConfig.memberRobots (c : HallConfig) (z : Fin 8) : List (Fin 24) :=
  (List.finRange 24).filter fun u => c.isRobot u && decide (c.zoneOf u = some z)

/-- The unit of kind CLOCK (R158 allows one). -/
def HallConfig.clockUnit (c : HallConfig) : Option (Fin 24) :=
  (List.finRange 24).find? fun u => decide (c.kindOf u = .clock)

/-- Gate `g` is present (4.1). -/
def HallConfig.hasGate (c : HallConfig) (g : Fin 2) : Bool :=
  (c.gates.get g).present

/-- The unit that is gate `g`. -/
def HallConfig.gateUnit (c : HallConfig) (g : Fin 2) : Option (Fin 24) :=
  if c.hasGate g then unitNumber (c.gates.get g).unit else none

/-- The gate that unit `u` is. -/
def HallConfig.gateOfUnit (c : HallConfig) (u : Fin 24) : Option (Fin 2) :=
  (List.finRange 2).find? fun g => decide (c.gateUnit g = some u)

/-- A camera holds number `n` (R20). -/
def HallConfig.hasCamera (c : HallConfig) (n : Fin 6) : Bool :=
  (c.cameras.get n).present

/-- The camera number of unit `u`. -/
def HallConfig.cameraOfUnit (c : HallConfig) (u : Fin 24) : Option (Fin 6) :=
  (List.finRange 6).find? fun n => c.hasCamera n && decide ((c.cameras.get n).unit = u.val)

/-- Camera number `n` stands in the camera set of gate `g`. -/
def HallConfig.assigned (c : HallConfig) (g : Fin 2) (n : Fin 6) : Bool :=
  (c.gates.get g).cameraSet.getLsbD n.val

/-- The cameras assigned to gate `g` (R69; log 25). -/
def HallConfig.gateCameras (c : HallConfig) (g : Fin 2) : List (Fin 6) :=
  (List.finRange 6).filter fun n => c.hasCamera n && c.assigned g n

/-- The gate to which camera number `n` is assigned (11.6). -/
def HallConfig.cameraGate (c : HallConfig) (n : Fin 6) : Option (Fin 2) :=
  (List.finRange 2).find? fun g => c.hasGate g && c.assigned g n

/-- The fill order (2.2). -/
def HallConfig.fillOrder (c : HallConfig) : List (Fin 24) :=
  (c.fillUnits.toList.take c.fillCount).filterMap unitNumber

/-- The farthest gate distance; 0 without a gate (2.1). -/
def HallConfig.farthest (c : HallConfig) : Nat :=
  (List.finRange 2).foldl (fun d g => if c.hasGate g then max d (c.gates.get g).distance else d) 0

/-- The retention depth (2.1, R22). -/
def HallConfig.retention (c : HallConfig) : Nat :=
  c.farthest + 2

/-- The last applicable gate: gate 1 when present, else gate 0 when present (R78). -/
def HallConfig.lastGate (c : HallConfig) : Option (Fin 2) :=
  if c.hasGate 1 then some 1 else if c.hasGate 0 then some 0 else none

/-- The maintenance threshold of unit `u` in force: 0 until a configuration is applied (R18). -/
def thresholdOf (c : Option HallConfig) (u : Fin 24) : Nat :=
  match c with
  | some c => c.timers.maintenance.get u
  | none => 0

/-- Windows of this kind carry a unit (8.3). -/
def WindowKind.hasUnit : WindowKind → Bool
  | .command => true
  | .status => true
  | .verdict => true
  | .timeFrame => true
  | _ => false

/-- The window governs address `a` (R146). -/
def Window.holds (w : Window) (a : Nat) : Bool :=
  decide (w.kind ≠ .unused) && decide (w.base ≤ a) && decide (a < w.base + w.size)

/-- The lowest-numbered entry that governs address `a` (R146). -/
def HallConfig.windowAt (c : HallConfig) (a : Nat) : Option (Fin 32) :=
  (List.finRange 32).find? fun i => (c.windows.get i).holds a

/-- The window of table `t` that governs byte address `a`, with its entry number (R146). -/
def matchedIn (t : Table Window 32) (a : Nat) : Option (Fin 32 × Window) :=
  ((List.finRange 32).find? fun i => (t.get i).holds a).map fun i => (i, t.get i)

/-- The window of the configuration that governs byte address `a`, with its entry number (R146). -/
def HallConfig.matched (c : HallConfig) (a : Nat) : Option (Fin 32 × Window) :=
  matchedIn c.windows a

/-- The window table: that of the configuration in force, and after RESET_N 32 UNUSED entries (R153). -/
def State.windowTable (s : State) : Table Window 32 :=
  match s.config with
  | some c => c.windows
  | none => Table.replicate 32 Window.unused

/-- Unit `u` is a robot of the configuration in force (5.1). -/
def State.isRobot (s : State) (u : Fin 24) : Bool :=
  match s.config with
  | some c => c.isRobot u
  | none => false

/-- The NOTICE window (R167). -/
def HallConfig.noticeWindow (c : HallConfig) : Option Window :=
  ((List.finRange 32).find? fun i => decide ((c.windows.get i).kind = .notice)).map c.windows.get

/-- Entry `i` still has the kind of the window that matched at presentation and, where the kind has one, its unit (R154). -/
def HallConfig.stands (c : HallConfig) (i : Fin 32) (w : Window) : Bool :=
  decide ((c.windows.get i).kind = w.kind) && (!w.kind.hasUnit || decide ((c.windows.get i).unit = w.unit))

/-- The switch port whose tag this is: tags 1 … 16 (R145). -/
def tagPort (tag : Fin 32) : Option (Fin 16) :=
  portNumber tag.val

/-- The tag of the line processor (R145). -/
def processorTag : Fin 32 := 0

/-- The tag of the switch management agent (R145). -/
def agentTag : Fin 32 := 17

end Sys2Proof.Machine
end

