-- ==== Sys2Proof/Machine/Flags.lean ====
section
/-! DEFINITION. Conditions, counts and comparisons: serial order, saturation, timers, and the conditions that the
blocks judge one another by (availability, productivity, observation, verifiability, causes). -/

namespace Sys2Proof.Machine

/-! ## Numbers -/

/-- `a` is serially later than `b` (0.5). -/
def serialLater (a b : BitVec 32) : Bool :=
  decide (1 ≤ (a - b).toNat) && decide ((a - b).toNat ≤ 2 ^ 31 - 1)

/-- A frame's sequence is later than the last taken one, or that is absent (R3, R45, R66, R82). -/
def seqPasses (last : Option Seq) (seq : Seq) : Bool :=
  match last with
  | none => true
  | some l => serialLater seq l

/-- A count of so many bits, saturating (0.5). -/
def satAdd (bits n k : Nat) : Nat :=
  min (2 ^ bits - 1) (n + k)

/-- The detail word of an unsigned value, reduced by saturation (R172). -/
def detailNat (n : Nat) : BitVec 32 :=
  BitVec.ofNat 32 (min n (2 ^ 32 - 1))

/-- The detail word of a signed value, reduced by saturation (R172). -/
def detailInt (i : Int) : BitVec 32 :=
  BitVec.ofInt 32 (max (-(2 ^ 31)) (min i (2 ^ 31 - 1)))

/-- `v` clamped to `lo` … `hi` (R99). -/
def clampNat (lo hi v : Nat) : Nat :=
  if v < lo then lo else if hi < v then hi else v

/-- `v` clamped to `lo` … `hi` (R7, R100). -/
def clampInt (lo hi v : Int) : Int :=
  if v < lo then lo else if hi < v then hi else v

/-- Milliseconds in ns (0.5). -/
def ms (n : Nat) : Nat := n * 1000000

/-- Hall time for an exact count: the count itself within 0 … 2^64 − 1 (1.1); past it, a free value (log 10). -/
def hallOf (t : Int) : Nat :=
  if 0 ≤ t ∧ t < 2 ^ 64 then t.toNat else Config.hallOutOfRange t % 2 ^ 64

/-! ## Timers -/

/-- A timer of `len` ns that started at `start` has run its length at local time `now`. -/
def timerDue (start : Option Nat) (len now : Nat) : Bool :=
  match start with
  | some t => decide (t + len ≤ now)
  | none => false

/-- The access timer's length: 15 s, or 20 s once extended (R115, R118). -/
def accessLength (extended : Bool) : Nat :=
  if extended then ms 20000 else ms 15000

/-! ## Conditions across blocks -/

/-- The state of unit `u`'s switch port. -/
def State.portStateOf (s : State) (c : HallConfig) (u : Fin 24) : PortState :=
  match c.portOf u with
  | some p => (s.ports.get p).state
  | none => .down

/-- The state of unit `u`'s zone. -/
def State.zoneStateOf (s : State) (c : HallConfig) (u : Fin 24) : ZoneState :=
  match c.zoneOf u with
  | some z => (s.zones.get z).state
  | none => .start

/-- The condition of a conditional line-hold cause of the gate that is unit `u` with record `r` (R67). -/
def State.gateCondition (s : State) (c : HallConfig) (u : Fin 24) (r : GateRec) : LineCause → Bool
  | .port => decide (s.portStateOf c u ≠ .active)
  | .lost => decide (r.accepted = .lost) || decide (r.accepted = .offline)
  | .fault => decide (r.accepted = .fault)
  | .zone => decide (s.zoneStateOf c u ≠ .run)
  | .missed => false
  | .mismatch => false
  | .unconfirmed => false

/-- Gate `g` is available: none of its conditions fails (R67). -/
def State.available (s : State) (c : HallConfig) (g : Fin 2) : Bool :=
  match c.gateUnit g, s.gates.get g with
  | some u, some r =>
    !(s.gateCondition c u r .port) && !(s.gateCondition c u r .lost) && !(s.gateCondition c u r .fault) &&
      !(s.gateCondition c u r .zone)
  | _, _ => false

/-- Unit `u` is productive (R15). -/
def State.productive (s : State) (u : Fin 24) : Bool :=
  match s.config with
  | none => false
  | some c =>
    match c.kindOf u with
    | .filler =>
      match s.robots.get u with
      | some r => decide (r.gate = .released) && decide (r.accepted = .running)
      | none => false
    | .camera => decide (s.portStateOf c u = .active) && s.time.running
    | .gate => decide (s.portStateOf c u = .active) && decide (s.zoneStateOf c u = .run) && s.time.running
    | .clock => false
    | .absent => false

/-- Robot `u` cannot be verified for an ENTER (R115). -/
def State.unverifiable (s : State) (c : HallConfig) (u : Fin 24) : Bool :=
  decide (s.portStateOf c u ≠ .active) ||
    match s.robots.get u with
    | some r => decide (r.accepted = .lost) || decide (r.accepted = .offline)
    | none => true

/-- Robot `u` has SAFE accepted. -/
def State.isSafe (s : State) (u : Fin 24) : Bool :=
  match s.robots.get u with
  | some r => decide (r.accepted = .safe)
  | none => false

/-- The port is in observation (R139). -/
def State.observing (s : State) (c : HallConfig) (p : Fin 16) : Bool :=
  (c.ports.get p).observe || s.observeAll

/-- Some robot is RELEASED (R156). -/
def State.anyReleased (s : State) : Bool :=
  (List.finRange 24).any fun u =>
    match s.robots.get u with
    | some r => decide (r.gate = .released)
    | none => false

/-- The lowest-numbered OPEN zone (R107, R159). -/
def State.openZone (s : State) : Option (Fin 8) :=
  (List.finRange 8).find? fun z => decide ((s.zones.get z).state = .opened)

/-! ## Cause sets -/

/-- The byte of one cause (11.1). -/
def causeBit (k : Cause) : Byte :=
  BitVec.ofNat 8 (2 ^ k.code)

/-- The cause, if its condition holds. -/
def causeIf (k : Cause) (b : Bool) : Byte :=
  if b then causeBit k else 0

/-- The robot has cause `k`. -/
def Robot.has (r : Robot) (k : Cause) : Bool :=
  r.causes.getLsbD k.code

/-- The causes whose conditions of R86 hold of robot `u` now; STALE stands until a changing sequence write. -/
def State.causesOf (s : State) (c : HallConfig) (u : Fin 24) (r : Robot) : Byte :=
  causeIf .zone (decide (s.zoneStateOf c u ≠ .run)) ||| causeIf .port (decide (s.portStateOf c u ≠ .active)) |||
    causeIf .lost (decide (r.accepted = .lost) || decide (r.accepted = .offline)) |||
    causeIf .fault (decide (r.accepted = .fault)) ||| causeIf .safe (decide (r.accepted = .safe)) |||
    causeIf .stale (r.has .stale) ||| causeIf .suspect r.suspect ||| causeIf .line (decide (s.lineHold ≠ 0))

/-- The bit of cause `k` of gate `g` in the line-hold set (11.1). -/
def lineIndex (g : Fin 2) (k : LineCause) : Nat :=
  7 * g.val + k.code

/-- Cause `k` of gate `g` is in the line-hold set. -/
def State.holds (s : State) (g : Fin 2) (k : LineCause) : Bool :=
  s.lineHold.getLsbD (lineIndex g k)

/-- ATTENTION is high (R168). -/
def State.attention (s : State) : Bool :=
  decide (s.report.producer ≠ s.report.consumer)

end Sys2Proof.Machine
end

