-- ==== Sys2Proof/Machine/Ops.lean ====
section
/-! DEFINITION. The operations the commands share: giving notices and letting them join the queue (R166, R167), the
line-hold set and the robots' causes and gate states (R67, R75, R86, R89), changes of a port's state (R131), changes of
a zone's state and its completions (R107, R108, R110, R111). -/

namespace Sys2Proof.Machine

/-! ## Small updates -/

/-- The time unit changed by `f`. -/
def State.onTime (s : State) (f : TimeUnit → TimeUnit) : State :=
  { s with time := f s.time }

/-- The grading unit changed by `f`. -/
def State.onGrading (s : State) (f : Grading → Grading) : State :=
  { s with grading := f s.grading }

/-- The report unit changed by `f`. -/
def State.onReport (s : State) (f : Report → Report) : State :=
  { s with report := f s.report }

/-- The loader changed by `f`. -/
def State.onLoader (s : State) (f : Loader → Loader) : State :=
  { s with loader := f s.loader }

/-- The path controller changed by `f`. -/
def State.onPath (s : State) (f : Path → Path) : State :=
  { s with path := f s.path }

/-- The switch-table state changed by `f`. -/
def State.onTable (s : State) (f : TableState → TableState) : State :=
  { s with table := f s.table }

/-- The record of robot `u` changed by `f`, if there is one. -/
def State.onRobot (s : State) (u : Fin 24) (f : Robot → Robot) : State :=
  { s with robots := s.robots.modify u (Option.map f) }

/-- The record of gate `g` changed by `f`, if there is one. -/
def State.onGate (s : State) (g : Fin 2) (f : GateRec → GateRec) : State :=
  { s with gates := s.gates.modify g (Option.map f) }

/-- The record of zone `z` changed by `f`. -/
def State.onZone (s : State) (z : Fin 8) (f : Zone → Zone) : State :=
  { s with zones := s.zones.modify z f }

/-- The record of port `p` changed by `f`. -/
def State.onPort (s : State) (p : Fin 16) (f : Port → Port) : State :=
  { s with ports := s.ports.modify p f }

/-- The record of camera number `n` changed by `f`. -/
def State.onCamera (s : State) (n : Fin 6) (f : CameraRec → CameraRec) : State :=
  s.onGrading fun g => { g with cameras := g.cameras.modify n f }

/-- The account of unit `u` changed by `f`. -/
def State.onAccount (s : State) (u : Fin 24) (f : Account → Account) : State :=
  s.onTime fun t => { t with accounts := t.accounts.modify u f }

/-- The slot of bottle `b` changed by `f`, if the queue holds one. -/
def State.onSlot (s : State) (b : Bottle) (f : Slot → Slot) : State :=
  { s with queue := s.queue.map fun q => if q.bottle = b then f q else q }

/-- The slot of bottle `b`, if the queue holds one (R36). -/
def State.slotOf (s : State) (b : Bottle) : Option Slot :=
  s.queue.find? fun q => decide (q.bottle = b)

/-! ## Notices -/

/-- A notice of this kind stamped with hall time, every other field at the value R166 gives an unnamed field. -/
def State.note (s : State) (k : NoticeKind) : Notice :=
  { kind := k, subject := 0, code := 0, stamp := s.time.hall, bottle := none, detail := 0 }

/-- The step gives notice `n`. -/
def State.give (s : State) (n : Notice) : State :=
  { s with given := s.given ++ [n] }

/-- `a`, given before `b` at one step, joins the queue before it: the outcome of a load comes last (R160), and notices of one rule
and subject keep the order given; between others it is `free` (R166, log 9). -/
def joinsFirst (free : Bool) (a b : Notice) : Bool :=
  if a.kind = .loadOutcome then decide (b.kind = .loadOutcome)
  else decide (b.kind = .loadOutcome) || (decide (a.kind.rule = b.kind.rule) && decide (a.subject = b.subject)) || free

/-- `n`, given before `later` others at step `i`, put before the first of these that it joins before. -/
def insertNotice (i later : Nat) (n : Notice) : List Notice → List Notice
  | [] => [n]
  | m :: ms =>
    if joinsFirst (Config.noticeEarly i later ms.length) n m then n :: m :: ms else m :: insertNotice i later n ms

/-- The notices of step `i` in the order in which they join: any order in which those of one rule and subject keep the order given,
so that one of another rule may come between them (R166, log 9). -/
def orderNotices (i : Nat) : List Notice → List Notice
  | [] => []
  | n :: ns => insertNotice i ns.length n (orderNotices i ns)

/-- A notice joins the queue, or is discarded and counted when 16 stand there (R166). -/
def Report.join (r : Report) (n : Notice) : Report :=
  if r.notices.length < 16 then { r with notices := r.notices ++ [n] }
  else { r with dropped := satAdd 16 r.dropped 1 }

/-- The report unit once the notices the step gave have joined the queue; while UNCONFIGURED they are discarded (R166). -/
def State.reportJoined (s : State) : Report :=
  match s.config with
  | none => s.report
  | some _ => (orderNotices s.freeIndex s.given).foldl Report.join s.report

/-- The notices the step gave join the queue: only the queue and the dropped count of the report unit move (R166). -/
def State.joinGiven (s : State) : State :=
  { s with
    given := []
    freeIndex := s.freeIndex + 1
    report := { s.report with notices := s.reportJoined.notices, dropped := s.reportJoined.dropped } }

/-- A notice write is presented and not yet answered. -/
def Path.noticeOut (p : Path) : Bool :=
  (p.ownQueue ++ p.ownAtMemory).any fun o => decide (o.requester = .notice)

/-- The ring has room (R167). -/
def Report.room (r : Report) (ringSize : Nat) : Bool :=
  decide ((r.producer - r.consumer).toNat < ringSize)

/-- The notice entry in memory (11.4). -/
def Notice.fields (n : Notice) : List Field :=
  [ ⟨0, 2, n.kind.code⟩, ⟨2, 1, n.subject⟩, ⟨3, 1, bit n.bottle.isSome 0⟩, ⟨4, 2, n.code⟩, ⟨8, 8, n.stamp⟩,
    ⟨16, 4, (n.bottle.getD 0).toNat⟩, ⟨24, 4, n.detail.toNat⟩ ]

/-- The write of notice `n` into the entry the producer names (R167). -/
def noticeWrite (w : Window) (ringSize : Nat) (producer : BitVec 32) (n : Notice) : OwnTxn :=
  { requester := .notice, addr := w.base + producer.toNat % ringSize * 32, data := recordWords n.fields 0 4,
    oldRing := false }

/-- An own transaction joins the own queue (R152). -/
def State.present (s : State) (o : OwnTxn) : State :=
  s.onPath fun p => { p with ownQueue := p.ownQueue ++ [o] }

/-- The notice write to present: the oldest notice, while the queue is not empty, the ring has room and no notice write is
outstanding (R167). -/
def State.noticeToPresent (s : State) : Option OwnTxn :=
  match s.config, s.report.notices with
  | some c, n :: _ =>
    match c.noticeWindow with
    | some w =>
      if s.report.room c.ringSize && !s.path.noticeOut then some (noticeWrite w c.ringSize s.report.producer n) else none
    | none => none
  | _, _ => none

/-- The oldest notice is presented if it may be (R167). -/
def State.presentNotice (s : State) : State :=
  s.onPath fun p => { p with ownQueue := p.ownQueue ++ s.noticeToPresent.toList }

/-- The end of a step: its notices join the queue, and the oldest notice is presented if it may be. -/
def State.settle (s : State) : State :=
  s.joinGiven.presentNotice

/-! ## The line-hold set -/

/-- Cause `k` of gate `g` is added, with its notice, unless it is present (R75). -/
def State.addHold (s : State) (g : Fin 2) (k : LineCause) (bottle : Option Bottle) : State :=
  if s.holds g k then s
  else
    { s with lineHold := s.lineHold ||| BitVec.ofNat 14 (2 ^ lineIndex g k) }.give
      { s.note .lineHold with subject := g.val, code := k.code, bottle := bottle }

/-- Cause `k` of gate `g` is removed. -/
def State.dropHold (s : State) (g : Fin 2) (k : LineCause) : State :=
  { s with lineHold := s.lineHold &&& ~~~(BitVec.ofNat 14 (2 ^ lineIndex g k)) }

/-- Conditional cause `k` of gate `g` follows its condition (R67). -/
def State.followHold (s : State) (g : Fin 2) (k : LineCause) (on : Bool) : State :=
  if on then s.addHold g k none else s.dropHold g k

/-- The conditional causes of gate `g` follow the states of its port, record and zone (R67). -/
def State.followGate (s : State) (c : HallConfig) (g : Fin 2) : State :=
  match c.gateUnit g, s.gates.get g with
  | some u, some r =>
    (((s.followHold g .port (s.gateCondition c u r .port)).followHold g .lost (s.gateCondition c u r .lost)).followHold g
      .fault (s.gateCondition c u r .fault)).followHold g .zone (s.gateCondition c u r .zone)
  | _, _ => s

/-- The latched causes of gate `g` are removed (R76). -/
def State.dropLatched (s : State) (g : Fin 2) : State :=
  ((s.dropHold g .missed).dropHold g .mismatch).dropHold g .unconfirmed

/-! ## Causes and gate states of the robots -/

/-- Robot `u` with its cause set following the conditions of R86; a ZONE or LOST that this adds sets release-confirm
(R90). -/
def State.followRobot (s : State) (c : HallConfig) (u : Fin 24) (r : Robot) : Robot :=
  let causes := s.causesOf c u r
  let added := causes &&& ~~~r.causes
  { r with
    causes := causes
    confirm := r.confirm || added.getLsbD Cause.zone.code || added.getLsbD Cause.lost.code }

/-- The gate state evaluated (R89). -/
def Robot.evaluate (r : Robot) (alwaysConfirm : Bool) : Robot :=
  if r.causes ≠ 0 then
    if r.gate = .held then r else { r with gate := .held, confirm := r.confirm || alwaysConfirm }
  else if r.gate = .held then
    if r.confirm then { r with gate := .arming } else { r with gate := .released, confirm := false }
  else r

/-- The causes a ROBOT_HELD notice of step `i` shows: the set, or when one event added several causes a part of it that is
left open (log 13). -/
def heldCauses (i u : Nat) (causes : Byte) : Byte :=
  if causes &&& Config.heldDetail i u = 0 then causes else causes &&& Config.heldDetail i u

/-- The notice of a robot's change of gate state, if it changed (R89). -/
def State.gateNotice (s : State) (u : Fin 24) (before after : Robot) : Option Notice :=
  if before.gate = after.gate then none
  else
    match after.gate with
    | .held =>
      some { s.note .robotHeld with
        subject := u.val, detail := (heldCauses s.freeIndex u.val after.causes).setWidth 32 }
    | .arming => some { s.note .robotArming with subject := u.val }
    | .released => some { s.note .robotReleased with subject := u.val }

/-- Robot `u` after a change handed to it: causes, then gate state (R86, R89). -/
def State.robotAfter (s : State) (c : HallConfig) (u : Fin 24) (r : Robot) : Robot :=
  (s.followRobot c u r).evaluate (c.units.get u).alwaysConfirm

/-- The notice of robot `u` at such a change. -/
def State.robotNotice (s : State) (c : HallConfig) (u : Fin 24) : Option Notice :=
  (s.robots.get u).bind fun r => s.gateNotice u r (s.robotAfter c u r)

/-- Every robot follows the states of the other blocks, all at one event (R86). -/
def State.followRobots (s : State) (c : HallConfig) : State :=
  { s with
    robots := s.robots.mapFin fun u o => o.map (s.robotAfter c u)
    given := s.given ++ (List.finRange 24).filterMap (s.robotNotice c) }

/-- A change of a port, zone, gate or robot is handed to the blocks that read it: the conditional line-hold causes
follow (R67), then every robot's causes, LINE among them, and gate states (R86, R89, R108, R140). -/
def State.handOn (s : State) : State :=
  match s.config with
  | none => s
  | some c => ((s.followGate c 0).followGate c 1).followRobots c

/-! ## Ports -/

/-- The last taken sequences of the cameras, robots and gates of port `p` are discarded (R48, R66, R82, R140). -/
def State.discardSequences (s : State) (c : HallConfig) (p : Fin 16) : State :=
  { s with
    grading := { s.grading with
      cameras := s.grading.cameras.mapFin fun n r =>
        if c.hasCamera n && decide ((unitNumber (c.cameras.get n).unit).bind c.portOf = some p) then { r with lastSeq := none }
        else r }
    robots := s.robots.mapFin fun u o => o.map fun r => if c.portOf u = some p then { r with lastSeq := none } else r
    gates := s.gates.mapFin fun g o => o.map fun r =>
      if (c.gateUnit g).bind c.portOf = some p then { r with lastSeq := none } else r }

/-- A port record that enters state `new` for this reason (R131, R137): the counts cleared at DOWN, the interval's at
ACTIVE, the silence timer running in LISTEN only. -/
def Port.enter (p : Port) (new : PortState) (reason : PortReason) (now : Nat) : Port :=
  { p with
    state := new
    reason := reason
    silence := if new = .listen then some now else none
    violations := if new = .down then 0 else p.violations
    denied := if new = .down then 0 else p.denied
    fragments := if new = .down then 0 else p.fragments
    intervalViolations := if new = .active then 0 else p.intervalViolations
    intervalWords := if new = .active then 0 else p.intervalWords
    wouldQuarantine := if new = .active then false else p.wouldQuarantine }

/-- Port `p` changes state, with its notice, and at DOWN the sequences of its units are discarded (R131, R140). The
change is handed on by `handOn`, which the caller makes once for all the ports an event changes. -/
def State.movePort (s : State) (c : HallConfig) (p : Fin 16) (new : PortState) (reason : PortReason) : State :=
  let s := s.onPort p fun r => r.enter new reason s.time.localTime
  let s := if new = .down then s.discardSequences c p else s
  s.give { s.note .portState with subject := portId p, code := new.code, detail := detailNat reason.code }

/-- A transaction of port `p` is answered DENIED (R132). -/
def State.countDenied (s : State) (p : Fin 16) : State :=
  s.onPort p fun r => { r with denied := satAdd 16 r.denied 1 }

/-- A transaction is answered DENIED, counted in its port's denied count, or in the other denied count for every other
tag and while there is no port record (R145). -/
def State.countDenial (s : State) (tag : Fin 32) : State :=
  match s.config, tagPort tag with
  | some _, some p => s.countDenied p
  | _, _ => s.onPath fun h => { h with otherDenied := satAdd 16 h.otherDenied 1 }

/-! ## Zones -/

/-- Bottle `b` stands at this position (0.5, Positions). -/
def State.position (s : State) (b : Bottle) : Nat :=
  ((s.time.newest.getD 0) - b).toNat

/-- A slot is marked disturbed by zone `z`, the first zone staying (R26). -/
def Slot.disturb (q : Slot) (z : Fin 8) : Slot :=
  { q with disturbed := match q.disturbed with | some y => some y | none => some z }

/-- Every bottle within the span of zone `z` is marked disturbed (R27). -/
def State.markSpan (s : State) (c : HallConfig) (z : Fin 8) : State :=
  let k := c.zones.get z
  if k.hasSpan then
    { s with queue := s.queue.map fun q =>
        if k.first ≤ s.position q.bottle ∧ s.position q.bottle ≤ k.last then q.disturb z else q }
  else s

/-- A zone record that enters state `new`: the lock is RELEASED in OPEN only (R107), the access timer runs on in
REQUESTED and BREAK only (R118), the clearing window starts at CLEARING and stops outside it (R120), RUN sets has-run,
RUN and HELD clear after-forced (6.1, R108, R114). -/
def Zone.enter (k : Zone) (new : ZoneState) (now : Nat) : Zone :=
  { k with
    state := new
    unlocked := decide (new = .opened)
    hasRun := k.hasRun || decide (new = .run)
    afterForced := k.afterForced && !(decide (new = .run) || decide (new = .held))
    access := if new = .requested ∨ new = .breakpoint then k.access else none
    clearing := if new = .clearing then some now else none }

/-- Zone `z` changes state; leaving RUN marks its span (R108). The change is handed on by `handOn`. -/
def State.moveZone (s : State) (c : HallConfig) (z : Fin 8) (new : ZoneState) : State :=
  let leaves := decide ((s.zones.get z).state = .run) && decide (new ≠ .run)
  let s := s.onZone z fun k => k.enter new s.time.localTime
  if leaves then s.markSpan c z else s

/-- Release-confirm is set on every member robot of zone `z` (R90, R121). -/
def State.confirmMembers (s : State) (c : HallConfig) (z : Fin 8) : State :=
  { s with robots := s.robots.mapFin fun u o => o.map fun r =>
      if c.isRobot u ∧ c.zoneOf u = some z then { r with confirm := true } else r }

/-- The origin's sequence, 0 when there is none (R112). -/
def Origin.seq : Origin → Nat
  | .command q => q.toNat
  | .none => 0
  | .autonomous => 0

/-- The notice of a zone completion: the zone's state after the event, the origin's sequence, the autonomous flag (R111,
11.4). -/
def State.giveZoneCompletion (s : State) (z : Fin 8) (code : Completion) (origin : Origin) : State :=
  s.give { s.note .zoneCompletion with
    subject := z.val
    code := code.code
    detail := BitVec.ofNat 32
      ((s.zones.get z).state.code + 2 ^ 8 * origin.seq + bit (decide (origin = .autonomous)) 16) }

/-- A completion at the instant its command of sequence `q` is taken: collected at once (R110, R112). -/
def State.completeNow (s : State) (z : Fin 8) (q : Byte) (code : Completion) : State :=
  (s.onZone z fun k => { k with reply := { k.reply with code := some code, origin := .command q, further := false } })
    |>.giveZoneCompletion z code (.command q)

/-- The ENTER in flight completes at a later event: its completion becomes pending (R110). -/
def State.completeEnter (s : State) (z : Fin 8) (code : Completion) : State :=
  match (s.zones.get z).inFlight with
  | some q =>
    (s.onZone z fun k =>
        { k with inFlight := none, pending := some { code := code, origin := .command q, further := false } })
      |>.giveZoneCompletion z code (.command q)
  | none => s

/-- An autonomous completion becomes pending, or merges into the one that is (R111). -/
def State.completeAlone (s : State) (z : Fin 8) (code : Completion) : State :=
  (s.onZone z fun k =>
      { k with pending :=
          match k.pending with
          | some p => some { p with further := true }
          | none => some { code := code, origin := .autonomous, further := false } })
    |>.giveZoneCompletion z code .autonomous

/-! ## Unit accounts and due flags -/

/-- The due flag is set and MAINT_DUE given (R16). -/
def State.setDue (s : State) (u : Fin 24) : State :=
  (s.onAccount u fun a => { a with due := true }).give
    { s.note .maintDue with subject := u.val, detail := detailNat (s.time.accounts.get u).seconds }

/-! ## Line stop -/

/-- The line becomes STOPPED with its notice, which names the newest bottle (R14). -/
def State.stopLine (s : State) : State :=
  (s.onTime fun t => { t with running := false, stopStart := none }).give
    { s.note .lineStopped with bottle := s.time.newest }

end Sys2Proof.Machine
end

