-- ==== Sys2Proof/Machine/Operands.lean ====
section
/-! DEFINITION. What a command acts on: the fields of the records the machines and the processor write (11.2, 11.3, R171),
the transaction in flight that memory answers, and the records and words an observed write hands over (R148, R149, R154). -/

namespace Sys2Proof.Machine

/-! ## Frames and words -/

/-- A time frame (11.2). -/
structure TimeFrame where
  /-- The sequence. -/
  seq : Seq
  /-- The valid flag. -/
  valid : Bool
  /-- Master seconds. -/
  seconds : Nat
  /-- Master nanoseconds. -/
  nanos : Nat
deriving DecidableEq, Repr

/-- The fields of a TIMEFRAME slot. -/
def readTimeFrame (b : List Byte) : TimeFrame :=
  { seq := BitVec.ofNat 32 (fieldAt b 0 4), valid := flagAt b 4 0, seconds := fieldAt b 8 6, nanos := fieldAt b 16 4 }

/-- A status frame of a robot or a gate (11.2); a robot's carries no report. -/
structure StatusFrame where
  /-- The sequence. -/
  seq : Seq
  /-- The reported state. -/
  reported : MachineState
  /-- The fault code. -/
  faultCode : BitVec 16
  /-- The handled-present flag. -/
  handledPresent : Bool
  /-- The handled-ejected flag. -/
  handledEjected : Bool
  /-- The last handled bottle index. -/
  handled : Bottle
deriving DecidableEq, Repr

/-- The fields of a STATUS slot. -/
def readStatusFrame (b : List Byte) : StatusFrame :=
  { seq := BitVec.ofNat 32 (fieldAt b 0 4), reported := MachineState.ofReported (fieldAt b 4 1),
    faultCode := BitVec.ofNat 16 (fieldAt b 8 2), handledPresent := flagAt b 5 0, handledEjected := flagAt b 5 1,
    handled := BitVec.ofNat 32 (fieldAt b 12 4) }

/-- A verdict record (3.1, 11.2). -/
structure VerdictRec where
  /-- The sequence. -/
  seq : Seq
  /-- The capture time. -/
  capture : Nat
  /-- The image-ok flag. -/
  imageOk : Bool
  /-- The measurements m0 … m15. -/
  measures : List Byte
deriving DecidableEq, Repr

/-- The fields of a VERDICT slot. -/
def readVerdict (b : List Byte) : VerdictRec :=
  { seq := BitVec.ofNat 32 (fieldAt b 0 4), capture := fieldAt b 8 8, imageOk := flagAt b 4 0,
    measures := (b.drop 16).take 16 }

/-- An entry of the switch table (11.2). -/
structure TableEntry where
  /-- The link is UP: its byte is 1 (R128). -/
  up : Bool
  /-- The speed code. -/
  speed : Byte
  /-- The receive-error count. -/
  rxErrors : BitVec 32
deriving DecidableEq, Repr

/-- The entry of port `p` in the switch table. -/
def readTableEntry (b : List Byte) (p : Fin 16) : TableEntry :=
  { up := decide (fieldAt b (8 * p.val) 1 = 1), speed := b.getD (8 * p.val + 1) 0,
    rxErrors := BitVec.ofNat 32 (fieldAt b (8 * p.val + 4) 4) }

/-- The code of a mailbox command word (11.3). -/
def wordCode (w : Word) : Nat := (byteOf w 0).toNat

/-- The sequence of a mailbox command word (11.3). -/
def wordSeq (w : Word) : Byte := byteOf w 1

/-- The argument of a mailbox command word (11.3). -/
def wordArg (w : Word) : Nat := (w.extractLsb' 16 16).toNat

/-- The load kind of a control word (R156, 11.6). -/
def loadKindByte (w : Word) : Nat := (byteOf w 0).toNat

/-! ## The transaction in flight -/

end Sys2Proof.Machine

namespace Sys2Proof

/-- The first address of a transaction. -/
def Txn.start (t : Txn) : Nat := t.addr.toNat

/-- The length in words. -/
def Txn.length (t : Txn) : Nat :=
  match t.access with
  | .read n => n
  | .write ws => ws.length

/-- The words of a write; none for a read. -/
def Txn.written (t : Txn) : List WriteWord :=
  match t.access with
  | .read _ => []
  | .write ws => ws

/-- The transaction is a WRITE. -/
def Txn.isWrite (t : Txn) : Bool :=
  match t.access with
  | .read _ => false
  | .write _ => true

/-- The offset of a transaction in its 128-byte line: in its command frame, switch table or pair of slots (8.1, 11.2). -/
def Txn.lineOffset (t : Txn) : Nat := t.start % 128

/-- The offset of a transaction in the 512-byte mailbox (11.3). -/
def Txn.mailboxOffset (t : Txn) : Nat := t.start % 512

/-- The offset of a transaction in the 16 KiB image region (R155). -/
def Txn.imageOffset (t : Txn) : Nat := t.start % 16384

/-- The 64-byte slots of its line that a write covers whole, lower first (R148). -/
def Txn.wholeSlots (t : Txn) : List (List Byte) :=
  [0, 64].filterMap fun o => Machine.writtenBlock t.written t.lineOffset o 8

/-- How many 64-byte slots of its line a transaction touches (R148). -/
def Txn.touchedSlots (t : Txn) : Nat :=
  ([0, 64].filter fun o => decide (t.lineOffset < o + 64) && decide (o < t.lineOffset + 8 * t.length)).length

/-- The watched words of the mailbox that a write covers (R149): command words of slots 0 … 8, then the consumer word. -/
def Txn.mailboxWords (t : Txn) : List Machine.Handover :=
  ((List.finRange 8).filterMap fun z => (Machine.writtenWord t.written t.mailboxOffset (32 * z.val)).map (Machine.Handover.zoneWord z)) ++
    ((Machine.writtenWord t.written t.mailboxOffset 256).map Machine.Handover.generalWord).toList ++
    ((Machine.writtenWord t.written t.mailboxOffset 288).map Machine.Handover.consumer).toList

end Sys2Proof

namespace Sys2Proof.Machine

/-- The oldest transaction of a source not yet answered. -/
def Path.oldest (p : Path) (tag : Fin 32) : Option Flight :=
  p.flights.find? fun f => decide (f.txn.tag = tag)

/-- The owner of a STATUS slot of unit `u` (R148). -/
def HallConfig.statusOwner (c : HallConfig) (u : Fin 24) (slot : List Byte) : Option Handover :=
  if c.kindOf u = .filler then some (.robotStatus u slot) else (c.gateOfUnit u).map fun g => .gateStatus g slot

/-- What an observed write hands over under the window `w` that matched it, as the configuration now stands (R148,
R149). -/
def HallConfig.observe (c : HallConfig) (w : Window) (t : Txn) : List Handover :=
  match w.kind with
  | .status => t.wholeSlots.filterMap fun b => (unitNumber w.unit).bind fun u => c.statusOwner u b
  | .verdict => t.wholeSlots.filterMap fun b => (unitNumber w.unit).bind fun u => (c.cameraOfUnit u).map fun n => .verdict n b
  | .timeFrame => t.wholeSlots.filterMap fun b => (unitNumber w.unit).map fun u => .timeFrame u b
  | .switchTable => ((writtenBlock t.written t.lineOffset 0 16).map Handover.switchTable).toList
  | .command =>
    match unitNumber w.unit, writtenLow t.written t.lineOffset 0 with
    | some u, some q => if c.isRobot u then [.sequence u q] else []
    | _, _ => []
  | .mailbox => t.mailboxWords
  | .unused => []
  | .plain => []
  | .view => []
  | .notice => []

/-- What a write hands over at memory's OKAY: nothing when a FULL load has replaced its window (R154), and nothing for a
control word of load kind 0, which requests nothing (R156). -/
def State.handovers (s : State) (f : Flight) : List Handover :=
  match f.treatment, s.config with
  | .image, _ =>
    match writtenWord f.txn.written f.txn.imageOffset 0 with
    | some w => if loadKindByte w = 0 then [] else [.control w]
    | none => []
  | .observed i w, some c => if c.stands i w then c.observe w f.txn else []
  | _, _ => []

/-- What is still to be handed over of a transaction that memory answers, or has answered, OKAY. -/
def State.toHand (s : State) (f : Flight) : List Handover :=
  match f.stage with
  | .atMemory => s.handovers f
  | .handing left => left
  | .waiting => []
  | .held => []

/-! ## Answering a transaction -/

/-- The DENIED response: all-zero data for a read (R144). -/
def deniedReply (t : Txn) : Reply :=
  { tag := t.tag, response := .denied, data := if t.isWrite then [] else List.replicate t.length 0 }

/-- A refused transaction that waits for the earlier ones of its tag (R144). -/
def Flight.refused (f : Flight) : Bool :=
  decide (f.treatment = .denied)

/-- The transactions left, and the DENIED responses given, once every refused transaction of `tag` with no earlier one
unanswered is answered (R144). -/
def drain (tag : Fin 32) : List Flight → List Flight × List Reply
  | [] => ([], [])
  | f :: fs =>
    if f.txn.tag = tag then
      if f.refused then ((drain tag fs).1, deniedReply f.txn :: (drain tag fs).2) else (f :: fs, [])
    else (f :: (drain tag fs).1, (drain tag fs).2)

/-- The list without the oldest transaction of `tag`. -/
def dropOldest (tag : Fin 32) (fs : List Flight) : List Flight :=
  fs.eraseP fun f => decide (f.txn.tag = tag)

/-- The list with the oldest transaction of `tag` at stage `st`. -/
def setOldest (tag : Fin 32) (st : Stage) : List Flight → List Flight
  | [] => []
  | f :: fs => if f.txn.tag = tag then { f with stage := st } :: fs else f :: setOldest tag st fs

/-- The oldest transaction of a source is answered, and the refused ones behind it with it (R144). -/
def Path.answer (p : Path) (r : Reply) : Path :=
  { p with
    flights := (drain r.tag (dropOldest r.tag p.flights)).1
    responses := p.responses ++ r :: (drain r.tag (dropOldest r.tag p.flights)).2 }

/-- The first record that `sel` picks, and the others. -/
def pick {α : Type} (sel : Handover → Option α) : List Handover → Option (α × List Handover)
  | [] => none
  | h :: hs =>
    match sel h with
    | some a => some (a, hs)
    | none => (pick sel hs).map fun r => (r.1, h :: r.2)

/-- The path once a record of the oldest write of `tag` has been handed over: the write is answered OKAY when it was the
last (R144, R148, R149). -/
def Path.handed (p : Path) (tag : Fin 32) (left : List Handover) : Path :=
  if left.isEmpty then p.answer { tag := tag, response := .okay, data := [] }
  else { p with flights := setOldest tag (.handing left) p.flights }

/-- Memory's OKAY to the oldest transaction of `tag` hands over the record that `sel` picks: the record, and the state with
the path moved on. None when that transaction hands over no such record: the step cannot come about (log 2). -/
def State.take {α : Type} (s : State) (tag : Fin 32) (sel : Handover → Option α) : Option (α × State) :=
  match s.path.oldest tag with
  | none => none
  | some f =>
    match pick sel (s.toHand f) with
    | none => none
    | some (a, left) => some (a, s.onPath fun p => p.handed tag left)

/-- A step that takes a record of the oldest transaction of `tag`, or leaves the state as it is (log 2). -/
def State.taking {α : Type} (s : State) (tag : Fin 32) (sel : Handover → Option α) (act : α → State → State) :
    Host.Outcome State Fault Refusal :=
  match s.take tag sel with
  | none => .next s
  | some (a, s') => .next (act a s').settle

/-- A substituted read at its substitution instant: the configuration, the window that matched it, and the read, when
memory's data return to the oldest transaction of `tag` and the window still stands (R150, R154). -/
def State.substituting (s : State) (tag : Fin 32) : Option (HallConfig × Window × Txn) :=
  match s.path.oldest tag, s.config with
  | some f, some c =>
    match f.treatment, f.stage with
    | .substituted i w, .atMemory => if c.stands i w then some (c, w, f.txn) else none
    | _, _ => none
  | _, _ => none

/-! ## Selectors: the record a command takes -/

/-- The word of zone slot `z`, if its code is this command's (R109, 11.3). -/
def selZone (z : Fin 8) (k : ZoneCommand) : Handover → Option Word
  | .zoneWord y w => if y = z ∧ ZoneCommand.ofCode (wordCode w) = some k then some w else none
  | _ => none

/-- The word of zone slot `z`, if its code is no zone command. -/
def selZoneOther (z : Fin 8) : Handover → Option Word
  | .zoneWord y w => if y = z ∧ ZoneCommand.ofCode (wordCode w) = none then some w else none
  | _ => none

/-- The word of the general slot, if its code is this command's (R164). -/
def selGeneral (k : GeneralCommand) : Handover → Option Word
  | .generalWord w => if GeneralCommand.ofCode (wordCode w) = some k then some w else none
  | _ => none

/-- The word of the general slot, if its code is no general command. -/
def selGeneralOther : Handover → Option Word
  | .generalWord w => if GeneralCommand.ofCode (wordCode w) = none then some w else none
  | _ => none

/-- The control word, if its load kind is this one (R156). -/
def selLoad (k : LoadKind) : Handover → Option Word
  | .control w => if LoadKind.ofCode (loadKindByte w) = some k then some w else none
  | _ => none

/-- The control word, if its load kind is none of 0 … 3 (R156). -/
def selLoadOther : Handover → Option Word
  | .control w => if loadKindByte w ≠ 0 ∧ LoadKind.ofCode (loadKindByte w) = none then some w else none
  | _ => none

/-- The consumer word's value: its low four bytes (11.3). -/
def selConsumer : Handover → Option (BitVec 32)
  | .consumer w => some (w.extractLsb' 0 32)
  | _ => none

/-- The sequence field of robot `u`'s command frame. -/
def selSequence (u : Fin 24) : Handover → Option Seq
  | .sequence v q => if v = u then some q else none
  | _ => none

/-- A robot's status slot. -/
def selRobotStatus : Handover → Option (Fin 24 × StatusFrame)
  | .robotStatus u b => some (u, readStatusFrame b)
  | _ => none

/-- A gate's status slot. -/
def selGateStatus : Handover → Option (Fin 2 × StatusFrame)
  | .gateStatus g b => some (g, readStatusFrame b)
  | _ => none

/-- A verdict slot. -/
def selVerdict : Handover → Option (Fin 6 × VerdictRec)
  | .verdict n b => some (n, readVerdict b)
  | _ => none

/-- A time frame slot. -/
def selTimeFrame : Handover → Option (Fin 24 × TimeFrame)
  | .timeFrame u b => some (u, readTimeFrame b)
  | _ => none

/-- The switch table. -/
def selTable : Handover → Option (List Byte)
  | .switchTable b => some b
  | _ => none

end Sys2Proof.Machine
end

