-- ==== Sys2Proof/Machine/Tracking.lean ====
section
/-! DEFINITION. The tracking unit's shared operations (chapter 2): joining and leaving the queue, the disturbed marking at a
mark, and the placement of a verdict. -/

namespace Sys2Proof.Machine

/-! ## The queue at a mark -/

/-- The filler of bottle `k`: r(k mod N) (R24). -/
def HallConfig.fillerOf (c : HallConfig) (k : Bottle) : Option (Fin 24) :=
  c.fillOrder[k.toNat % c.fillOrder.length]?

/-- The robot is fit to fill: RELEASED with accepted state RUNNING (R24). -/
def State.fitToFill (s : State) (u : Fin 24) : Bool :=
  match s.robots.get u with
  | some r => decide (r.gate = .released) && decide (r.accepted = .running)
  | none => false

/-- The slot with which bottle `k` joins at hall time `t` (R20, R24). -/
def State.joiningSlot (s : State) (c : HallConfig) (k : Bottle) (t : Nat) : Slot :=
  { bottle := k, entry := t, filler := c.fillerOf k, filled := ((c.fillerOf k).map s.fitToFill).getD false,
    generation := s.grading.generation, verdicts := Table.replicate 6 none, disturbed := none, purged := false,
    decisions := Table.replicate 2 none, ejected := none }

/-- Bottle `k` joins at the tail (R21 step 1). -/
def State.join (s : State) (c : HallConfig) (k : Bottle) (t : Nat) : State :=
  { s with queue := s.queue ++ [s.joiningSlot c k t] }

/-- Zone `z` marks the bottle that has just reached its span's first position, while out of RUN (R28). -/
def State.markFirst (s : State) (c : HallConfig) (z : Fin 8) : State :=
  if (c.zones.get z).hasSpan ∧ (s.zones.get z).state ≠ .run then
    s.onSlot (s.time.newest.getD 0 - BitVec.ofNat 32 (c.zones.get z).first) fun q => q.disturb z
  else s

/-- Every zone makes the marking of R28 (R21 step 2). Where two zones mark one bottle at one mark, R26 keeps the zone that set the
flag first and no rule orders the zones: the lowest number is kept (log 47, DESIGN CHOICE, unsafe). -/
def State.markFirsts (s : State) (c : HallConfig) : State :=
  (List.finRange 8).foldl (fun s z => s.markFirst c z) s

/-- The head slot leaves once it has passed the retention depth (R22, R21 step 3). -/
def State.leave (s : State) (c : HallConfig) : State :=
  match s.queue with
  | [] => s
  | q :: qs => if c.retention < s.position q.bottle then { s with queue := qs } else s

/-! ## Placement -/

/-- The pitch-log entry that a capture time falls after, with the entries next to it (R31, R32). -/
structure Located where
  /-- Entry j + 1, if j is not the newest. -/
  after : Option Mark
  /-- Entry j. -/
  at_ : Mark
  /-- Entry j − 1, if the log holds one. -/
  before : Option Mark
deriving DecidableEq, Repr

/-- The newest entry not later than `T` in a log listed newest first; `after` is the entry last passed over. -/
def locate (T : Nat) (after : Option Mark) : List Mark → Option Located
  | [] => none
  | m :: older => if m.time ≤ T then some ⟨after, m, older.head?⟩ else locate T (some m) older

/-- The period L (R32). -/
def Located.period (l : Located) (nominal : Nat) : Int :=
  match l.after, l.before with
  | some n, _ => n.time - l.at_.time
  | none, some b => l.at_.time - b.time
  | none, none => nominal

/-- The outcome of placement (R30): a bottle, or a reason with the bottle index and detail word its notice carries (R37). -/
inductive Placement where
  /-- Placed on this bottle. -/
  | on (b : Bottle)
  /-- Unplaced. -/
  | unplaced (why : Unplaced) (bottle : Option Bottle) (detail : BitVec 32)
deriving DecidableEq, Repr

/-- A bottle index from an exact number, if it lies in 0 … 2^32 − 1 (R35). -/
def bottleOf (b : Int) : Option Bottle :=
  if 0 ≤ b ∧ b < 2 ^ 32 then some (BitVec.ofInt 32 b) else none

/-- Stages 6 and 7 on the seen position C (R35, R36). -/
def State.placeAt (s : State) (halfWindow : Nat) (C : Int) : Placement :=
  let b := (C + 128) / 256
  let e := C - 256 * b
  if (halfWindow * 16 : Int) < e.natAbs then .unplaced .ambiguous (bottleOf b) (detailInt e)
  else
    match bottleOf b with
    | none => .unplaced .outOfRange none 0
    | some k => if (s.slotOf k).isSome then .on k else .unplaced .outOfRange (some k) 0

/-- Stages 2 to 5 past entry j (R32 to R34), then 6 and 7. The division is floor division: L is positive (R32). -/
def State.placePast (s : State) (c : HallConfig) (k : CameraCfg) (T : Nat) (l : Located) : Placement :=
  let q := ((T - l.at_.time : Int) * 256) / l.period c.timers.nominalPeriod
  if l.after = none ∧ 512 ≤ q then .unplaced .stalled none (detailNat q.toNat)
  else s.placeAt k.halfWindow (l.at_.bottle.toNat * 256 + q - k.distance * 16)

/-- Placement of capture time `T` for the camera with entry `k` (R30, R31). -/
def State.place (s : State) (c : HallConfig) (k : CameraCfg) (T : Nat) : Placement :=
  match s.time.pitchLog with
  | [] => .unplaced .tooOld none 0
  | _ :: _ =>
    if s.time.hall + 1000000 < T then .unplaced .future none 0
    else
      match locate T none s.time.pitchLog.reverse with
      | none => .unplaced .tooOld none 0
      | some l => s.placePast c k T l

end Sys2Proof.Machine
end

