-- ==== Sys2Proof/Machine/Decisions.lean ====
section
/-! DEFINITION. The decision unit (chapter 4): forming decisions, the checks of a mark, the attribution ring, gate status
frames, the eject list, and the commands GATE_STATUS_FRAME, GATE_STATUS_TIMEOUT, GATE_COMMAND_READ. LINE_RESUME stands in
General.lean with the other commands of the general slot. -/

namespace Sys2Proof.Machine

/-! ## Forming decisions -/

/-- The bottle that stands `d` pitches behind the newest (R68, R74). -/
def State.bottleAt (s : State) (d : Nat) : Bottle :=
  s.time.newest.getD 0 - BitVec.ofNat 32 d

/-- The pitches from the outlet to gate `g`'s decision point: D_g − A_g (R68). -/
def HallConfig.decisionPoint (c : HallConfig) (g : Fin 2) : Nat :=
  (c.gates.get g).distance - (c.gates.get g).advance

/-- The slot's verdict entry of camera `n` has grade MAJOR. -/
def Slot.majorAt (q : Slot) (n : Fin 6) : Bool :=
  match q.verdicts.get n with
  | some v => decide (v.kept.grade = .major)
  | none => false

/-- A reason of R69 applies to the slot at gate `g`. -/
def Slot.applies (q : Slot) (c : HallConfig) (g : Fin 2) : Reason → Bool
  | .purged => q.purged
  | .unfilled => !q.filled
  | .disturbed => q.disturbed.isSome
  | .noVerdict => (c.gateCameras g).any fun n => (q.verdicts.get n).isNone
  | .major => (c.gateCameras g).any q.majorAt

/-- The reason set of the slot at gate `g`, in the order of R69. -/
def Slot.reasons (q : Slot) (c : HallConfig) (g : Fin 2) : List Reason :=
  [Reason.purged, .unfilled, .disturbed, .noVerdict, .major].filter (q.applies c g)

/-- The decision gate `g` forms on the slot (R69, R70). -/
def State.newDecision (s : State) (c : HallConfig) (g : Fin 2) (q : Slot) : Decision :=
  { reasons := q.reasons c g, undeliverable := !s.available c g, delivered := false, confirmed := none, late := 0 }

/-- Gate `g` forms no decision on the slot: gate 1, when gate 0 ejected the bottle (R68). -/
def Slot.skips (q : Slot) (g : Fin 2) : Bool :=
  decide (g = 1) && decide (q.ejected = some 0)

/-- One more decision in the gate record's counts (R69, R70). -/
def GateRec.count (r : GateRec) (d : Decision) : GateRec :=
  { r with
    passed := if d.rejects then r.passed else satAdd 32 r.passed 1
    rejected := if d.rejects then satAdd 32 r.rejected 1 else r.rejected
    undeliverable := if d.undeliverable then satAdd 32 r.undeliverable 1 else r.undeliverable }

/-- Gate `g` forms its decision for the bottle at its decision point, if the queue holds it (R68). A decision once formed
stands. -/
def State.formAt (s : State) (c : HallConfig) (g : Fin 2) : State :=
  if c.hasGate g then
    match s.slotOf (s.bottleAt (c.decisionPoint g)) with
    | some q =>
      if q.skips g || (q.decisions.get g).isSome then s
      else
        (s.onSlot q.bottle fun q => { q with decisions := q.decisions.set g (some (s.newDecision c g q)) }).onGate g
          fun r => r.count (s.newDecision c g q)
    | none => s
  else s

/-! ## The checks of a mark -/

/-- The bottle `d` pitches behind the newest has a formed, unconfirmed decision at gate `g` that `late` is true of (R74). -/
def State.failsCheck (s : State) (g : Fin 2) (d : Nat) (late : Decision → Bool) : Bool :=
  match (s.slotOf (s.bottleAt d)).bind fun q => q.decisions.get g with
  | some k => k.confirmed.isNone && late k
  | none => false

/-- The delivery check and the confirmation check of gate `g` (R74). -/
def State.checkGate (s : State) (c : HallConfig) (g : Fin 2) : State :=
  if c.hasGate g then
    let d := (c.gates.get g).distance
    let s := if s.failsCheck g d (fun k => !k.delivered) then s.addHold g .missed (some (s.bottleAt d)) else s
    if s.failsCheck g (d + 2) (fun _ => true) then s.addHold g .unconfirmed (some (s.bottleAt (d + 2))) else s
  else s

/-! ## The attribution ring -/

/-- The decision used for the attribution of the slot at the last gate `g`, with its gate: gate `g`'s own, or gate 0's for
a bottle ejected there (R78). -/
def Slot.decisionUsed (q : Slot) (g : Fin 2) : Option (Fin 2 × Decision) :=
  if q.skips g then (q.decisions.get 0).map fun d => (0, d) else (q.decisions.get g).map fun d => (g, d)

/-- The slot's verdict entry of camera `n` is MAJOR of class FILL. -/
def Slot.fillDefectAt (q : Slot) (n : Fin 6) : Bool :=
  match q.verdicts.get n with
  | some v => decide (v.kept.grade = .major) && decide (v.kept.cls = .fill)
  | none => false

/-- The ring entry of the slot (R78): 1 for a primary reason MAJOR with a fill defect seen by the decision's gate. -/
def Slot.ringEntry (q : Slot) (c : HallConfig) (g : Fin 2) : Bool :=
  match q.decisionUsed g with
  | some (y, d) => decide (d.primary = some .major) && (c.gateCameras y).any q.fillDefectAt
  | none => false

/-- The ring with one entry more, the oldest of 32 removed (R78). -/
def ringAdd (ring : List Bool) (e : Bool) : List Bool :=
  (if ring.length < 32 then ring else ring.drop (ring.length - 31)) ++ [e]

/-- The count of 1s (4.6). -/
def Robot.ones (r : Robot) : Nat :=
  r.ring.count true

/-- The robot's ring reaches the suspect threshold while its latch is clear (R79). -/
def Robot.turnsSuspect (r : Robot) (threshold : Nat) : Bool :=
  decide (threshold ≠ 0) && !r.suspect && decide (threshold ≤ r.ones)

/-- The SUSPECT latch of robot `u` is set with its notice (R79). -/
def State.latchSuspect (s : State) (u : Fin 24) (ones : Nat) (bottle : Option Bottle) : State :=
  (s.onRobot u fun r => { r with suspect := true }).give
    { s.note .robotSuspect with subject := u.val, bottle := bottle, detail := detailNat ones }

/-- One entry joins the ring of robot `u`, for bottle `b` (R78, R79). -/
def State.feedRing (s : State) (c : HallConfig) (u : Fin 24) (e : Bool) (b : Bottle) : State :=
  let s := s.onRobot u fun r => { r with ring := ringAdd r.ring e }
  match s.robots.get u with
  | some r => if r.turnsSuspect c.timers.suspectThreshold then s.latchSuspect u r.ones (some b) else s
  | none => s

/-- The attribution of the bottle at the last applicable gate's decision point (R78). -/
def State.attribute (s : State) (c : HallConfig) : State :=
  match c.lastGate with
  | none => s
  | some g =>
    match s.slotOf (s.bottleAt (c.decisionPoint g)) with
    | none => s
    | some q =>
      match q.filled, q.filler with
      | true, some u => s.feedRing c u (q.ringEntry c g) q.bottle
      | _, _ => s

/-- The decision unit's handling of a mark (R68 to R70, R74, R78). -/
def State.decideMark (s : State) (c : HallConfig) : State :=
  ((((s.formAt c 0).formAt c 1).checkGate c 0).checkGate c 1).attribute c

/-! ## Gate status frames -/

/-- A slot after a report with ejected flag `x` that marks gate `g`'s decision confirmed (R72, R73): an ejection by another
gate stays with that gate. -/
def Slot.confirm (q : Slot) (g : Fin 2) (x : Bool) : Slot :=
  { q with
    decisions := q.decisions.modify g (Option.map fun d => { d with confirmed := some x })
    ejected := if x then (match q.ejected with | some y => some y | none => some g) else q.ejected }

/-- What a new report means against the decision for its bottle (R72, R73). -/
inductive Finding where
  /-- No slot, or no decision: counted as unmatched. -/
  | unmatched
  /-- It confirms the decision. -/
  | confirms
  /-- It repeats what confirmed the decision: no effect. -/
  | repeated
  /-- It disagrees. -/
  | mismatch
deriving DecidableEq, Repr

/-- The finding on a report with ejected flag `x` against this decision entry. -/
def finding (d : Option Decision) (x : Bool) : Finding :=
  match d with
  | none => .unmatched
  | some d =>
    match d.confirmed with
    | none => if x = d.rejects then .confirms else .mismatch
    | some y => if x = y then .repeated else .mismatch

/-- A new report of gate `g` is examined (R72, R73). -/
def State.examine (s : State) (g : Fin 2) (h : Bottle) (x : Bool) : State :=
  match finding ((s.slotOf h).bind fun q => q.decisions.get g) x with
  | .unmatched => s.onGate g fun r => { r with unmatched := satAdd 16 r.unmatched 1 }
  | .repeated => s
  | .confirms => s.onSlot h fun q => q.confirm g x
  | .mismatch => (s.onSlot h fun q => q.confirm g x).addHold g .mismatch (some h)

/-- The report of a taken frame, examined unless it equals the last (R72). -/
def State.takeReport (s : State) (g : Fin 2) (f : StatusFrame) : State :=
  match s.gates.get g with
  | none => s
  | some r =>
    if f.handledPresent && decide (r.lastReport ≠ some (f.handled, f.handledEjected)) then
      (s.onGate g fun r => { r with lastReport := some (f.handled, f.handledEjected) }).examine g f.handled f.handledEjected
    else s

/-- A gate record after a taken frame (R66). -/
def GateRec.takeFrame (r : GateRec) (f : StatusFrame) (now : Nat) : GateRec :=
  { r with accepted := f.reported, lastSeq := some f.seq, statusStart := some now, faultCode := f.faultCode }

/-- A STATUS slot handed to the decision unit (R66): the change of accepted state is handed on, then the report is
examined and what it latched handed on (log 13). -/
def State.gateStatusTaken (s : State) (g : Fin 2) (f : StatusFrame) : State :=
  match s.gates.get g with
  | none => s
  | some r =>
    if seqPasses r.lastSeq f.seq then
      (((s.onGate g fun r => r.takeFrame f s.time.localTime).handOn).takeReport g f).handOn
    else s.onGate g fun r => { r with staleStatus := satAdd 16 r.staleStatus 1 }

/-- GATE_STATUS_FRAME (R66). -/
def execGateStatusFrame (tag : Fin 32) (s : State) : Host.Outcome State Fault Refusal :=
  s.taking tag selGateStatus fun r s => s.gateStatusTaken r.1 r.2

/-- The status timer of gate `g` has reached `limit` ms (R66). -/
def State.gateTimeoutDue (s : State) (g : Fin 2) (limit : Nat) : Bool :=
  match s.gates.get g with
  | some r => timerDue r.statusStart (ms limit) s.time.localTime
  | none => false

/-- Gate `g` becomes LOST and its timer stops (R66). -/
def State.gateLost (s : State) (g : Fin 2) : State :=
  s.onGate g fun r => { r with accepted := .lost, statusStart := none }

/-- GATE_STATUS_TIMEOUT (R66). -/
def execGateStatusTimeout (g : Fin 2) (s : State) : Host.Outcome State Fault Refusal :=
  match s.config with
  | some c =>
    if s.gateTimeoutDue g (c.gates.get g).statusTimeout then .next (s.gateLost g).handOn.settle else .next s
  | none => .next s

/-! ## The eject list -/

/-- The slot's decision at gate `g` is outstanding: formed and not confirmed (R71). -/
def Slot.outstanding (q : Slot) (g : Fin 2) : Bool :=
  match q.decisions.get g with
  | some d => d.confirmed.isNone
  | none => false

/-- The slots whose decisions at gate `g` are outstanding, oldest first (R71). -/
def State.outstanding (s : State) (g : Fin 2) : List Slot :=
  s.queue.filter fun q => q.outstanding g

/-- The slots listed at a read: the 8 oldest outstanding, none while the gate is unavailable (R71). -/
def State.ejectList (s : State) (c : HallConfig) (g : Fin 2) : List Slot :=
  if s.available c g then (s.outstanding g).take 8 else []

/-- The eject flag of the slot at gate `g` (R71). -/
def Slot.ejectFlag (q : Slot) (g : Fin 2) : Nat :=
  match q.decisions.get g with
  | some d => bit d.rejects 0
  | none => 0

/-- Entry `i` of an eject list (11.2, R71). -/
def ejectEntry (g : Fin 2) (listed : List Slot) (i : Nat) : List Field :=
  match listed[i]? with
  | some q => [⟨16 + 8 * i, 4, q.bottle.toNat⟩, ⟨20 + 8 * i, 4, q.ejectFlag g⟩]
  | none => [⟨16 + 8 * i, 8, 0⟩]

/-- The part's fields of gate `g`'s command frame (R71, 11.2). -/
def State.gateFields (s : State) (c : HallConfig) (g : Fin 2) : List Field :=
  [⟨4, 1, bit (s.available c g) 0⟩, ⟨5, 1, (s.ejectList c g).length⟩, ⟨8, 8, s.time.hall⟩] ++
    (List.range 8).flatMap (ejectEntry g (s.ejectList c g))

/-- The listed decisions become delivered (R71). -/
def State.deliver (s : State) (c : HallConfig) (g : Fin 2) : State :=
  let listed := (s.ejectList c g).map Slot.bottle
  { s with queue := s.queue.map fun q =>
      if q.bottle ∈ listed then
        { q with decisions := q.decisions.modify g (Option.map fun d => { d with delivered := true }) }
      else q }

/-- A read of gate `g`'s command frame at its substitution instant: the frame is rewritten and the listed decisions become
delivered (R71). -/
def State.readGateFrame (s : State) (c : HallConfig) (g : Fin 2) (t : Txn) (data : List Word) : State :=
  (s.deliver c g).onPath fun p =>
    p.answer { tag := t.tag, response := .okay, data := overlay (s.gateFields c g) t.lineOffset (fitWords t.length data) }

/-- GATE_COMMAND_READ (R71). -/
def execGateCommandRead (tag : Fin 32) (data : List Word) (s : State) : Host.Outcome State Fault Refusal :=
  match s.substituting tag with
  | some (c, w, t) =>
    match w.kind, (unitNumber w.unit).bind c.gateOfUnit with
    | .command, some g => .next (s.readGateFrame c g t data).settle
    | _, _ => .next s
  | none => .next s

end Sys2Proof.Machine
end

