-- ==== Sys2Proof/Machine/Ports.lean ====
section
/-! DEFINITION. The port monitor (chapter 7): SWITCH_TABLE, TABLE_TIMER_EXPIRY, INTERVAL_BOUNDARY, SILENCE_EXPIRY, and the
conduct of a port that UPSTREAM_TRANSACTION judges (R132 to R139). PORT_CLEAR stands in General.lean. -/

namespace Sys2Proof.Machine

/-! ## Links -/

/-- A port's link becomes DOWN with this reason: the record, and the change of state from ACTIVE or LISTEN (R131). -/
def State.linkDown (s : State) (c : HallConfig) (p : Fin 16) (reason : PortReason) : State :=
  let state := (s.ports.get p).state
  let s := s.onPort p fun r => { r with linkUp := false }
  if state = .active ∨ state = .listen then s.movePort c p .down reason else s

/-- A port's link becomes UP: the record, and the change of state from DOWN (R131). -/
def State.linkUp (s : State) (c : HallConfig) (p : Fin 16) : State :=
  let state := (s.ports.get p).state
  let s := s.onPort p fun r => { r with linkUp := true, upRun := 0 }
  if state = .down then s.movePort c p .active .link else s

/-- The link of a taken table's entry applied to port `p` (R129). -/
def State.applyLink (s : State) (c : HallConfig) (p : Fin 16) (up : Bool) : State :=
  let r := s.ports.get p
  if up then
    if r.linkUp then s
    else if r.upRun + 1 < 2 then s.onPort p fun r => { r with upRun := r.upRun + 1 }
    else s.linkUp c p
  else
    let s := s.onPort p fun r => { r with upRun := 0 }
    if r.linkUp then s.linkDown c p .link else s

/-- Entry `e` of a taken table applied to port `p` (R128 steps 3 and 4). -/
def State.applyEntry (s : State) (c : HallConfig) (p : Fin 16) (e : TableEntry) : State :=
  (s.onPort p fun r => { r with speed := e.speed, rxErrors := e.rxErrors }).applyLink c p e.up

/-- The table timer restarts; a stale table is reported resumed (R128 steps 1 and 2). -/
def State.restartTable (s : State) : State :=
  let after := s.onTable fun t => { t with timer := some s.time.localTime, stale := false }
  if s.table.stale then after.give (s.note .switchTableResumed) else after

/-- A switch table handed to the port monitor (R128): the sixteen ports are handled together. -/
def State.tableTaken (s : State) (b : List Byte) : State :=
  match s.config with
  | none => s
  | some c => ((List.finRange 16).foldl (fun s p => s.applyEntry c p (readTableEntry b p)) s.restartTable).handOn

/-- SWITCH_TABLE (R128). -/
def execSwitchTable (s : State) : Host.Outcome State Fault Refusal :=
  s.taking agentTag selTable fun b s => s.tableTaken b

/-- Port `p` when the table goes stale: up run 0, and an accepted link DOWN (R130). -/
def State.stalePort (s : State) (c : HallConfig) (p : Fin 16) : State :=
  let up := (s.ports.get p).linkUp
  let s := s.onPort p fun r => { r with upRun := 0 }
  if up then s.linkDown c p .tableStale else s

/-- The switch table goes stale (R130). -/
def State.tableStale (s : State) (c : HallConfig) : State :=
  let s := (s.onTable fun t => { t with timer := none, stale := true }).give (s.note .switchTableStale)
  ((List.finRange 16).foldl (fun s p => s.stalePort c p) s).handOn

/-- TABLE_TIMER_EXPIRY (R130). -/
def execTableTimerExpiry (s : State) : Host.Outcome State Fault Refusal :=
  match s.config with
  | some c => if timerDue s.table.timer (ms 1000) s.time.localTime then .next (s.tableStale c).settle else .next s
  | none => .next s

/-! ## Intervals -/

/-- A port record at an interval boundary (R133). -/
def Port.boundary (r : Port) : Port :=
  { r with intervalViolations := 0, intervalWords := 0, wouldQuarantine := false }

/-- The interval in progress has lasted 10 ms (R133). -/
def State.boundaryDue (s : State) : Bool :=
  decide (s.table.intervalStart + ms 10 ≤ s.time.localTime)

/-- INTERVAL_BOUNDARY (R133). -/
def execIntervalBoundary (s : State) : Host.Outcome State Fault Refusal :=
  if s.boundaryDue then
    .next { s with
      ports := s.ports.mapFin fun _ r => r.boundary
      table := { s.table with intervalStart := s.table.intervalStart + ms 10 } }
  else .next s

/-! ## Silence -/

/-- Port `p`, in LISTEN, has made no write attempt for its silence time (R136). -/
def State.silenceDue (s : State) (c : HallConfig) (p : Fin 16) : Bool :=
  decide ((s.ports.get p).state = .listen) &&
    timerDue (s.ports.get p).silence (ms (c.ports.get p).silence) s.time.localTime

/-- SILENCE_EXPIRY (R136). -/
def execSilenceExpiry (p : Fin 16) (s : State) : Host.Outcome State Fault Refusal :=
  match s.config with
  | some c => if s.silenceDue c p then .next (s.movePort c p .active .silence).handOn.settle else .next s
  | none => .next s

/-! ## Misconduct -/

/-- The LISTEN history with the local time of one entry more, the oldest of 3 removed (R137). -/
def historyAdd (history : List Nat) (now : Nat) : List Nat :=
  (if history.length < 3 then history else history.drop (history.length - 2)) ++ [now]

/-- The history holds 3 entries within 60,000 ms (R137). -/
def locksOut (history : List Nat) : Bool :=
  match history with
  | [oldest, _, newest] => decide (newest ≤ oldest + ms 60000)
  | _ => false

/-- Port `p` enters LISTEN for this reason, or LOCKED at the third entry within 60 s (R137). -/
def State.enterListen (s : State) (c : HallConfig) (p : Fin 16) (reason : PortReason) : State :=
  let history := historyAdd (s.ports.get p).history s.time.localTime
  let s := s.onPort p fun r => { r with history := history }
  (if locksOut history then s.movePort c p .locked .lockout else s.movePort c p .listen reason).handOn

/-- WOULD_QUARANTINE at the first misconduct of an interval in observation (R139). -/
def State.wouldQuarantine (s : State) (p : Fin 16) (reason : PortReason) : State :=
  if (s.ports.get p).wouldQuarantine then s
  else
    (s.onPort p fun r => { r with wouldQuarantine := true }).give
      { s.note .wouldQuarantine with
        subject := portId p, code := reason.code, detail := detailNat (s.ports.get p).intervalWords }

/-- A port record with one violation more, counted in the interval while the port is ACTIVE (R134). -/
def Port.violate (r : Port) : Port :=
  { r with
    violations := satAdd 8 r.violations 1
    intervalViolations := if r.state = .active then satAdd 8 r.intervalViolations 1 else r.intervalViolations }

/-- The violation just counted reports WOULD_QUARANTINE in observation: at the limit, or at any violation (log 17). -/
def reportsViolation (violations limit : Nat) : Bool :=
  decide (limit ≤ violations) || Config.quarantineAtAnyViolation

/-- A violation of port `p` (R134, R139). -/
def State.violation (s : State) (c : HallConfig) (p : Fin 16) : State :=
  let s := s.onPort p Port.violate
  let r := s.ports.get p
  if r.state = .active then
    if s.observing c p then
      if reportsViolation r.intervalViolations (c.ports.get p).limit then s.wouldQuarantine p .violation else s
    else if (c.ports.get p).limit ≤ r.intervalViolations then s.enterListen c p .violation
    else s
  else s

/-- A write of `w` words by port `p` stays within the write budget (R135). -/
def State.withinBudget (s : State) (c : HallConfig) (p : Fin 16) (w : Nat) : Bool :=
  decide ((s.ports.get p).intervalWords + w ≤ (c.ports.get p).budget)

/-- A write of `w` words that the rights allow is forwarded (R135, R139). -/
def State.budgetAllows (s : State) (c : HallConfig) (p : Fin 16) (w : Nat) : Bool :=
  s.withinBudget c p w || s.observing c p

/-- A port record with `w` words more in its interval (R135). -/
def Port.addWords (r : Port) (w : Nat) : Port :=
  { r with intervalWords := satAdd 16 r.intervalWords w }

/-- A port record with one overrun more (R135). -/
def Port.overrun (r : Port) : Port :=
  { r with overruns := satAdd 16 r.overruns 1 }

/-- The budget test's effect on port `p` of a write of `w` words that the rights allow (R135, R139). -/
def State.chargeBudget (s : State) (c : HallConfig) (p : Fin 16) (w : Nat) : State :=
  if s.withinBudget c p w then s.onPort p fun r => r.addWords w
  else if s.observing c p then (s.onPort p fun r => (r.overrun).addWords w).wouldQuarantine p .budget
  else (s.onPort p Port.overrun).enterListen c p .budget

/-- A write attempt restarts the silence timer of a port in LISTEN (R136). -/
def State.writeAttempt (s : State) (p : Fin 16) : State :=
  if (s.ports.get p).state = .listen then s.onPort p fun r => { r with silence := some s.time.localTime } else s

/-- A forwarded write touches a slot of its port's record window without covering it (R132, R148). -/
def State.countFragment (s : State) (p : Fin 16) : State :=
  s.onPort p fun r => { r with fragments := satAdd 16 r.fragments 1 }

end Sys2Proof.Machine
end

