-- ==== Sys2Proof/Machine/View.lean ====
section
/-! DEFINITION. What the part answers of itself: the reply words of the mailbox (R112, R165, 11.3) and the supervisor view
(R170, 11.5). -/

namespace Sys2Proof.Machine

/-- A field moved by `base`. -/
def Field.shift (base : Nat) (f : Field) : Field :=
  { f with off := base + f.off }

/-- The code of an optional value: 0 where there is none. -/
def codeOr0 {α : Type} (code : α → Nat) (o : Option α) : Nat :=
  (o.map code).getD 0

/-- The forced cause: 255 for none (11.1). -/
def forcedCode (o : Option ZoneState) : Nat :=
  match o with
  | some k => k.code
  | none => 255

/-! ## Reply words -/

/-- The slot state of a zone slot (R112). -/
def Zone.slotState (k : Zone) : SlotState :=
  if k.inFlight.isSome then .inProgress else if k.pending.isSome then .complete else .idle

/-- The reply word of a zone slot (R112, 11.3). -/
def Zone.replyFields (k : Zone) : List Field :=
  [ ⟨0, 1, k.slotState.code⟩, ⟨1, 1, codeOr0 BitVec.toNat k.reply.seq⟩, ⟨2, 1, codeOr0 Completion.code k.reply.code⟩,
    ⟨3, 1, k.reply.origin.seq⟩,
    ⟨4, 1, bit k.reply.seq.isSome 0 +
      (match k.reply.origin with | .none => 0 | .command _ => bit true 1 | .autonomous => bit true 2) +
      bit k.reply.further 3 + bit k.hasRun 4⟩,
    ⟨5, 1, k.state.code⟩, ⟨6, 1, forcedCode k.forcedCause⟩ ]

/-- The reply word of the general slot (R165, 11.3). -/
def Report.replyFields (r : Report) : List Field :=
  [ ⟨0, 1, r.slot.code⟩, ⟨1, 1, codeOr0 (fun a => a.1.toNat) r.reply⟩, ⟨2, 1, codeOr0 (fun a => a.2.code) r.reply⟩,
    ⟨3, 1, 0⟩, ⟨4, 1, bit r.reply.isSome 0⟩, ⟨5, 2, 0⟩ ]

/-- The reply words of the mailbox, each at 24 of its slot of 32 bytes (11.3). -/
def State.replyFields (s : State) : List Field :=
  ((List.finRange 8).flatMap fun z => (s.zones.get z).replyFields.map (Field.shift (32 * z.val + 24))) ++
    s.report.replyFields.map (Field.shift 280)

/-! ## The view -/

/-- A span of local time in whole ms, for a field of four bytes; how a part of a ms counts is open (log 42), and so is what stands in
the field for a span it cannot hold (log 43). -/
def viewMs (ns : Nat) : Nat :=
  let n := if Config.msRoundsUp then (ns + 999999) / 1000000 else ns / 1000000
  if n < 2 ^ 32 then n else Config.msBeyond n % 2 ^ 32

/-- The header (11.5). -/
def State.headerFields (s : State) : List Field :=
  let g := s.grading
  let o := s.loader.outcome
  [ ⟨0, 8, s.time.hall⟩, ⟨8, 4, codeOr0 BitVec.toNat s.time.newest⟩,
    ⟨12, 1, bit s.time.newest.isSome 0 + bit s.time.running 1 + bit s.table.stale 2 + bit g.staging.isSome 3 +
      bit g.generation 4 + bit g.changeover.isSome 5⟩,
    ⟨13, 1, s.time.clock.code⟩, ⟨14, 1, bit s.loader.kind.isSome 0⟩, ⟨15, 1, codeOr0 LoadKind.code s.loader.kind⟩,
    ⟨16, 2, s.loader.requests.toNat⟩, ⟨18, 1, o.code.code⟩, ⟨19, 1, o.kind⟩, ⟨20, 1, o.part⟩, ⟨21, 1, o.entry⟩,
    ⟨22, 2, s.time.glitches⟩, ⟨24, 4, s.report.producer.toNat⟩, ⟨28, 4, s.report.consumer.toNat⟩,
    ⟨32, 2, s.report.dropped⟩, ⟨34, 2, s.report.consumerErrors⟩, ⟨36, 2, s.path.otherDenied⟩, ⟨38, 2, s.table.fragments⟩,
    ⟨40, 4, codeOr0 BitVec.toNat g.changeover⟩, ⟨44, 4, codeOr0 (fun q => q.bottle.toNat) s.queue.head?⟩,
    ⟨48, 4, codeOr0 (fun q => q.bottle.toNat) s.queue.getLast?⟩, ⟨52, 2, s.queue.length⟩, ⟨54, 2, s.lineHold.toNat⟩ ]

/-- The record of port `p` (11.5, R142). -/
def State.portFields (s : State) (c : HallConfig) (p : Fin 16) : List Field :=
  let r := s.ports.get p
  [ ⟨0, 1, r.state.code⟩, ⟨1, 1, r.reason.code⟩, ⟨2, 1, bit r.linkUp 0 + bit (s.observing c p) 1⟩, ⟨3, 1, r.upRun⟩,
    ⟨4, 1, r.speed.toNat⟩, ⟨5, 1, r.intervalViolations⟩, ⟨6, 2, r.intervalWords⟩, ⟨8, 4, r.rxErrors.toNat⟩,
    ⟨12, 1, r.violations⟩, ⟨13, 1, r.history.length⟩, ⟨14, 2, r.denied⟩, ⟨16, 2, r.fragments⟩, ⟨18, 2, r.overruns⟩,
    ⟨20, 4, codeOr0 (fun t => viewMs (s.time.localTime - t)) r.history.head?⟩ ]

/-- The expiry of the timer that runs in a zone, if one does (R118, R120). -/
def Zone.expiry (k : Zone) : Option Nat :=
  match k.access with
  | some t => some (t + accessLength k.extended)
  | none => k.clearing.map (· + ms 10000)

/-- The pending completion has its further-events flag set. -/
def Zone.furtherPending (k : Zone) : Bool :=
  (k.pending.map PendingCompletion.further).getD false

/-- The record of zone `z` (11.5, R126). -/
def State.zoneFields (s : State) (z : Fin 8) : List Field :=
  let k := s.zones.get z
  [ ⟨0, 1, k.state.code⟩, ⟨1, 1, bit (s.guards.get z).level 0⟩, ⟨2, 1, bit k.unlocked 0⟩,
    ⟨3, 1, bit k.hasRun 0 + bit k.afterForced 1 + bit k.extended 2 + bit k.furtherPending 3 + bit k.access.isSome 4 +
      bit k.clearing.isSome 5⟩,
    ⟨4, 1, forcedCode k.forcedCause⟩, ⟨5, 1, k.forcedCount⟩, ⟨6, 1, k.slotState.code⟩,
    ⟨8, 4, codeOr0 (fun t => viewMs (t - s.time.localTime)) k.expiry⟩ ]

/-- The fields of a robot's record (11.5, R104, R80). -/
def Robot.viewFields (r : Robot) : List Field :=
  [ ⟨2, 1, r.accepted.code⟩, ⟨3, 1, r.gate.code⟩, ⟨4, 2, r.causes.toNat⟩,
    ⟨6, 1, bit r.confirm 0 + bit r.lastVolume.isSome 1 + bit r.suspect 2⟩, ⟨8, 2, r.faultCode.toNat⟩,
    ⟨10, 2, r.lastVolume.getD 0⟩, ⟨12, 2, r.lastSpeed⟩, ⟨14, 2, r.staleStatus⟩, ⟨16, 2, r.modeErrors⟩,
    ⟨18, 1, r.ring.length⟩, ⟨19, 1, r.ones⟩ ]

/-- The fields of a camera's record (11.5, R64). -/
def CameraCounts.viewFields (k : CameraCounts) : List Field :=
  [⟨20, 4, k.taken⟩, ⟨24, 4, k.placed⟩, ⟨28, 4, k.unplaced⟩, ⟨32, 4, k.stale⟩, ⟨36, 4, k.missed⟩]

/-- The fields of a gate's record (11.5, R80). -/
def GateRec.viewFields (r : GateRec) (available : Bool) (outstanding : Nat) : List Field :=
  [ ⟨2, 1, r.accepted.code⟩,
    ⟨3, 1, bit available 0 + bit r.lastReport.isSome 1 + bit ((r.lastReport.map Prod.snd).getD false) 2⟩,
    ⟨4, 2, r.faultCode.toNat⟩, ⟨8, 2, outstanding⟩, ⟨14, 2, r.staleStatus⟩, ⟨16, 2, r.unmatched⟩, ⟨20, 4, r.passed⟩,
    ⟨24, 4, r.rejected⟩, ⟨28, 4, r.undeliverable⟩, ⟨32, 4, codeOr0 (fun h => h.1.toNat) r.lastReport⟩ ]

/-- The fields that depend on the unit's kind (11.5). -/
def State.kindFields (s : State) (c : HallConfig) (u : Fin 24) : List Field :=
  match c.kindOf u with
  | .absent => []
  | .filler =>
    match s.robots.get u with
    | some r => r.viewFields
    | none => []
  | .camera =>
    match c.cameraOfUnit u with
    | some n => (s.grading.cameras.get n).counts.viewFields
    | none => []
  | .gate =>
    match c.gateOfUnit u with
    | some g =>
      match s.gates.get g with
      | some r => r.viewFields (s.available c g) (s.outstanding g).length
      | none => []
    | none => []
  | .clock => [⟨4, 2, s.time.rejected⟩]

/-- The record of unit `u` (11.5). -/
def State.unitFields (s : State) (c : HallConfig) (u : Fin 24) : List Field :=
  let a := s.time.accounts.get u
  [⟨0, 1, (c.units.get u).kind.code⟩, ⟨1, 1, (c.units.get u).port⟩, ⟨56, 4, a.seconds⟩, ⟨60, 1, bit a.due 0⟩] ++
    s.kindFields c u

/-- The supervisor view (R170, 11.5): every listed field at its offset. -/
def State.viewFields (s : State) (c : HallConfig) : List Field :=
  s.headerFields ++
    ((List.finRange 16).flatMap fun p => (s.portFields c p).map (Field.shift (512 + 64 * p.val))) ++
    ((List.finRange 24).flatMap fun u => (s.unitFields c u).map (Field.shift (1536 + 64 * u.val))) ++
    (List.finRange 8).flatMap fun z => (s.zoneFields z).map (Field.shift (3072 + 64 * z.val))

end Sys2Proof.Machine
end

