-- ==== Sys2Proof/Machine/Robots.lean ====
section
/-! DEFINITION. The robot gate's commands (chapter 5): ROBOT_STATUS_FRAME, ROBOT_STATUS_TIMEOUT, SEQUENCE_WRITE,
ROBOT_COMMAND_READ. RELEASE and CLEAR_SUSPECT stand in General.lean with the other commands of the general slot. -/

namespace Sys2Proof.Machine

/-! ## The zone's test of its robots -/

/-- Every member filler robot of zone `z` is in the safe-reached set with SAFE accepted (R116). -/
def State.allSafe (s : State) (c : HallConfig) (z : Fin 8) : Bool :=
  (c.memberRobots z).all fun u => decide (u ∈ (s.zones.get z).safeReached) && s.isSafe u

/-- The state that a passed test of R116 takes the zone to, and the ENTER's completion. -/
def grantOf (k : ZoneCfg) : ZoneState × Completion :=
  if k.breakpoint then (.breakpoint, .normalBreak) else (.opened, .normal)

/-- Zone `z`, in REQUESTED with its ENTER in flight, is granted when every member robot is SAFE (R116). -/
def State.grantLater (s : State) (c : HallConfig) (z : Fin 8) : State :=
  if s.allSafe c z then
    (s.moveZone c z (grantOf (c.zones.get z)).1).completeEnter z (grantOf (c.zones.get z)).2
  else s

/-- The safe-reached set with robot `u` in it, ascending. -/
def addReached (l : List (Fin 24)) (u : Fin 24) : List (Fin 24) :=
  (List.finRange 24).filter fun v => decide (v ∈ l) || decide (v = u)

/-- Zone `z` tests the change of member robot `u`'s accepted state from `old` to `new` (R116, R117). -/
def State.zoneTest (s : State) (c : HallConfig) (z : Fin 8) (u : Fin 24) (old new : MachineState) : State :=
  let k := s.zones.get z
  if k.state = .requested then
    if new = .safe then
      (s.onZone z fun k => { k with safeReached := addReached k.safeReached u }).grantLater c z
    else if old = .safe ∧ u ∈ k.safeReached then (s.moveZone c z .held).completeEnter z .abnormalChanged
    else s
  else if k.state = .breakpoint ∧ old = .safe ∧ new ≠ .safe then (s.moveZone c z .held).completeAlone z .abnormalChanged
  else s

/-- The zone of robot `u` tests a change of its accepted state (R103, R116). -/
def State.zoneSees (s : State) (c : HallConfig) (u : Fin 24) (old new : MachineState) : State :=
  match c.zoneOf u with
  | some z => if old = new then s else s.zoneTest c z u old new
  | none => s

/-! ## Status frames -/

/-- The accepted state and the safe run after a report (R83). -/
def Robot.report (r : Robot) (reported : MachineState) (safeCount : Nat) : Robot :=
  if reported = .safe then
    if r.accepted = .safe then r
    else if safeCount ≤ r.safeRun + 1 then { r with accepted := .safe, safeRun := 0 }
    else { r with safeRun := r.safeRun + 1 }
  else { r with accepted := reported, safeRun := 0 }

/-- A robot record after a taken frame (R82, R83). -/
def Robot.takeFrame (r : Robot) (f : StatusFrame) (safeCount now : Nat) : Robot :=
  { r.report f.reported safeCount with lastSeq := some f.seq, statusStart := some now, faultCode := f.faultCode }

/-- A taken frame that reports FAULT gives ROBOT_FAULT at the entry to FAULT, and in FAULT when its fault code is a new one
(R85). -/
def faultNoticed (before : Robot) (f : StatusFrame) : Bool :=
  decide (f.reported = .fault) && (decide (before.accepted ≠ .fault) || decide (before.faultCode ≠ f.faultCode))

/-- The change of robot `u`'s record from `before` to `after` by frame `f` is noticed, handed on, and tested by its zone (R85). -/
def State.robotChanged (s : State) (c : HallConfig) (u : Fin 24) (before after : Robot) (f : StatusFrame) : State :=
  let s := if faultNoticed before f then
      s.give { s.note .robotFault with subject := u.val, detail := f.faultCode.setWidth 32 }
    else s
  s.handOn.zoneSees c u before.accepted after.accepted

/-- A STATUS slot of robot `u` handed to the robot gate (R82). -/
def State.robotStatusTaken (s : State) (u : Fin 24) (f : StatusFrame) : State :=
  match s.config, s.robots.get u with
  | some c, some r =>
    if seqPasses r.lastSeq f.seq then
      let after := r.takeFrame f (c.units.get u).safeCount s.time.localTime
      (s.onRobot u fun _ => after).robotChanged c u r after f
    else s.onRobot u fun r => { r with staleStatus := satAdd 16 r.staleStatus 1 }
  | _, _ => s

/-- ROBOT_STATUS_FRAME (R82). -/
def execRobotStatusFrame (tag : Fin 32) (s : State) : Host.Outcome State Fault Refusal :=
  s.taking tag selRobotStatus fun r s => s.robotStatusTaken r.1 r.2

/-- The status timer of robot `u` has reached `limit` ms (R84). -/
def State.robotTimeoutDue (s : State) (u : Fin 24) (limit : Nat) : Bool :=
  match s.robots.get u with
  | some r => timerDue r.statusStart (ms limit) s.time.localTime
  | none => false

/-- Robot `u`, with record `r`, becomes LOST: release-confirm is set, and the entry to LOST gives ROBOT_LOST with the state left
(R84, R85, R90). A robot still LOST, whose timer a SAFE report restarted, makes no entry. -/
def State.loseRobot (s : State) (u : Fin 24) (r : Robot) : State :=
  let after := s.onRobot u fun r => { r with accepted := .lost, safeRun := 0, statusStart := none, confirm := true }
  if r.accepted = .lost then after
  else after.give { s.note .robotLost with subject := u.val, detail := detailNat r.accepted.code }

/-- Robot `u` becomes LOST, handed on and tested by its zone (R84, R85). -/
def State.robotLost (s : State) (c : HallConfig) (u : Fin 24) : State :=
  match s.robots.get u with
  | some r => (s.loseRobot u r).handOn.zoneSees c u r.accepted .lost
  | none => s

/-- ROBOT_STATUS_TIMEOUT (R84). -/
def execRobotStatusTimeout (u : Fin 24) (s : State) : Host.Outcome State Fault Refusal :=
  match s.config with
  | some c =>
    if s.robotTimeoutDue u (c.units.get u).statusTimeout then .next (s.robotLost c u).settle else .next s
  | none => .next s

/-! ## The command sequence -/

/-- The robot record without cause STALE. -/
def Robot.fresh (r : Robot) : Robot :=
  { r with causes := r.causes &&& ~~~(causeBit .stale) }

/-- A robot record after a changing sequence write at hall time `now` (R93). -/
def Robot.takeSequence (r : Robot) (q : Seq) (now : Nat) : Robot :=
  { r.fresh with cmdSeq := some q, seqTime := some now }

/-- A sequence write for robot `u` (R93): only a changing one has an effect. -/
def State.sequenceTaken (s : State) (u : Fin 24) (q : Seq) : State :=
  match s.robots.get u with
  | some r => if r.cmdSeq = some q then s else (s.onRobot u fun r => r.takeSequence q s.time.hall).handOn
  | none => s

/-- SEQUENCE_WRITE (R93). -/
def execSequenceWrite (u : Fin 24) (s : State) : Host.Outcome State Fault Refusal :=
  s.taking processorTag (selSequence u) fun q s => s.sequenceTaken u q

/-! ## The command read -/

/-- The command sequence is stale at hall time `now` (R94). -/
def Robot.isStale (r : Robot) (limit now : Nat) : Bool :=
  match r.seqTime with
  | some t => decide (t + ms limit < now)
  | none => true

/-- The stale test of a command read of robot `u` (R94). -/
def State.staleTest (s : State) (c : HallConfig) (u : Fin 24) : State :=
  match s.robots.get u with
  | some r =>
    if r.isStale (c.units.get u).staleLimit s.time.hall then
      (s.onRobot u fun r => { r with causes := r.causes ||| causeBit .stale }).handOn
    else s
  | none => s

/-- What the processor wrote, as memory returned it: the mode byte, the volume and the speed (5.6). A mode word that the
read does not return leaves the mode open (log 14). -/
structure Written where
  /-- The mode byte. -/
  mode : Nat
  /-- The fill volume. -/
  volume : Nat
  /-- The speed. -/
  speed : Nat
deriving DecidableEq, Repr

/-- A field of two bytes at offset `o` of the words a read from offset `off` returned; 0 where it returned none. -/
def returned16 (ws : List Word) (off o : Nat) : Nat :=
  ((returnedByte ws off o).getD 0).toNat + 256 * ((returnedByte ws off (o + 1)).getD 0).toNat

/-- The fields that the processor wrote, in the words a read from offset `off` returned. -/
def State.writtenFields (s : State) (ws : List Word) (off : Nat) : Written :=
  { mode := ((returnedByte ws off 4).getD (Config.unreadMode s.freeIndex)).toNat, volume := returned16 ws off 8,
    speed := returned16 ws off 10 }

/-- The elapsed time e since the last forward (R100). -/
def Robot.elapsed (r : Robot) (now : Nat) : Nat :=
  match r.lastForward with
  | none => 100000000
  | some t => if now < t then 0 else min (now - t) 100000000

/-- The forwarded speed in the released form with mode RUN (R100). -/
def Robot.slewSpeed (r : Robot) (slew written now : Nat) : Nat :=
  let target : Int := min written 1000
  let allowance : Int := (slew * r.elapsed now / 1000000 : Nat)
  (r.lastSpeed + clampInt (-allowance) allowance (target - r.lastSpeed)).toNat

/-- What a substituted read forwards (R97 to R100). -/
structure Forwarded where
  /-- The mode. -/
  mode : RobotMode
  /-- The fill volume. -/
  volume : Nat
  /-- The speed. -/
  speed : Nat
deriving DecidableEq, Repr

/-- The hold form (R97). -/
def Robot.holdForm (r : Robot) (k : UnitCfg) : Forwarded :=
  { mode := .hold, volume := match r.lastVolume with | some v => clampNat k.vmin k.vmax v | none => k.vmin, speed := 0 }

/-- The released form (R98 to R100). -/
def Robot.releasedForm (r : Robot) (k : UnitCfg) (w : Written) (now : Nat) : Forwarded :=
  let mode := (RobotMode.ofCode w.mode).getD .hold
  { mode := mode, volume := clampNat k.vmin k.vmax w.volume,
    speed := if mode = .run then r.slewSpeed k.slew w.speed now else 0 }

/-- The form under which the read is substituted (R96). -/
def Robot.form (r : Robot) (k : UnitCfg) (w : Written) (now : Nat) : Forwarded :=
  if r.gate = .released then r.releasedForm k w now else r.holdForm k

/-- The part's fields of the robot's command frame (R96 to R101, 11.2). -/
def Robot.commandFields (r : Robot) (f : Forwarded) (now : Nat) : List Field :=
  [ ⟨4, 1, f.mode.code⟩, ⟨5, 1, bit (decide (f.mode = .run)) 0⟩, ⟨8, 2, f.volume⟩, ⟨10, 2, f.speed⟩, ⟨16, 8, now⟩,
    ⟨24, 1, r.gate.code⟩, ⟨26, 2, if r.gate = .released then 0 else r.causes.toNat⟩ ]

/-- An unknown mode is returned in the released form, and counted (R98). -/
def Robot.miscountsMode (r : Robot) (w : Written) (returned : Bool) : Bool :=
  decide (r.gate = .released) && returned && (RobotMode.ofCode w.mode).isNone

/-- What the robot gate records of a read from offset `off` of `n` words (R98, R101). -/
def Robot.record (r : Robot) (f : Forwarded) (w : Written) (n off now : Nat) : Robot :=
  { r with
    lastVolume := if returnsWord n off 8 then some f.volume else r.lastVolume
    lastSpeed := if returnsWord n off 8 then f.speed else r.lastSpeed
    lastForward := if returnsWord n off 8 then some now else r.lastForward
    modeErrors := if r.miscountsMode w (returnsWord n off 0) then satAdd 16 r.modeErrors 1 else r.modeErrors }

/-- The frame of robot `u` is rewritten, the forwarded values recorded and the read answered, after the stale test (R96 steps
2 to 4). -/
def State.forwardFrame (s : State) (c : HallConfig) (u : Fin 24) (t : Txn) (data : List Word) : State :=
  match s.robots.get u with
  | none => s
  | some r =>
    let ws := fitWords t.length data
    let w := s.writtenFields ws t.lineOffset
    let f := r.form (c.units.get u) w s.time.hall
    (s.onRobot u fun r => r.record f w t.length t.lineOffset s.time.hall).onPath fun p =>
      p.answer
        { tag := t.tag, response := .okay, data := overlay (r.commandFields f s.time.hall) t.lineOffset ws }

/-- ROBOT_COMMAND_READ (R96). -/
def execRobotCommandRead (tag : Fin 32) (data : List Word) (s : State) : Host.Outcome State Fault Refusal :=
  match s.substituting tag with
  | some (c, w, t) =>
    match w.kind, unitNumber w.unit with
    | .command, some u =>
      if c.isRobot u && (s.robots.get u).isSome then .next ((s.staleTest c u).forwardFrame c u t data).settle else .next s
    | _, _ => .next s
  | none => .next s

end Sys2Proof.Machine
end

