-- ==== Sys2Proof/Machine/Zones.lean ====
section
/-! DEFINITION. The zone controller's commands (chapter 6): GUARD_RAW_CHANGE, GUARD_OPEN, GUARD_CLOSED,
ACCESS_TIMER_EXPIRY, CLEARING_WINDOW_EXPIRY, and the zone commands ENTER, CONFIRM, EXTEND, CANCEL, RESET, RESUME, SENSE. -/

namespace Sys2Proof.Machine

/-! ## Guards -/

/-- A guard input whose raw level is now `opened`: the time of the change is kept when it is one (R106). -/
def Guard.change (g : Guard) (opened : Bool) (now : Nat) : Guard :=
  if g.raw = opened then g else { g with raw := opened, since := now }

/-- GUARD_RAW_CHANGE (R106). -/
def execGuardRawChange (z : Fin 8) (opened : Bool) (s : State) : Host.Outcome State Fault Refusal :=
  .next { s with guards := s.guards.modify z fun g => g.change opened s.time.localTime }

/-- The raw level `opened` of the guard has stood for 10 ms and differs from the filtered level (R106). -/
def Guard.settles (g : Guard) (opened : Bool) (now : Nat) : Bool :=
  decide (g.raw = opened) && decide (g.level ≠ opened) && decide (g.since + ms 10 ≤ now)

/-- The filtered level of GUARD[z] becomes `opened` (R106). -/
def State.setLevel (s : State) (z : Fin 8) (opened : Bool) : State :=
  { s with guards := s.guards.modify z fun g => { g with level := opened } }

/-- A zone record that is forced from its state (R121). -/
def Zone.force (k : Zone) (now : Nat) : Zone :=
  { k.enter .forced now with
    forcedCause := some k.state, forcedCount := satAdd 8 k.forcedCount 1, afterForced := true, safeReached := [] }

/-- A zone record that is reopened within a forced episode (R122). -/
def Zone.reopen (k : Zone) (now : Nat) : Zone :=
  { k.enter .forced now with forcedCount := satAdd 8 k.forcedCount 1 }

/-- Zone `z` is forced (R121): its record, the span when it leaves RUN, the completion, the robots' release-confirm. -/
def State.forceZone (s : State) (c : HallConfig) (z : Fin 8) : State :=
  let leaves := decide ((s.zones.get z).state = .run)
  let s := s.onZone z fun k => k.force s.time.localTime
  let s := if leaves then s.markSpan c z else s
  let s := if (s.zones.get z).inFlight.isSome then s.completeEnter z .abnormalGuard else s.completeAlone z .abnormalGuard
  s.confirmMembers c z

/-- Zone `z` returns from CLEARING to FORCED (R122); the robots' release-confirm is set at an entry to FORCED from any
state (R90). -/
def State.reopenZone (s : State) (c : HallConfig) (z : Fin 8) : State :=
  (s.onZone z fun k => k.reopen s.time.localTime).confirmMembers c z

/-- The effect of a guard OPEN event on a zone in this state (R106). -/
inductive OpenEffect where
  /-- None: the technician's entry, or a zone already FORCED. -/
  | none
  /-- Entry to FORCED by R121. -/
  | force
  /-- Return to FORCED by R122. -/
  | reopen
deriving DecidableEq, Repr

/-- The table of R106 for guard OPEN. -/
def Zone.openEffect (k : Zone) : OpenEffect :=
  match k.state with
  | .opened => .none
  | .forced => .none
  | .clearing => if k.afterForced then .reopen else .force
  | .start => .force
  | .run => .force
  | .requested => .force
  | .breakpoint => .force
  | .held => .force

/-- A guard OPEN event acts on zone `z` (R106). -/
def State.guardOpened (s : State) (c : HallConfig) (z : Fin 8) : State :=
  match (s.zones.get z).openEffect with
  | .none => s
  | .force => (s.forceZone c z).handOn
  | .reopen => (s.reopenZone c z).handOn

/-- GUARD_OPEN (R106). While UNCONFIGURED the level changes alone. -/
def execGuardOpen (z : Fin 8) (s : State) : Host.Outcome State Fault Refusal :=
  if (s.guards.get z).settles true s.time.localTime then
    match s.config with
    | none => .next (s.setLevel z true)
    | some c => .next ((s.setLevel z true).guardOpened c z).settle
  else .next s

/-- A guard CLOSED event acts on zone `z` (R106, R120, R122). -/
def State.guardClosed (s : State) (c : HallConfig) (z : Fin 8) : State :=
  if (s.zones.get z).state = .opened ∨ (s.zones.get z).state = .forced then
    ((s.moveZone c z .clearing).completeAlone z .normalClear).handOn
  else s

/-- GUARD_CLOSED (R106). -/
def execGuardClosed (z : Fin 8) (s : State) : Host.Outcome State Fault Refusal :=
  if (s.guards.get z).settles false s.time.localTime then
    match s.config with
    | none => .next (s.setLevel z false)
    | some c => .next ((s.setLevel z false).guardClosed c z).settle
  else .next s

/-! ## Timers -/

/-- The access timer of the zone has run out (R118). -/
def Zone.accessDue (k : Zone) (now : Nat) : Bool :=
  timerDue k.access (accessLength k.extended) now

/-- The expiry of the access timer takes zone `z` from REQUESTED or BREAK to HELD (R118). -/
def State.accessExpired (s : State) (c : HallConfig) (z : Fin 8) : State :=
  match (s.zones.get z).state with
  | .requested => ((s.moveZone c z .held).completeEnter z .abnormalTimeout).handOn
  | .breakpoint => ((s.moveZone c z .held).completeAlone z .abnormalTimeout).handOn
  | .start => s
  | .run => s
  | .opened => s
  | .clearing => s
  | .held => s
  | .forced => s

/-- ACCESS_TIMER_EXPIRY (R118). -/
def execAccessTimerExpiry (z : Fin 8) (s : State) : Host.Outcome State Fault Refusal :=
  match s.config with
  | some c => if (s.zones.get z).accessDue s.time.localTime then .next (s.accessExpired c z).settle else .next s
  | none => .next s

/-- The clearing window of the zone has run out in CLEARING (R120). -/
def Zone.clearingDue (k : Zone) (now : Nat) : Bool :=
  decide (k.state = .clearing) && timerDue k.clearing (ms 10000) now

/-- CLEARING_WINDOW_EXPIRY (R120). -/
def execClearingWindowExpiry (z : Fin 8) (s : State) : Host.Outcome State Fault Refusal :=
  match s.config with
  | some c =>
    if (s.zones.get z).clearingDue s.time.localTime then
      .next ((s.moveZone c z .held).completeAlone z .abnormalTimeout).handOn.settle
    else .next s
  | none => .next s

/-! ## The zone slot -/

/-- A zone record that receives a word of sequence `q` (R109). -/
def Zone.receive (k : Zone) (q : Byte) : Zone :=
  { k with lastSeq := some q, reply := { k.reply with seq := some q } }

/-- The INVALID answer of R109 and R112: no completion (R112, reply answer). -/
def Zone.answerInvalid (k : Zone) : Zone :=
  { k with reply := { k.reply with code := some .invalid, origin := .none, further := false } }

/-- A word written to zone slot `z` is received, unless it repeats the last sequence, and handled by `act`, which sees its
sequence (R109). -/
def State.zoneReceives (s : State) (z : Fin 8) (w : Word) (act : HallConfig → Byte → State → State) : State :=
  match s.config with
  | none => s
  | some c =>
    if (s.zones.get z).lastSeq = some (wordSeq w) then s
    else act c (wordSeq w) (s.onZone z fun k => k.receive (wordSeq w))

/-- A received command other than SENSE is taken by `act`, or answered INVALID while a completion is pending (R109). -/
def State.unlessPending (s : State) (z : Fin 8) (act : State → State) : State :=
  if (s.zones.get z).pending.isSome then s.onZone z Zone.answerInvalid else act s

/-- A step that takes zone command `k` from slot `z` (R109). -/
def State.zoneCommand (s : State) (z : Fin 8) (k : ZoneCommand) (act : HallConfig → Byte → State → State) :
    Host.Outcome State Fault Refusal :=
  s.taking processorTag (selZone z k) fun w s => s.zoneReceives z w fun c q s => s.unlessPending z (act c q)

/-! ## ENTER -/

/-- Some member robot of zone `z` is unverifiable (R115). -/
def State.anyUnverifiable (s : State) (c : HallConfig) (z : Fin 8) : Bool :=
  (c.memberRobots z).any (s.unverifiable c)

/-- A zone record at the start of an access request of sequence `q` (R110, R115). -/
def Zone.request (k : Zone) (q : Byte) (safe : List (Fin 24)) (now : Nat) : Zone :=
  { k with
    access := some now, extended := false, safeReached := safe, inFlight := some q
    reply := { k.reply with code := none, origin := .none, further := false } }

/-- Zone `z` is granted within the ENTER's own event: the completion is collected at once (R110, R116). -/
def State.grantAtOnce (s : State) (c : HallConfig) (z : Fin 8) (q : Byte) : State :=
  if s.allSafe c z then
    ((s.moveZone c z (grantOf (c.zones.get z)).1).onZone z fun k => { k with inFlight := none }).completeNow z q
      (grantOf (c.zones.get z)).2
  else s

/-- Zone `z` enters REQUESTED (R115). -/
def State.requestZone (s : State) (c : HallConfig) (z : Fin 8) (q : Byte) : State :=
  ((s.moveZone c z .requested).onZone z fun k =>
    k.request q ((c.memberRobots z).filter s.isSafe) s.time.localTime).grantAtOnce c z q

/-- ENTER taken for zone `z` (R113, R115). R118 has the next ENTER clear the extended flag, and R115 clears it for a verifiable
request alone: an ENTER that completes ABNORMAL-UNVERIFIABLE keeps it, as one that completes INVALID does (log 53, DESIGN CHOICE,
unsafe). -/
def State.enterZone (s : State) (c : HallConfig) (z : Fin 8) (q : Byte) : State :=
  if (s.zones.get z).state = .run ∨ (s.zones.get z).state = .held then
    if s.anyUnverifiable c z then ((s.moveZone c z .held).completeNow z q .abnormalUnverifiable).handOn
    else (s.requestZone c z q).handOn
  else s.completeNow z q .invalid

/-- ENTER (R115). -/
def execEnter (z : Fin 8) (s : State) : Host.Outcome State Fault Refusal :=
  s.zoneCommand z .enter fun c q s => s.enterZone c z q

/-! ## The other zone commands -/

/-- CONFIRM taken for zone `z` (R113, R117). -/
def State.confirmZone (s : State) (c : HallConfig) (z : Fin 8) (q : Byte) : State :=
  if (s.zones.get z).state = .breakpoint then ((s.moveZone c z .opened).completeNow z q .normal).handOn
  else s.completeNow z q .invalid

/-- CONFIRM (R117). -/
def execConfirm (z : Fin 8) (s : State) : Host.Outcome State Fault Refusal :=
  s.zoneCommand z .confirm fun c q s => s.confirmZone c z q

/-- EXTEND taken for zone `z` (R113, R118). -/
def State.extendZone (s : State) (z : Fin 8) (q : Byte) : State :=
  let k := s.zones.get z
  if (k.state = .requested ∨ k.state = .breakpoint) ∧ k.extended = false then
    (s.onZone z fun k => { k with extended := true }).completeNow z q .normal
  else s.completeNow z q .invalid

/-- EXTEND (R118). -/
def execExtend (z : Fin 8) (s : State) : Host.Outcome State Fault Refusal :=
  s.zoneCommand z .extend fun _ q s => s.extendZone z q

/-- CANCEL taken for zone `z` (R113, R119). -/
def State.cancelZone (s : State) (c : HallConfig) (z : Fin 8) (q : Byte) : State :=
  match (s.zones.get z).state with
  | .requested => (((s.moveZone c z .run).completeEnter z .abnormalCancelled).completeNow z q .normal).handOn
  | .breakpoint => ((s.moveZone c z .run).completeNow z q .abnormalCancelled).handOn
  | .opened =>
    if (s.guards.get z).level then s.completeNow z q .abnormalGuard
    else ((s.moveZone c z .clearing).completeNow z q .normal).handOn
  | .start => s.completeNow z q .invalid
  | .run => s.completeNow z q .invalid
  | .clearing => s.completeNow z q .invalid
  | .held => s.completeNow z q .invalid
  | .forced => s.completeNow z q .invalid

/-- CANCEL (R119). -/
def execCancel (z : Fin 8) (s : State) : Host.Outcome State Fault Refusal :=
  s.zoneCommand z .cancel fun c q s => s.cancelZone c z q

/-- Zone `z` returns to RUN if its guard is closed, else the command completes ABNORMAL-GUARD (R114; in CLEARING and HELD
no reachable state has the guard open, log 41). -/
def State.returnToRun (s : State) (c : HallConfig) (z : Fin 8) (q : Byte) : State :=
  if (s.guards.get z).level then s.completeNow z q .abnormalGuard
  else ((s.moveZone c z .run).completeNow z q .normal).handOn

/-- RESET taken for zone `z` (R113, R114). -/
def State.resetZone (s : State) (c : HallConfig) (z : Fin 8) (q : Byte) : State :=
  let k := (s.zones.get z).state
  if k = .start ∨ k = .clearing ∨ k = .held then s.returnToRun c z q else s.completeNow z q .invalid

/-- RESET (R114). -/
def execReset (z : Fin 8) (s : State) : Host.Outcome State Fault Refusal :=
  s.zoneCommand z .reset fun c q s => s.resetZone c z q

/-- RESUME taken for zone `z` (R113, R114). -/
def State.resumeZone (s : State) (c : HallConfig) (z : Fin 8) (q : Byte) : State :=
  if (s.zones.get z).state = .held then s.returnToRun c z q else s.completeNow z q .invalid

/-- RESUME (R114). -/
def execResume (z : Fin 8) (s : State) : Host.Outcome State Fault Refusal :=
  s.zoneCommand z .resume fun c q s => s.resumeZone c z q

/-- A zone record that answers SENSE: the pending completion is collected, or the answer is INVALID (R112). -/
def Zone.sense (k : Zone) : Zone :=
  match k.pending with
  | some p =>
    { k with pending := none, reply := { k.reply with code := some p.code, origin := p.origin, further := p.further } }
  | none => k.answerInvalid

/-- SENSE (R112). -/
def execSense (z : Fin 8) (s : State) : Host.Outcome State Fault Refusal :=
  s.taking processorTag (selZone z .sense) fun w s => s.zoneReceives z w fun _ _ s => s.onZone z Zone.sense

/-- A code that is no zone command, written to zone slot `z`: taken when nothing is pending, it completes INVALID (R109). -/
def execOtherZoneCode (z : Fin 8) (s : State) : Host.Outcome State Fault Refusal :=
  s.taking processorTag (selZoneOther z) fun w s =>
    s.zoneReceives z w fun _ q s => s.unlessPending z fun s => s.completeNow z q .invalid

end Sys2Proof.Machine
end

