-- ==== Sys2Proof/Machine/General.lean ====
section
/-! DEFINITION. The report unit's commands (chapter 10, 3.7): the general slot with RELEASE, CLEAR_SUSPECT, ACCOUNT_CLEAR,
PORT_CLEAR, SNAPSHOT, PURGE, LINE_RESUME, OTHER_COMMAND_CODE; CONSUMER_WRITE; the answers to snapshot and notice writes. -/

namespace Sys2Proof.Machine

/-! ## The general slot -/

/-- COMMAND_COMPLETION for the command with this code and sequence (R164, 11.4). -/
def State.giveCommandCompletion (s : State) (command : Nat) (q : Byte) (code : Completion) : State :=
  s.give { s.note .commandCompletion with
    subject := 8, code := code.code, detail := BitVec.ofNat 32 (command + 2 ^ 8 * q.toNat) }

/-- The command word `w` completes at once (R164). -/
def State.completeGeneral (s : State) (w : Word) (code : Completion) : State :=
  (s.onReport fun r => { r with slot := .complete, reply := some (wordSeq w, code) }).giveCommandCompletion (wordCode w)
    (wordSeq w) code

/-- The command word `w` completes BUSY; the slot stays IN_PROGRESS (R164). -/
def State.completeBusy (s : State) (w : Word) : State :=
  (s.onReport fun r => { r with reply := some (wordSeq w, .busy) }).giveCommandCompletion (wordCode w) (wordSeq w) .busy

/-- A word written to the general slot is received, unless it repeats the last sequence, and judged (R164). -/
def State.generalReceives (s : State) (w : Word) (act : HallConfig → State → State) : State :=
  match s.config with
  | none => s
  | some c =>
    if s.report.lastSeq = some (wordSeq w) then s
    else
      let s := s.onReport fun r => { r with lastSeq := some (wordSeq w) }
      if s.report.slot = .inProgress then s.completeBusy w else act c s

/-- A step that takes general command `k` (R164). -/
def State.generalCommand (s : State) (k : GeneralCommand) (act : HallConfig → Word → State → State) :
    Host.Outcome State Fault Refusal :=
  s.taking processorTag (selGeneral k) fun w s => s.generalReceives w fun c s => act c w s

/-! ## RELEASE and CLEAR_SUSPECT -/

/-- The robot that a command's argument numbers (R87, R91). -/
def HallConfig.robotArg (c : HallConfig) (w : Word) : Option (Fin 24) :=
  (unitNumber (wordArg w)).filter c.isRobot

/-- Robot `u` waits in ARMING. -/
def State.isArming (s : State) (u : Fin 24) : Bool :=
  match s.robots.get u with
  | some r => decide (r.gate = .arming)
  | none => false

/-- Robot `u` is released from ARMING (R91). -/
def State.releaseRobot (s : State) (u : Fin 24) : State :=
  (s.onRobot u fun r => { r with gate := .released, confirm := false }).give
    { s.note .robotReleased with subject := u.val }

/-- RELEASE taken (R91). -/
def State.releaseTaken (s : State) (c : HallConfig) (w : Word) : State :=
  match c.robotArg w with
  | some u => if s.isArming u then (s.releaseRobot u).completeGeneral w .normal else s.completeGeneral w .invalid
  | none => s.completeGeneral w .invalid

/-- RELEASE (R91). -/
def execRelease (s : State) : Host.Outcome State Fault Refusal :=
  s.generalCommand .release fun c w s => s.releaseTaken c w

/-- CLEAR_SUSPECT taken (R87): the latch and the ring are cleared, and the gate state evaluated. -/
def State.clearSuspectTaken (s : State) (c : HallConfig) (w : Word) : State :=
  match c.robotArg w with
  | some u => ((s.onRobot u fun r => { r with suspect := false, ring := [] }).handOn).completeGeneral w .normal
  | none => s.completeGeneral w .invalid

/-- CLEAR_SUSPECT (R87). -/
def execClearSuspect (s : State) : Host.Outcome State Fault Refusal :=
  s.generalCommand .clearSuspect fun c w s => s.clearSuspectTaken c w

/-! ## ACCOUNT_CLEAR, PORT_CLEAR, PURGE, LINE_RESUME -/

/-- ACCOUNT_CLEAR taken (R17). -/
def State.accountClearTaken (s : State) (w : Word) : State :=
  match unitNumber (wordArg w) with
  | some u => (s.onAccount u fun _ => { seconds := 0, remainder := 0, due := false }).completeGeneral w .normal
  | none => s.completeGeneral w .invalid

/-- ACCOUNT_CLEAR (R17). -/
def execAccountClear (s : State) : Host.Outcome State Fault Refusal :=
  s.generalCommand .accountClear fun _ w s => s.accountClearTaken w

/-- Port `p` cleared: history and violation count, and out of LOCKED by its link (R138). -/
def State.clearPort (s : State) (c : HallConfig) (p : Fin 16) : State :=
  let r := s.ports.get p
  let s := s.onPort p fun r => { r with history := [], violations := 0 }
  if r.state = .locked then s.movePort c p (if r.linkUp then .active else .down) .clear else s

/-- PORT_CLEAR taken (R138). -/
def State.portClearTaken (s : State) (c : HallConfig) (w : Word) : State :=
  match portNumber (wordArg w) with
  | some p => ((s.clearPort c p).handOn).completeGeneral w .normal
  | none => s.completeGeneral w .invalid

/-- PORT_CLEAR (R138). -/
def execPortClear (s : State) : Host.Outcome State Fault Refusal :=
  s.generalCommand .portClear fun c w s => s.portClearTaken c w

/-- Every slot in the queue is marked purged (R42). -/
def State.purgeQueue (s : State) : State :=
  { s with queue := s.queue.map fun q => { q with purged := true } }

/-- PURGE (R42). -/
def execPurge (s : State) : Host.Outcome State Fault Refusal :=
  s.generalCommand .purge fun _ w s => s.purgeQueue.completeGeneral w .normal

/-- The latched causes of gate `g` are removed if it is available (R76). -/
def State.resumeGate (s : State) (c : HallConfig) (g : Fin 2) : State :=
  if s.available c g then s.dropLatched g else s

/-- LINE_RESUME taken (R76). -/
def State.lineResumeTaken (s : State) (c : HallConfig) (w : Word) : State :=
  let s := ((s.resumeGate c 0).resumeGate c 1).handOn
  s.completeGeneral w (if s.lineHold = 0 then .normal else .abnormalRemaining)

/-- LINE_RESUME (R76). -/
def execLineResume (s : State) : Host.Outcome State Fault Refusal :=
  s.generalCommand .lineResume fun c w s => s.lineResumeTaken c w

/-! ## SNAPSHOT -/

/-- The camera that SNAPSHOT's argument numbers in its bits 0 to 7 (11.3, R61). -/
def HallConfig.cameraArg (c : HallConfig) (w : Word) : Option (Fin 6) :=
  if h : wordArg w % 256 < 6 then
    if c.hasCamera ⟨wordArg w % 256, h⟩ then some ⟨wordArg w % 256, h⟩ else none
  else none

/-- SNAPSHOT's clear flag: bit 8 of its argument (11.3). -/
def clearArg (w : Word) : Bool :=
  (wordArg w).testBit 8

/-- The copy of camera `n` with configuration entry `k` under snapshot sequence `q` (R61). -/
def State.copyCamera (s : State) (n : Fin 6) (k : CameraCfg) (clear : Bool) (q : BitVec 32) : SnapshotCopy :=
  { camera := n, unit := k.unit, clear := clear, time := s.time.hall, lastSeq := (s.grading.cameras.get n).lastSeq
    counts := (s.grading.cameras.get n).counts, generation := s.grading.generation, changeover := s.grading.changeover
    sequence := q }

/-- The fifteen 32-bit counts in the order of the snapshot record (11.4). -/
def CameraCounts.inOrder (k : CameraCounts) : List Nat :=
  [ k.taken, k.placed, k.unplaced, k.tooOld, k.future, k.stalled, k.ambiguous, k.outOfRange, k.late, k.pass, k.minor,
    k.major, k.stale, k.missed, k.double ]

/-- The snapshot record (11.4). -/
def SnapshotCopy.fields (k : SnapshotCopy) : List Field :=
  [ ⟨0, 1, k.camera.val⟩, ⟨1, 1, k.unit⟩,
    ⟨2, 1, bit k.clear 0 + bit k.lastSeq.isSome 1 + bit k.changeover.isSome 2 + bit k.generation 3⟩,
    ⟨4, 4, codeOr0 BitVec.toNat k.lastSeq⟩, ⟨8, 8, k.time⟩, ⟨16, 4, codeOr0 BitVec.toNat k.changeover⟩ ] ++
    (k.counts.inOrder.mapIdx fun i n => ⟨32 + 4 * i, 4, n⟩) ++
    ((List.finRange 16).map fun i => ⟨96 + 2 * i.val, 2, k.counts.fails.get i⟩) ++ [⟨248, 4, k.sequence.toNat⟩]

/-- The write of line `i` of a snapshot record to its address (R62). -/
def snapshotWrite (k : SnapshotCopy) (addr i : Nat) : OwnTxn :=
  { requester := .snapshot, addr := addr + 128 * i, data := recordWords k.fields (128 * i) 16, oldRing := false }

/-- A snapshot of camera `n` begins (R61, R62). -/
def State.startSnapshot (s : State) (c : HallConfig) (n : Fin 6) (w : Word) : State :=
  let k := c.cameras.get n
  let q := s.report.snapshotSeq + 1
  let copy := s.copyCamera n k (clearArg w) q
  let s := s.onReport fun r =>
    { r with
      slot := .inProgress
      snapshotSeq := q
      snapshot := some { copy := copy, addr := k.snapshotAddr, unanswered := 2, faulted := false, command := wordSeq w } }
  (if clearArg w then s.onCamera n fun r => { r with counts := CameraCounts.zero } else s).present
    (snapshotWrite copy k.snapshotAddr 0)

/-- SNAPSHOT taken (R61). -/
def State.snapshotTaken (s : State) (c : HallConfig) (w : Word) : State :=
  match c.cameraArg w with
  | some n => s.startSnapshot c n w
  | none => s.completeGeneral w .invalid

/-- SNAPSHOT (R61). -/
def execSnapshot (s : State) : Host.Outcome State Fault Refusal :=
  s.generalCommand .snapshot fun c w s => s.snapshotTaken c w

/-- The oldest own transaction at memory, if it is of this requester (log 22). -/
def Path.ownHead (p : Path) (r : Requester) : Option OwnTxn :=
  p.ownAtMemory.head?.filter fun o => decide (o.requester = r)

/-- The oldest own transaction at memory has been answered. -/
def State.ownAnswered (s : State) : State :=
  s.onPath fun p => { p with ownAtMemory := p.ownAtMemory.tail }

/-- The first line of a snapshot has been answered, and the second is presented (R62, R63). -/
def State.snapshotSecond (s : State) (k : Snapshot) : State :=
  (s.onReport fun r => { r with snapshot := some { k with unanswered := 1 } }).present (snapshotWrite k.copy k.addr 1)

/-- The second line has been answered: the snapshot is complete, with SNAPSHOT_FAULT after a FAULT (R62, R63, R164). -/
def State.snapshotDone (s : State) (k : Snapshot) : State :=
  let s := s.onReport fun r => { r with snapshot := none, slot := .complete, reply := some (k.command, .normal) }
  let s := s.giveCommandCompletion GeneralCommand.snapshot.code k.command .normal
  if k.faulted then
    s.give { s.note .snapshotFault with subject := k.copy.unit, detail := k.copy.sequence }
  else s

/-- The answer to a snapshot line (R62, R63). -/
def State.snapshotAnswered (s : State) (k : Snapshot) (ok : Bool) : State :=
  let k := { k with faulted := k.faulted || !ok }
  if k.unanswered = 2 then s.snapshotSecond k else s.snapshotDone k

/-- SNAPSHOT_WRITE_ANSWERED (R62). -/
def execSnapshotWriteAnswered (ok : Bool) (s : State) : Host.Outcome State Fault Refusal :=
  match s.path.ownHead .snapshot, s.report.snapshot with
  | some _, some k => .next (s.ownAnswered.snapshotAnswered k ok).settle
  | _, _ => .next s

/-! ## OTHER_COMMAND_CODE -/

/-- A code that is no general command (R164). -/
def execOtherGeneralCode (s : State) : Host.Outcome State Fault Refusal :=
  s.taking processorTag selGeneralOther fun w s => s.generalReceives w fun _ s => s.completeGeneral w .invalid

/-- OTHER_COMMAND_CODE (R109, R164). -/
def execOtherCommandCode (slot : Fin 9) (s : State) : Host.Outcome State Fault Refusal :=
  if h : slot.val < 8 then execOtherZoneCode ⟨slot.val, h⟩ s else execOtherGeneralCode s

/-! ## The notice ring -/

/-- The consumer word `v` is taken, or ignored and counted when it lies outside consumer … producer (R168). -/
def Report.consume (r : Report) (v : BitVec 32) : Report :=
  if (r.producer - v).toNat ≤ (r.producer - r.consumer).toNat then { r with consumer := v }
  else { r with consumerErrors := satAdd 16 r.consumerErrors 1 }

/-- CONSUMER_WRITE (R168). -/
def execConsumerWrite (s : State) : Host.Outcome State Fault Refusal :=
  s.taking processorTag selConsumer fun v s => s.onReport fun r => r.consume v

/-- The oldest notice's write has been answered (R167). -/
def Report.written (r : Report) (ok : Bool) : Report :=
  if ok then { r with notices := r.notices.tail, producer := r.producer + 1 }
  else { r with notices := r.notices.tail, dropped := satAdd 16 r.dropped 1 }

/-- The answer to notice write `o`: one into the old ring leaves the notice at the head (R167, R169). -/
def State.noticeAnswered (s : State) (o : OwnTxn) (ok : Bool) : State :=
  if o.oldRing then s.ownAnswered else s.ownAnswered.onReport fun r => r.written ok

/-- NOTICE_WRITE_ANSWERED (R167). -/
def execNoticeWriteAnswered (ok : Bool) (s : State) : Host.Outcome State Fault Refusal :=
  match s.path.ownHead .notice with
  | some o => .next (s.noticeAnswered o ok).settle
  | none => .next s

end Sys2Proof.Machine
end

