-- ==== Sys2Proof/Machine/Grading.lean ====
section
/-! DEFINITION. The grading unit (chapter 3): checks, templates, the variant chain, and the intake of verdict records with
their placement, grading, recording and counting (R44 to R55, R30, R37 to R40, R59). -/

namespace Sys2Proof.Machine

/-! ## Checks, templates, chain -/

/-- The operation's test of a measured byte `m` (R51 case 3; m is below 255 there). -/
def Check.tests (k : Check) (m : Nat) : Bool :=
  match k.op with
  | .off => true
  | .eq => decide (m = k.a)
  | .le => decide (m ≤ k.a)
  | .ge => decide (k.a ≤ m)
  | .within => decide (k.a ≤ m) && (decide (k.b = 255) || decide (m ≤ k.b))
  | .outside => decide (m < k.a) || (decide (k.b ≠ 255) && decide (k.b < m))

/-- The check is met by measurement byte `m` (R51). -/
def Check.met (k : Check) (m : Nat) : Bool :=
  if k.op = .off ∨ k.a = 255 then true
  else if m = 255 then decide (k.policy = .skip)
  else k.tests m

/-- Measurement byte `i` of the record. -/
def VerdictRec.measure (v : VerdictRec) (i : Nat) : Nat :=
  (v.measures.getD i 0).toNat

/-- The numbers of the template's unmet checks, ascending (R52, R55). -/
def Template.unmet (t : Template) (v : VerdictRec) : List (Fin 16) :=
  (List.finRange 16).filter fun i => !(t.get i).met (v.measure (t.get i).byteNo)

/-- The lowest-numbered unmet check of this severity (R52). -/
def Template.firstUnmet (t : Template) (v : VerdictRec) (sev : Severity) : Option (Fin 16) :=
  (Template.unmet t v).find? fun i => decide ((t.get i).severity = sev)

/-- The result of template number `no`, with its reported defect (R52). -/
def Template.result (t : Template) (no : Nat) (v : VerdictRec) : Graded :=
  match Template.firstUnmet t v .major, Template.firstUnmet t v .minor with
  | some i, _ => { grade := .major, cls := (t.get i).cls, check := i.val, template := some no }
  | none, some i => { grade := .minor, cls := (t.get i).cls, check := i.val, template := some no }
  | none, none => { grade := .pass, cls := .none, check := 0, template := some no }

/-- Template number `no` of a bank; the numbers of a validated configuration are 0 … 15 (R158). -/
def Bank.template (b : Bank) (no : Nat) : Template :=
  if h : no < 16 then b.get ⟨no, h⟩ else Table.replicate 16 Check.off

/-- The template numbers of a chain: t0, t0 + s, … not above tL, at most `fuel` of them (3.4). -/
def chainFrom (step last : Nat) : (fuel no : Nat) → List Nat
  | 0, _ => []
  | fuel + 1, no => if no ≤ last then no :: chainFrom step last fuel (no + step) else []

/-- The camera's chain: 1 to 16 templates (3.4). -/
def CameraCfg.chain (k : CameraCfg) : List Nat :=
  chainFrom k.chainStep k.chainLast 16 k.chainFirst

/-- The result of template `no` of bank `b`. -/
def Bank.resultOf (b : Bank) (v : VerdictRec) (no : Nat) : Graded :=
  Template.result (Bank.template b no) no v

/-- The grade of a placed verdict under bank `b` (R53, R54). -/
def Bank.gradeOf (b : Bank) (k : CameraCfg) (v : VerdictRec) : Graded :=
  if v.imageOk then
    ((k.chain.map (Bank.resultOf b v)).find? fun r => decide (r.grade ≠ .major)).getD (Bank.resultOf b v k.chainFirst)
  else { grade := .major, cls := .image, check := 0, template := none }

/-- The bank that names a bottle of this generation (R50). -/
def Grading.bankFor (g : Grading) (generation : Bool) : Bank :=
  if generation = g.generation then g.current else g.previous

/-! ## Recording a placed verdict -/

/-- The rank of a grade: MAJOR is worse than MINOR, MINOR than PASS (R39). -/
def Grade.badness : Grade → Nat
  | .pass => 0
  | .minor => 1
  | .major => 2

/-- The verdict entry after a verdict graded `r` (R38, R39). -/
def recordVerdict (old : Option VerdictEntry) (r : Graded) : VerdictEntry :=
  match old with
  | none => { kept := r, double := false }
  | some e => { kept := if e.kept.grade.badness < r.grade.badness then r else e.kept, double := true }

/-- The slot with camera `n`'s verdict recorded, and with the late-verdict count of gate `g`'s decision counted up when
that decision is formed (R38 to R40). -/
def Slot.takeVerdict (q : Slot) (n : Fin 6) (r : Graded) (g : Option (Fin 2)) : Slot :=
  let q := { q with verdicts := q.verdicts.set n (some (recordVerdict (q.verdicts.get n) r)) }
  match g with
  | some g => { q with decisions := q.decisions.modify g (Option.map fun d => { d with late := satAdd 8 d.late 1 }) }
  | none => q

/-- The bottle's decision at the camera's gate is already formed: the verdict is LATE (R40). -/
def Slot.lateAt (q : Slot) (g : Option (Fin 2)) : Bool :=
  match g with
  | some g => (q.decisions.get g).isSome
  | none => false

/-! ## Counting -/

/-- The counts with one more in the count of this reason, and in unplaced (R59). -/
def CameraCounts.addUnplaced (k : CameraCounts) (why : Unplaced) : CameraCounts :=
  let k := { k with unplaced := satAdd 32 k.unplaced 1 }
  match why with
  | .tooOld => { k with tooOld := satAdd 32 k.tooOld 1 }
  | .future => { k with future := satAdd 32 k.future 1 }
  | .stalled => { k with stalled := satAdd 32 k.stalled 1 }
  | .ambiguous => { k with ambiguous := satAdd 32 k.ambiguous 1 }
  | .outOfRange => { k with outOfRange := satAdd 32 k.outOfRange 1 }

/-- The counts with one more in the count of this grade (R59). -/
def CameraCounts.addGrade (k : CameraCounts) (g : Grade) : CameraCounts :=
  match g with
  | .pass => { k with pass := satAdd 32 k.pass 1 }
  | .minor => { k with minor := satAdd 32 k.minor 1 }
  | .major => { k with major := satAdd 32 k.major 1 }

/-- The per-check fail counts with the unmet checks of t0 counted (R55). -/
def addFails (fails : Table Nat 16) (unmet : List (Fin 16)) : Table Nat 16 :=
  fails.mapFin fun i n => if i ∈ unmet then satAdd 16 n 1 else n

/-- The counts of a placed record (R59, R55). -/
def CameraCounts.addPlaced (k : CameraCounts) (g : Grade) (late double : Bool) (unmet : List (Fin 16)) : CameraCounts :=
  let k := CameraCounts.addGrade { k with placed := satAdd 32 k.placed 1 } g
  { k with
    late := if late then satAdd 32 k.late 1 else k.late
    double := if double then satAdd 32 k.double 1 else k.double
    fails := addFails k.fails unmet }

/-- The gap of a record's sequence after the last taken one; 0 when that is absent (R46). -/
def seqGap (last : Option Seq) (seq : Seq) : Nat :=
  match last with
  | some l => (seq - l - 1).toNat
  | none => 0

/-- A camera record that takes a record of this sequence (R47 steps 1 to 3). -/
def CameraRec.takeSeq (r : CameraRec) (seq : Seq) : CameraRec :=
  { lastSeq := some seq
    counts := { r.counts with
      taken := satAdd 32 r.counts.taken 1
      missed := satAdd 32 r.counts.missed (seqGap r.lastSeq seq) } }

/-! ## The intake of a record -/

/-- The statistics of camera `n` changed by `f`. -/
def State.onCounts (s : State) (n : Fin 6) (f : CameraCounts → CameraCounts) : State :=
  s.onCamera n fun r => { r with counts := f r.counts }

/-- An unplaced record: counted under its reason, with a notice from a verbose camera (R37, R59). -/
def State.countUnplaced (s : State) (n : Fin 6) (k : CameraCfg) (why : Unplaced) (bottle : Option Bottle)
    (detail : BitVec 32) : State :=
  let s := s.onCounts n fun r => r.addUnplaced why
  if k.verbose then
    s.give { s.note .verdictUnplaced with subject := k.unit, code := why.code, bottle := bottle, detail := detail }
  else s

/-- A record placed on the bottle of slot `q`: graded under the bank the slot names, recorded and counted (R38 to R40, R47
step 6). -/
def State.recordPlaced (s : State) (c : HallConfig) (n : Fin 6) (k : CameraCfg) (v : VerdictRec) (q : Slot) : State :=
  let bank := s.grading.bankFor q.generation
  let r := Bank.gradeOf bank k v
  let gate := c.cameraGate n
  let late := q.lateAt gate
  let unmet := if v.imageOk then Template.unmet (Bank.template bank k.chainFirst) v else []
  let s := (s.onSlot q.bottle fun q => q.takeVerdict n r gate).onCounts n fun x =>
    x.addPlaced r.grade late (q.verdicts.get n).isSome unmet
  if late then
    s.give { s.note .verdictLate with
      subject := k.unit, code := (gate.map Fin.val).getD 0, bottle := some q.bottle, detail := detailNat r.grade.code }
  else s

/-- The gap of the sequence is reported (R46). -/
def State.giveGap (s : State) (k : CameraCfg) (gap : Nat) : State :=
  if gap = 0 then s else s.give { s.note .verdictGap with subject := k.unit, detail := detailNat gap }

/-- The outcome of placement carried out (R47 steps 5 and 6). -/
def State.placed (s : State) (c : HallConfig) (n : Fin 6) (k : CameraCfg) (v : VerdictRec) : State :=
  match s.place c k v.capture with
  | .unplaced why bottle detail => s.countUnplaced n k why bottle detail
  | .on b =>
    match s.slotOf b with
    | some q => s.recordPlaced c n k v q
    | none => s

/-- A VERDICT slot of camera `n` handed to the grading unit (R44 to R47). -/
def State.verdictTaken (s : State) (n : Fin 6) (v : VerdictRec) : State :=
  match s.config with
  | none => s
  | some c =>
    let r := s.grading.cameras.get n
    let k := c.cameras.get n
    if seqPasses r.lastSeq v.seq then
      ((s.onCamera n fun r => r.takeSeq v.seq).giveGap k (seqGap r.lastSeq v.seq)).placed c n k v
    else s.onCounts n fun x => { x with stale := satAdd 32 x.stale 1 }

/-- VERDICT_RECORD (R47). -/
def execVerdictRecord (tag : Fin 32) (s : State) : Host.Outcome State Fault Refusal :=
  s.taking tag selVerdict fun r s => s.verdictTaken r.1 r.2

end Sys2Proof.Machine
end

