-- ==== Sys2Proof/Machine/Image.lean ====
section
/-! DEFINITION. The configuration image (chapter 9, layout in 11.6): the lines a load reads, the fields of each section, the
checks of R158, and the comparison of a PARAMETER load (R161, R173). Fields of an entry stand one after another (log 45). -/

namespace Sys2Proof.Machine

/-! ## Lines -/

/-- The lines a load reads, in the order it reads them (R157). -/
def LoadKind.lines : LoadKind → List Nat
  | .full => List.range 128
  | .parameter => List.range 128
  | .changeover => 0 :: (List.range 16).map (· + 17)

/-- A staged image: the bytes of its lines, by line number. -/
abbrev Image := List (List Byte)

/-- The staged copy by line number: a CHANGEOVER load has read lines 0 and 17 to 32 only. -/
def imageOf (k : LoadKind) (staged : List (List Word)) : Image :=
  let lines := staged.map fun ws => ws.flatMap wordBytes
  match k with
  | .full => lines
  | .parameter => lines
  | .changeover => lines.take 1 ++ List.replicate 16 [] ++ lines.drop 1

/-- The section that holds line `n`; 255 for a line of no section (R157, 11.6). -/
def partOfLine (n : Nat) : Nat :=
  if n = 0 then 0 else if n ≤ 4 then 1 else if n ≤ 10 then 2 else if n = 11 then 3 else if n = 12 then 4
  else if n = 13 then 5 else if n = 14 then 6 else if n ≤ 16 then 7 else if n ≤ 32 then 8 else if n = 33 then 9
  else if n = 34 then 10 else 255

/-- Entry `i` of the section that begins on line `first` with entries of `size` bytes. -/
def Image.entry (m : Image) (first size i : Nat) : List Byte :=
  ((m.getD (first + size * i / 128) []).drop (size * i % 128)).take size

/-- Window entry `i`. -/
def Image.window (m : Image) (i : Fin 32) : List Byte := Image.entry m 1 16 i.val

/-- Unit entry `u`. -/
def Image.unit (m : Image) (u : Fin 24) : List Byte := Image.entry m 5 32 u.val

/-- Zone entry `z`. -/
def Image.zone (m : Image) (z : Fin 8) : List Byte := Image.entry m 11 8 z.val

/-- The entry of port `p`. -/
def Image.port (m : Image) (p : Fin 16) : List Byte := Image.entry m 12 8 p.val

/-- Gate entry `g`. -/
def Image.gate (m : Image) (g : Fin 2) : List Byte := Image.entry m 13 16 g.val

/-- The fill order section. -/
def Image.fill (m : Image) : List Byte := m.getD 14 []

/-- Camera entry `n`. -/
def Image.camera (m : Image) (n : Fin 6) : List Byte := Image.entry m 15 32 n.val

/-- Check `k` of template `t`. -/
def Image.check (m : Image) (t k : Fin 16) : List Byte := Image.entry m 17 8 (16 * t.val + k.val)

/-- The timers and thresholds section. -/
def Image.timers (m : Image) : List Byte := m.getD 33 []

/-- The notice ring section. -/
def Image.ring (m : Image) : List Byte := m.getD 34 []

/-! ## Reading the entries (11.6, R173) -/

/-- A window entry. -/
def readWindow (b : List Byte) : Window :=
  { kind := (WindowKind.ofCode (fieldAt b 0 1)).getD .unused, unit := fieldAt b 1 1
    writers := BitVec.ofNat 16 (fieldAt b 2 2), readers := BitVec.ofNat 16 (fieldAt b 4 2), base := fieldAt b 6 4
    size := fieldAt b 10 4 }

/-- A field of a unit entry that is read for a FILLER unit only (11.6). -/
def fillerField (b : List Byte) (off size : Nat) : Nat :=
  if UnitKind.ofCode (fieldAt b 0 1) = some .filler then fieldAt b off size else 0

/-- A unit entry: the robot parameters are read for a FILLER unit only, and the zone not for a CLOCK unit (11.6). -/
def readUnit (b : List Byte) : UnitCfg :=
  { kind := (UnitKind.ofCode (fieldAt b 0 1)).getD .absent, port := fieldAt b 1 1
    zone := if UnitKind.ofCode (fieldAt b 0 1) = some .clock then 0 else fieldAt b 2 1
    alwaysConfirm := (fillerField b 3 1).testBit 0, safeCount := fillerField b 4 1, statusTimeout := fillerField b 5 2
    staleLimit := fillerField b 7 2, vmin := fillerField b 9 2, vmax := fillerField b 11 2, slew := fillerField b 13 2 }

/-- A zone entry. -/
def readZone (b : List Byte) : ZoneCfg :=
  { hasSpan := flagAt b 0 0, breakpoint := flagAt b 1 0, first := fieldAt b 2 2, last := fieldAt b 4 2 }

/-- A port entry; mode 1 is OBSERVE (11.1). -/
def readPort (b : List Byte) : PortCfg :=
  { observe := decide (fieldAt b 0 1 = 1), limit := fieldAt b 1 1, budget := fieldAt b 2 2, silence := fieldAt b 4 2 }

/-- A gate entry. -/
def readGate (b : List Byte) : GateCfg :=
  { present := flagAt b 0 0, unit := fieldAt b 1 1, advance := fieldAt b 2 1, distance := fieldAt b 3 2
    statusTimeout := fieldAt b 5 2, cameraSet := b.getD 7 0 }

/-- A camera entry. -/
def readCamera (b : List Byte) : CameraCfg :=
  { present := flagAt b 0 0, unit := fieldAt b 1 1, distance := fieldAt b 2 2, halfWindow := fieldAt b 4 1
    verbose := flagAt b 5 0, chainFirst := fieldAt b 6 1, chainStep := fieldAt b 7 1, chainLast := fieldAt b 8 1
    snapshotAddr := fieldAt b 9 4 }

/-- A check of the template set. -/
def readCheck (b : List Byte) : Check :=
  { byteNo := fieldAt b 0 1, op := (CheckOp.ofCode (fieldAt b 1 1)).getD .off, a := fieldAt b 2 1, b := fieldAt b 3 1
    cls := (DefectClass.ofCode (fieldAt b 4 1)).getD .fill
    severity := (Severity.ofCode (fieldAt b 5 1)).getD .minor, policy := (Policy.ofCode (fieldAt b 6 1)).getD .fail }

/-- The timers and thresholds. -/
def readTimers (b : List Byte) : Timers :=
  { minPitch := fieldAt b 0 2, stopTime := fieldAt b 2 2, nominalPeriod := fieldAt b 4 8, pathDelay := fieldAt b 12 4
    suspectThreshold := fieldAt b 16 1, maintenance := Table.ofFn fun u => fieldAt b (17 + 2 * u.val) 2 }

/-- The configuration an image holds, but for its template set. -/
def Image.config (m : Image) : HallConfig :=
  { windows := Table.ofFn fun i => readWindow (Image.window m i)
    units := Table.ofFn fun u => readUnit (Image.unit m u)
    zones := Table.ofFn fun z => readZone (Image.zone m z)
    ports := Table.ofFn fun p => readPort (Image.port m p)
    gates := Table.ofFn fun g => readGate (Image.gate m g)
    fillCount := fieldAt (Image.fill m) 0 1
    fillUnits := Table.ofFn fun i => fieldAt (Image.fill m) (1 + i.val) 1
    cameras := Table.ofFn fun n => readCamera (Image.camera m n)
    timers := readTimers (Image.timers m)
    ringSize := fieldAt (Image.ring m) 0 2 }

/-- The template set an image holds. -/
def Image.bank (m : Image) : Bank :=
  Table.ofFn fun t => Table.ofFn fun k => readCheck (Image.check m t k)

/-! ## Refusals -/

/-- What a refusal records (R158, R163). -/
structure Refused where
  /-- The code. -/
  code : LoadCode
  /-- The section. -/
  part : Nat
  /-- The entry. -/
  entry : Nat
deriving DecidableEq, Repr

/-- A failed check of a section: its entry and its code. -/
abbrev Failure := Nat × LoadCode

/-- The failure at this entry with this code, if `bad`. -/
def fails (bad : Bool) (entry : Nat) (code : LoadCode) : List Failure :=
  if bad then [(entry, code)] else []

/-- The failure with the lowest entry; among those of one entry the first listed. -/
def firstFailure : List Failure → Option Failure
  | [] => none
  | f :: fs =>
    match firstFailure fs with
    | some g => if g.1 < f.1 then some g else some f
    | none => some f

/-- The refusal of section `part` with these failures. -/
def refusal (part : Nat) (fs : List Failure) : Option Refused :=
  (firstFailure fs).map fun f => { code := f.2, part := part, entry := f.1 }

/-- The failures at every entry of a section: first RANGE, then CONSISTENCY, of each entry (log 16). -/
def each {n : Nat} (range consistent : Fin n → Bool) (number : Fin n → Nat) : List Failure :=
  (List.finRange n).flatMap fun i => fails (range i) (number i) .range ++ fails (consistent i) (number i) .consistency

/-- `v` lies outside `lo` … `hi`. -/
def outside (lo hi v : Nat) : Bool :=
  decide (v < lo) || decide (hi < v)

/-- `v` is a power of two from 2^`lo` to 2^`hi`. -/
def powerOfTwo (lo hi v : Nat) : Bool :=
  (List.range (hi - lo + 1)).any fun i => decide (v = 2 ^ (lo + i))

/-- The windows of this kind. -/
def HallConfig.windowsOf (c : HallConfig) (k : WindowKind) : List Window :=
  c.windows.toList.filter fun w => decide (w.kind = k)

/-- How many windows of this kind name unit `u`. -/
def HallConfig.naming (c : HallConfig) (k : WindowKind) (u : Nat) : Nat :=
  ((c.windowsOf k).filter fun w => decide (w.unit = u)).length

/-- How many units are of this kind. -/
def HallConfig.unitCount (c : HallConfig) (k : UnitKind) : Nat :=
  (c.units.toList.filter fun u => decide (u.kind = k)).length

/-- The kind of unit number `n`; ABSENT above 23. -/
def HallConfig.kindAt (c : HallConfig) (n : Nat) : UnitKind :=
  ((unitNumber n).map c.kindOf).getD .absent

/-! ## The checks of R158 -/

/-- Section 0: the load kind byte holds no load kind (R173), or the format version is not 1 (R158). Which code a line that fails
both tests shows is left open (log 51). -/
def checkHeader (m : Image) : List Failure :=
  let kind := decide (3 < fieldAt (m.getD 0 []) 0 1)
  let version := decide (fieldAt (m.getD 0 []) 8 4 ≠ 1)
  if kind && version then fails true 0 (if Config.headerShowsRange then .range else .version)
  else fails kind 0 .range ++ fails version 0 .version

/-- A window entry, of any kind, fails a RANGE check (R158); a unit byte that its kind does not carry is reached or not
(log 15). -/
def windowRange (b : List Byte) : Bool :=
  match WindowKind.ofCode (fieldAt b 0 1) with
  | none => true
  | some k =>
    !(powerOfTwo 7 26 (fieldAt b 10 4)) || decide (fieldAt b 6 4 % fieldAt b 10 4 ≠ 0) ||
      (decide (23 < fieldAt b 1 1) && (k.hasUnit || Config.checksUnused 1))

/-- The size that windows of this kind must have, where it is fixed (R158). -/
def WindowKind.fixedSize : WindowKind → Option Nat
  | .switchTable => some 128
  | .view => some 4096
  | .mailbox => some 512
  | .command => some 128
  | .unused => none
  | .plain => none
  | .status => none
  | .verdict => none
  | .timeFrame => none
  | .notice => none

/-- A window entry fails its CONSISTENCY check. -/
def windowConsistency (w : Window) : Bool :=
  match w.kind.fixedSize with
  | some n => decide (w.size ≠ n)
  | none => false

/-- MAILBOX, VIEW, NOTICE or SWITCHTABLE does not occur exactly once. -/
def HallConfig.singlesWrong (c : HallConfig) : Bool :=
  [WindowKind.mailbox, .view, .notice, .switchTable].any fun k => decide ((c.windowsOf k).length ≠ 1)

/-- Section 1. -/
def checkWindows (m : Image) (c : HallConfig) : List Failure :=
  each (fun i => windowRange (Image.window m i)) (fun i => windowConsistency (c.windows.get i)) Fin.val ++
    fails c.singlesWrong (Config.refusalEntry .singleWindows % 32) .consistency

/-- A unit entry, of any kind, fails a RANGE check (R158, 5.1): the zone is tested but for a CLOCK unit, the robot parameters
for a FILLER unit. -/
def unitRange (b : List Byte) : Bool :=
  match UnitKind.ofCode (fieldAt b 0 1) with
  | none => true
  | some k =>
    outside 1 16 (fieldAt b 1 1) || (decide (k ≠ .clock) && decide (7 < fieldAt b 2 1)) ||
      (decide (k = .filler) &&
        (outside 1 8 (fieldAt b 4 1) || outside 10 1000 (fieldAt b 5 2) || outside 20 2000 (fieldAt b 7 2) ||
          outside 1 1000 (fieldAt b 13 2)))

/-- The kinds of unit that a window of this kind may name (8.3). -/
def WindowKind.mayName : WindowKind → UnitKind → Bool
  | .command, k => decide (k = .filler) || decide (k = .gate)
  | .status, k => decide (k = .filler) || decide (k = .gate)
  | .verdict, k => decide (k = .camera)
  | .timeFrame, k => decide (k = .clock)
  | .unused, _ => true
  | .plain, _ => true
  | .switchTable, _ => true
  | .mailbox, _ => true
  | .view, _ => true
  | .notice, _ => true

/-- Some window names unit `u` though its kind may not name a unit of kind `k` (log 34). -/
def HallConfig.wronglyNamed (c : HallConfig) (u : Nat) (k : UnitKind) : Bool :=
  c.windows.toList.any fun w => w.kind.hasUnit && decide (w.unit = u) && !(w.kind.mayName k)

/-- Unit `u` has not exactly the windows its kind needs (R158). -/
def HallConfig.windowsWrong (c : HallConfig) (u : Nat) : UnitKind → Bool
  | .filler => decide (c.naming .command u ≠ 1) || decide (c.naming .status u ≠ 1)
  | .gate => decide (c.naming .command u ≠ 1) || decide (c.naming .status u ≠ 1)
  | .camera => decide (c.naming .verdict u ≠ 1)
  | .clock => decide (c.naming .timeFrame u ≠ 1)
  | .absent => false

/-- Unit `u` fails a CONSISTENCY check. -/
def HallConfig.unitConsistency (c : HallConfig) (u : Fin 24) : Bool :=
  let k := c.units.get u
  (decide (k.kind = .filler) && decide (k.vmax < k.vmin)) || c.windowsWrong u.val k.kind || c.wronglyNamed u.val k.kind

/-- Too many units of a kind. -/
def HallConfig.countsWrong (c : HallConfig) : Bool :=
  decide (8 < c.unitCount .filler) || decide (6 < c.unitCount .camera) || decide (2 < c.unitCount .gate) ||
    decide (1 < c.unitCount .clock)

/-- Section 2. -/
def checkUnits (m : Image) (c : HallConfig) : List Failure :=
  each (fun u => unitRange (Image.unit m u)) c.unitConsistency Fin.val ++
    fails c.countsWrong (Config.refusalEntry .unitCounts % 24) .consistency

/-- Section 3: the span of a zone without one is reached or not (log 15). -/
def checkZones (c : HallConfig) : List Failure :=
  let used : ZoneCfg → Bool := fun k => k.hasSpan || Config.checksUnused 3
  each (fun z => (decide (511 < (c.zones.get z).first) || decide (511 < (c.zones.get z).last)) && used (c.zones.get z))
    (fun z => decide ((c.zones.get z).last < (c.zones.get z).first) && used (c.zones.get z)) Fin.val

/-- A port entry fails a RANGE check (R158, 7.1). -/
def portRange (b : List Byte) : Bool :=
  decide (1 < fieldAt b 0 1) || outside 1 255 (fieldAt b 1 1) || outside 16 65535 (fieldAt b 2 2) ||
    outside 10 1000 (fieldAt b 4 2)

/-- Section 4; its entries are numbered from 1. -/
def checkPorts (m : Image) : List Failure :=
  each (fun p => portRange (Image.port m p)) (fun _ => false) portId

/-- A gate entry fails a RANGE check; an absent gate's fields are reached or not (log 15). -/
def gateRange (k : GateCfg) : Bool :=
  (decide (509 < k.distance) || outside 1 8 k.advance || outside 10 1000 k.statusTimeout) &&
    (k.present || Config.checksUnused 5)

/-- Gate `g` fails a CONSISTENCY check: its unit, or a condition of R65. A condition that relates gates 0 and 1 is tested at gate 1:
R158 names the later of two sections but no entry for a check that relates two entries of one (log 52, DESIGN CHOICE, unsafe). The
entry of an absent gate is not tested (log 55, DESIGN CHOICE, unsafe). -/
def HallConfig.gateConsistency (c : HallConfig) (g : Fin 2) : Bool :=
  let k := c.gates.get g
  k.present &&
    (decide (c.kindAt k.unit ≠ .gate) || decide (k.distance < k.advance + 1) ||
      (decide (g = 1) &&
        (!(c.hasGate 0) || decide (k.distance ≤ (c.gates.get 0).distance) ||
          decide (k.distance < (c.gates.get 0).distance + 3 + k.advance))))

/-- A GATE unit is not named by exactly one gate. -/
def HallConfig.gateUnitsWrong (c : HallConfig) : Bool :=
  (List.finRange 24).any fun u =>
    decide (c.kindOf u = .gate) &&
      decide (((List.finRange 2).filter fun g => decide (c.gateUnit g = some u)).length ≠ 1)

/-- Section 5. -/
def checkGates (c : HallConfig) : List Failure :=
  each (fun g => gateRange (c.gates.get g)) c.gateConsistency Fin.val ++
    fails c.gateUnitsWrong (Config.refusalEntry .gateUnits % 2) .consistency

/-- Position `i` of the fill order is used. -/
def HallConfig.fillUsed (c : HallConfig) (i : Fin 8) : Bool :=
  decide (i.val < c.fillCount)

/-- The unit at position `i` of the fill order stands at an earlier position (log 34). -/
def HallConfig.fillRepeats (c : HallConfig) (i : Fin 8) : Bool :=
  (List.finRange 8).any fun j => decide (j < i) && c.fillUsed j && decide (c.fillUnits.get j = c.fillUnits.get i)

/-- Section 6: the range check reaches a position not used or not (log 15), the CONSISTENCY checks do not (log 55, DESIGN CHOICE,
unsafe). -/
def checkFill (c : HallConfig) : List Failure :=
  fails (decide (8 < c.fillCount)) (Config.refusalEntry .fillCount % 8) .range ++
    each (fun i => decide (23 < c.fillUnits.get i) && (c.fillUsed i || Config.checksUnused 6))
      (fun i => c.fillUsed i && (decide (c.kindAt (c.fillUnits.get i) ≠ .filler) || c.fillRepeats i)) Fin.val

/-- A camera entry fails a RANGE check; an absent camera's fields are reached or not (log 15). -/
def cameraRange (k : CameraCfg) : Bool :=
  (decide (23 < k.unit) || decide (8144 < k.distance) || outside 1 7 k.halfWindow || decide (15 < k.chainFirst) ||
      decide (15 < k.chainLast) || outside 1 3 k.chainStep) &&
    (k.present || Config.checksUnused 7)

/-- The gates to which camera number `n` is assigned. -/
def HallConfig.gatesOf (c : HallConfig) (n : Fin 6) : List (Fin 2) :=
  (List.finRange 2).filter fun g => c.hasGate g && c.assigned g n

/-- The camera lies beyond the bound of R65 for gate `g`: d_c rounded up to whole pitches is above D_g − A_g − 1. -/
def HallConfig.beyond (c : HallConfig) (k : CameraCfg) (g : Fin 2) : Bool :=
  decide ((c.gates.get g).distance < (k.distance + 15) / 16 + (c.gates.get g).advance + 1)

/-- Camera number `n` fails a CONSISTENCY check; the entry of an absent camera is not tested (log 55, DESIGN CHOICE, unsafe). -/
def HallConfig.cameraConsistency (c : HallConfig) (n : Fin 6) : Bool :=
  let k := c.cameras.get n
  k.present &&
    (decide (c.kindAt k.unit ≠ .camera) || decide (k.chainLast < k.chainFirst) || decide (k.snapshotAddr % 256 ≠ 0) ||
      decide ((c.gatesOf n).length ≠ 1) || (c.gatesOf n).any (c.beyond k))

/-- A CAMERA unit has no number. -/
def HallConfig.cameraUnitsWrong (c : HallConfig) : Bool :=
  (List.finRange 24).any fun u => decide (c.kindOf u = .camera) && (c.cameraOfUnit u).isNone

/-- Section 7. -/
def checkCameras (c : HallConfig) : List Failure :=
  each (fun n => cameraRange (c.cameras.get n)) c.cameraConsistency Fin.val ++
    fails c.cameraUnitsWrong (Config.refusalEntry .cameraUnits % 6) .consistency

/-- A check of the template set fails a RANGE check. -/
def templateRange (b : List Byte) : Bool :=
  decide (15 < fieldAt b 0 1) || (CheckOp.ofCode (fieldAt b 1 1)).isNone || (DefectClass.ofCode (fieldAt b 4 1)).isNone ||
    (Severity.ofCode (fieldAt b 5 1)).isNone || (Policy.ofCode (fieldAt b 6 1)).isNone

/-- An IN or OUT check has b below a, where neither is 255. -/
def templateConsistency (k : Check) : Bool :=
  (decide (k.op = .within) || decide (k.op = .outside)) && decide (k.b < k.a) && decide (k.a ≠ 255) && decide (k.b ≠ 255)

/-- Section 8, checks t × 16 + c. -/
def checkTemplates (m : Image) : List Failure :=
  (List.finRange 16).flatMap fun t =>
    each (fun k => templateRange (Image.check m t k)) (fun k => templateConsistency (readCheck (Image.check m t k)))
      fun k => 16 * t.val + k.val

/-- The line-wide items of section 9 fail a RANGE check. -/
def timersRange (t : Timers) : Bool :=
  outside 5 1000 t.minPitch || outside 200 10000 t.stopTime || outside 20000000 10000000000 t.nominalPeriod ||
    decide (1000000 < t.pathDelay) || decide (32 < t.suspectThreshold)

/-- Section 9. -/
def checkTimers (t : Timers) : List Failure :=
  fails (timersRange t) 0 .range ++ fails (decide (t.stopTime ≤ t.minPitch)) 0 .consistency

/-- Section 10. -/
def checkRing (c : HallConfig) : List Failure :=
  fails (!(powerOfTwo 4 12 c.ringSize)) 0 .range ++
    fails ((c.windowsOf .notice).any fun w => decide (w.size ≠ c.ringSize * 32)) 0 .consistency

/-- The first of some refusals. -/
def firstRefusal (rs : List (Option Refused)) : Option Refused :=
  rs.findSome? id

/-- The validation of a FULL or PARAMETER image: the first check that fails (R158). -/
def Image.validateWhole (m : Image) : Option Refused :=
  let c := Image.config m
  firstRefusal
    [ refusal 0 (checkHeader m), refusal 1 (checkWindows m c), refusal 2 (checkUnits m c), refusal 3 (checkZones c),
      refusal 4 (checkPorts m), refusal 5 (checkGates c), refusal 6 (checkFill c), refusal 7 (checkCameras c),
      refusal 8 (checkTemplates m), refusal 9 (checkTimers c.timers), refusal 10 (checkRing c) ]

/-- The validation of a CHANGEOVER image: sections 0 and 8 only (R158). -/
def Image.validateTemplates (m : Image) : Option Refused :=
  firstRefusal [refusal 0 (checkHeader m), refusal 8 (checkTemplates m)]

/-! ## The comparison of a PARAMETER load (R161, R173) -/

/-- The entries of a section that differ. -/
def differing {n : Nat} (differs : Fin n → Bool) : List Failure :=
  (List.finRange n).flatMap fun i => fails (differs i) i.val .mismatch

/-- A unit entry without the items that R161 replaces. -/
def UnitCfg.fixed (k : UnitCfg) : UnitCfg :=
  { k with safeCount := 0, statusTimeout := 0, staleLimit := 0, vmin := 0, vmax := 0, slew := 0 }

/-- A gate entry without the status timeout. -/
def GateCfg.fixed (k : GateCfg) : GateCfg :=
  { k with statusTimeout := 0 }

/-- A camera entry without w_c and the verbose flag. -/
def CameraCfg.fixed (k : CameraCfg) : CameraCfg :=
  { k with halfWindow := 0, verbose := false }

/-- The first section and entry in which an item that R161 does not replace differs from the configuration in force `c` and
the CURRENT bank `b`. -/
def mismatch (c new : HallConfig) (b image : Bank) : Option Refused :=
  firstRefusal
    [ refusal 1 (differing fun i => decide (new.windows.get i ≠ c.windows.get i)),
      refusal 2 (differing fun u => decide ((new.units.get u).fixed ≠ (c.units.get u).fixed)),
      refusal 3 (differing fun z => decide (new.zones.get z ≠ c.zones.get z)),
      refusal 5 (differing fun g => decide ((new.gates.get g).fixed ≠ (c.gates.get g).fixed)),
      refusal 6
        (fails (decide (new.fillCount ≠ c.fillCount)) (Config.refusalEntry .fillCountDiffers % 8) .mismatch ++
          differing fun i => decide (new.fillUnits.get i ≠ c.fillUnits.get i)),
      refusal 7 (differing fun n => decide ((new.cameras.get n).fixed ≠ (c.cameras.get n).fixed)),
      refusal 8
        ((List.finRange 16).flatMap fun t => (List.finRange 16).flatMap fun k =>
          fails (decide ((image.get t).get k ≠ (b.get t).get k)) (16 * t.val + k.val) .mismatch),
      refusal 10 (fails (decide (new.ringSize ≠ c.ringSize)) 0 .mismatch) ]

end Sys2Proof.Machine
end

