-- ==== Sys2Proof/Machine/Time.lean ====
section
/-! DEFINITION. The time unit's commands (chapter 1): RESET_N, REFERENCE_PERIOD, SLEW_MOVE, TIME_FRAME, HOLDOVER_EXPIRY,
STOP_TIMER_EXPIRY, ACCOUNT_SECOND. PITCH_EDGE stands in Pitch.lean. -/

namespace Sys2Proof.Machine

/-! ## Reset and the reference clock -/

/-- A guard input through RESET_N: the pin keeps its level, the filter starts at OPEN (R106, log 8). -/
def Guard.reset (g : Guard) : Guard :=
  { raw := g.raw, since := 0, level := true }

/-- Everything at its reset value but the pins, the straps' new sample, the command queue and the number that tells free
values apart (R153, log 8). -/
def State.resetWith (s : State) (straps : BitVec 4) : State :=
  { State.reset with
    pending := s.pending
    freeIndex := s.freeIndex
    cfgBase := straps
    observeAll := s.observeAll
    guards := s.guards.mapFin fun _ g => g.reset }

/-- RESET_N (R153, and each chapter's values after RESET_N). -/
def execResetN (straps : BitVec 4) (s : State) : Host.Outcome State Fault Refusal :=
  .next (s.resetWith straps)

/-- What one reference period adds to hall time and its fraction, in 10^-9 ns: 8 × (1 + f / 10^9) ns (R1). -/
def periodAdvance (trim : Int) : Nat :=
  (8 * (1000000000 + trim)).toNat

/-- 8 ns of productive time: at the largest count of seconds the remainder stays below one second (R15, log 21). -/
def Account.accumulate (a : Account) : Account :=
  if a.seconds = 2 ^ 32 - 1 ∧ 1000000000 ≤ a.remainder + 8 then a else { a with remainder := a.remainder + 8 }

/-- REFERENCE_PERIOD: 8 ns of local time (R1, R2, R15). -/
def execReferencePeriod (s : State) : Host.Outcome State Fault Refusal :=
  .next (s.onTime fun t =>
    { t with
      localTime := t.localTime + 8
      hall := hallOf ((t.hall + (t.fraction + periodAdvance t.trim) / 1000000000 : Nat) : Int)
      fraction := (t.fraction + periodAdvance t.trim) % 1000000000
      slewProgress := if t.correction = 0 then t.slewProgress else t.slewProgress + 8
      accounts := t.accounts.mapFin fun u a => if s.productive u then a.accumulate else a })

/-- The move is due: p is not 0 and 20,000 ns have passed toward it (R2). -/
def State.slewDue (s : State) : Bool :=
  decide (s.time.correction ≠ 0) && decide (20000 ≤ s.time.slewProgress)

/-- One nanosecond moves from p into hall time in the sign of p (R2). -/
def TimeUnit.slew (t : TimeUnit) : TimeUnit :=
  { t with
    hall := hallOf (t.hall + t.correction.sign)
    correction := t.correction - t.correction.sign
    slewProgress := 0 }

/-- SLEW_MOVE (R2). -/
def execSlewMove (s : State) : Host.Outcome State Fault Refusal :=
  if s.slewDue then .next (s.onTime TimeUnit.slew) else .next s

/-! ## Time frames -/

/-- Master time carried forward by the path delay: M + path delay (R4). -/
def TimeFrame.masterTime (f : TimeFrame) (c : HallConfig) : Nat :=
  f.seconds * 1000000000 + f.nanos + c.timers.pathDelay

/-- The frame passes the three tests of R3. -/
def TimeFrame.passes (f : TimeFrame) (c : HallConfig) (last : Option Seq) : Bool :=
  f.valid && seqPasses last f.seq && decide (f.nanos ≤ 999999999) && decide (f.masterTime c < 2 ^ 64)

/-- How the time unit acts on an offset (R5, R6, R8). -/
inductive ClockAction where
  /-- Hall time is stepped by the offset. -/
  | step
  /-- The offset becomes the pending correction. -/
  | slew
  /-- Likewise, with CLOCK_BACKSLEW. -/
  | backslew
deriving DecidableEq, Repr

/-- The action on offset `o`: `first` is the first frame since NONE, `running` the line state (R5, R6, R8). -/
def clockAction (first running : Bool) (o : Int) : ClockAction :=
  if first then if o < 0 ∧ running = true then .backslew else .step
  else if -1000000 < o ∧ o < 1000000 then .slew
  else if 0 < o then .step
  else if running then .backslew
  else .step

/-- The trim after a frame taken in LOCKED, with the offset and the interval since the previous arrival (R7). -/
def trimAfter (trim o interval : Int) : Int :=
  if interval < 1000000 then trim
  else clampInt (-200000) 200000 (trim + (o * 250000000).tdiv interval)

/-- The time unit after it acts on offset `o` (R5 to R9). A negative step empties the pitch log. -/
def TimeUnit.takeFrame (t : TimeUnit) (seq : Seq) (o : Int) : TimeUnit :=
  let act := clockAction (decide (t.clock = .none)) t.running o
  let stepped := hallOf (t.hall + o)
  { t with
    lastSeq := some seq
    holdoverStart := some t.localTime
    hall := if act = .step then stepped else t.hall
    correction := if act = .step then 0 else o
    slewProgress := 0
    previousArrival := if act = .step then stepped else t.hall
    pitchLog := if act = .step ∧ o < 0 then [] else t.pitchLog
    trim := if t.clock = .locked then trimAfter t.trim o (t.hall - t.previousArrival) else t.trim
    clock := .locked }

/-- A step in microseconds, truncated toward zero, as the detail word of CLOCK_STEP (R5). -/
def microDetail (o : Int) : BitVec 32 :=
  detailInt (o.tdiv 1000)

/-- An offset in microseconds as the detail word of CLOCK_BACKSLEW: R6 does not say how it is rounded, so a free value decides
between truncation toward zero, which R5 states for CLOCK_STEP alone, and the floor that 0.5 takes elsewhere (log 46). -/
def backslewDetail (o : Int) : BitVec 32 :=
  if Config.backslewFloors then detailInt (o / 1000) else microDetail o

/-- The notices of a taken frame of unit `u`: the step or backslew, then the change to LOCKED (R5, R6, R9), each with
stamp `stamp`. CLOCK_BACKSLEW has subject 0: R6 names its detail word alone (R166). -/
def State.giveFrameNotices (s : State) (u : Fin 24) (before : TimeUnit) (o : Int) (stamp : Nat) : State :=
  let s :=
    match clockAction (decide (before.clock = .none)) before.running o with
    | .step => s.give { s.note .clockStep with subject := u.val, detail := microDetail o, stamp := stamp }
    | .backslew => s.give { s.note .clockBackslew with detail := backslewDetail o, stamp := stamp }
    | .slew => s
  if before.clock = .locked then s else s.give { s.note .clockLocked with subject := u.val, stamp := stamp }

/-- A TIMEFRAME slot of unit `u` handed to the time unit (R3 to R9). A negative step empties the tracking queue (R6, R23). -/
def State.timeFrameTaken (s : State) (u : Fin 24) (f : TimeFrame) : State :=
  match s.config with
  | none => s
  | some c =>
    if f.passes c s.time.lastSeq then
      let o : Int := f.masterTime c - s.time.hall
      let t := s.time.takeFrame f.seq o
      let emptied := clockAction (decide (s.time.clock = .none)) s.time.running o = .step ∧ o < 0
      ({ s with time := t, queue := if emptied then [] else s.queue }).giveFrameNotices u s.time o
        (if Config.stepStampsNew then t.hall else s.time.hall)
    else s.onTime fun t => { t with rejected := satAdd 16 t.rejected 1 }

/-- TIME_FRAME (R3). -/
def execTimeFrame (tag : Fin 32) (s : State) : Host.Outcome State Fault Refusal :=
  s.taking tag selTimeFrame fun r s => s.timeFrameTaken r.1 r.2

/-- The number of the clock unit in force (R9). -/
def State.clockSubject (s : State) : Nat :=
  match s.config.bind HallConfig.clockUnit with
  | some u => u.val
  | none => 0

/-- The holdover timer has run 8 s in LOCKED (R9). -/
def State.holdoverDue (s : State) : Bool :=
  decide (s.time.clock = .locked) && timerDue s.time.holdoverStart (ms 8000) s.time.localTime

/-- HOLDOVER_EXPIRY (R9). -/
def execHoldoverExpiry (s : State) : Host.Outcome State Fault Refusal :=
  if s.holdoverDue then
    .next ((s.onTime fun t => { t with clock := .holdover, lastSeq := none, holdoverStart := none }).give
      { s.note .clockHoldover with subject := s.clockSubject }).settle
  else .next s

/-! ## The line and the accounts -/

/-- The stop timer has reached the stop time (R14). -/
def State.stopDue (s : State) : Bool :=
  match s.config with
  | some c => s.time.running && timerDue s.time.stopStart (ms c.timers.stopTime) s.time.localTime
  | none => false

/-- STOP_TIMER_EXPIRY (R14). -/
def execStopTimerExpiry (s : State) : Host.Outcome State Fault Refusal :=
  if s.stopDue then .next s.stopLine.settle else .next s

/-- The account of unit `u` has a whole second to add, and a count of seconds that can take it (R15). -/
def State.secondDue (s : State) (u : Fin 24) : Bool :=
  decide (1000000000 ≤ (s.time.accounts.get u).remainder) && decide ((s.time.accounts.get u).seconds < 2 ^ 32 - 1)

/-- One second passes from the remainder into seconds (R15). -/
def Account.addSecond (a : Account) : Account :=
  { a with seconds := a.seconds + 1, remainder := a.remainder - 1000000000 }

/-- The account has reached its maintenance threshold (R16). -/
def Account.reaches (a : Account) (threshold : Nat) : Bool :=
  decide (threshold ≠ 0) && !a.due && decide (a.seconds = threshold * 3600)

/-- ACCOUNT_SECOND (R15, R16). -/
def execAccountSecond (u : Fin 24) (s : State) : Host.Outcome State Fault Refusal :=
  if s.secondDue u then
    let s := s.onAccount u Account.addSecond
    .next (if (s.time.accounts.get u).reaches (thresholdOf s.config u) then s.setDue u else s).settle
  else .next s

end Sys2Proof.Machine
end

