-- ==== Sys2Proof/Machine/Loader.lean ====
section
/-! DEFINITION. The configuration loader's commands (chapter 9): FULL_LOAD, PARAMETER_LOAD, CHANGEOVER_LOAD,
OTHER_LOAD_KIND, CONFIG_READ_ANSWERED, with the application of each kind of load to every block (R160 to R162). -/

namespace Sys2Proof.Machine

/-! ## Outcomes -/

/-- An outcome is recorded and reported (R163). -/
def State.recordOutcome (s : State) (o : LoadOutcome) : State :=
  (s.onLoader fun l => { l with outcome := o }).give
    { s.note .loadOutcome with
      code := o.code.code, detail := BitVec.ofNat 32 (o.kind + 2 ^ 8 * o.part + 2 ^ 16 * o.entry) }

/-- The load in flight ends: the load state is IDLE and the staged copy empty (R157, R158, R159). -/
def State.endLoad (s : State) : State :=
  s.onLoader fun l => { l with kind := none, staged := [] }

/-- The load of kind `k` in flight is refused (R157 to R159). -/
def State.refuseLoad (s : State) (k : LoadKind) (r : Refused) : State :=
  s.endLoad.recordOutcome { code := r.code, kind := k.code, part := r.part, entry := r.entry }

/-- The load of kind `k` in flight has been applied (R159, R163). -/
def State.loadApplied (s : State) (k : LoadKind) : State :=
  s.endLoad.recordOutcome { code := .applied, kind := k.code, part := 0, entry := 0 }

/-! ## Requests -/

/-- The loader's read of image line `n` (R155, R157). -/
def State.lineRead (s : State) (n : Nat) : OwnTxn :=
  { requester := .config, addr := s.cfgBase.toNat * 2 ^ 24 + 128 * n, data := [], oldRing := false }

/-- The refusal of a request of load kind `k` at the instant its word is handed over, if there is one (R156). -/
def State.requestRefusal (s : State) (k : Nat) : Option LoadCode :=
  if s.loader.kind.isSome then some .busy
  else
    match LoadKind.ofCode k with
    | none => some .range
    | some .full => if s.config.isSome && (s.time.running || s.anyReleased) then some .lineActive else none
    | some .parameter => if s.config.isNone then some .mismatch else none
    | some .changeover => if s.config.isNone then some .mismatch else none

/-- A load of kind `k` is accepted: READING, and the read of its first line is presented (R156, R157). -/
def State.acceptLoad (s : State) (k : LoadKind) : State :=
  (s.onLoader fun l => { l with kind := some k, staged := [] }).present (s.lineRead 0)

/-- A load request with kind byte `n`, counted and judged (R156). -/
def State.requestLoad (s : State) (n : Nat) : State :=
  let s := s.onLoader fun l => { l with requests := l.requests + 1 }
  match s.requestRefusal n, LoadKind.ofCode n with
  | some code, _ => s.recordOutcome { code := code, kind := n, part := 0, entry := 0 }
  | none, some k => s.acceptLoad k
  | none, none => s

/-- FULL_LOAD (R156). -/
def execFullLoad (s : State) : Host.Outcome State Fault Refusal :=
  s.taking processorTag (selLoad .full) fun _ s => s.requestLoad LoadKind.full.code

/-- PARAMETER_LOAD (R156). -/
def execParameterLoad (s : State) : Host.Outcome State Fault Refusal :=
  s.taking processorTag (selLoad .parameter) fun _ s => s.requestLoad LoadKind.parameter.code

/-- CHANGEOVER_LOAD (R156). -/
def execChangeoverLoad (s : State) : Host.Outcome State Fault Refusal :=
  s.taking processorTag (selLoad .changeover) fun _ s => s.requestLoad LoadKind.changeover.code

/-- OTHER_LOAD_KIND (R156). -/
def execOtherLoadKind (s : State) : Host.Outcome State Fault Refusal :=
  s.taking processorTag selLoadOther fun w s => s.requestLoad (loadKindByte w)

/-! ## The application of a FULL load (R160) -/

/-- A gate record as the application of a FULL load leaves it (4.1). -/
def GateRec.loaded : GateRec :=
  { accepted := .offline, lastSeq := none, lastReport := none, faultCode := 0, statusStart := none, passed := 0,
    rejected := 0, undeliverable := 0, staleStatus := 0, unmatched := 0 }

/-- A robot record as the application of a FULL load leaves it; `held` says that the line-hold set is not empty (R81). -/
def Robot.loaded (held : Bool) : Robot :=
  { accepted := .offline, safeRun := 0, lastSeq := none, statusStart := none, faultCode := 0
    causes := causeBit .zone ||| causeBit .port ||| causeBit .lost ||| causeBit .stale ||| causeIf .line held
    gate := .held, confirm := true, cmdSeq := none, seqTime := none, lastVolume := none, lastSpeed := 0,
    lastForward := none, staleStatus := 0, modeErrors := 0, ring := [], suspect := false }

/-- The time unit after the application of a FULL load (R10 to R14). -/
def TimeUnit.reload (t : TimeUnit) : TimeUnit :=
  { t with
    clock := .none, lastSeq := none, rejected := 0, holdoverStart := none, nextIndex := 0, newest := none, pitchLog := [],
    running := false, stopStart := none, glitches := 0 }

/-- The grading unit after the application of a FULL load (R48, R49, R59). -/
def Grading.reload (b : Bank) : Grading :=
  { current := b, previous := b, staging := none, generation := false, changeover := none,
    cameras := Table.replicate 6 CameraRec.fresh }

/-- The path controller after the application of a FULL load (R153); a notice write presented before it belongs to the old
ring (R169, log 29). -/
def Path.reload (p : Path) : Path :=
  let old : OwnTxn → OwnTxn := fun o => if o.requester = .notice then { o with oldRing := true } else o
  { p with otherDenied := 0, ownQueue := p.ownQueue.map old, ownAtMemory := p.ownAtMemory.map old }

/-- The report unit after the application of a FULL load (10.1, R169): the general slot stays while a snapshot is in flight. -/
def Report.reload (r : Report) : Report :=
  { r with
    lastSeq := none
    slot := if r.snapshot.isSome then .inProgress else .idle
    reply := if r.snapshot.isSome then r.reply else none
    producer := 0
    consumer := 0 }

/-- Every block re-initialised for the configuration `c` with template set `b`, before the line-hold set is evaluated
(R160). -/
def State.reload (s : State) (c : HallConfig) (b : Bank) : State :=
  { s with
    config := some c
    time := s.time.reload
    queue := []
    grading := Grading.reload b
    gates := Table.ofFn fun g => if c.hasGate g then some GateRec.loaded else none
    lineHold := 0
    zones := Table.replicate 8 Zone.fresh
    ports := Table.replicate 16 Port.fresh
    table := { s.table with timer := some s.time.localTime, stale := false, fragments := 0 }
    path := s.path.reload
    report := s.report.reload }

/-- The robot records of configuration `c` (R81). -/
def State.reloadRobots (s : State) (c : HallConfig) : State :=
  { s with
    robots := Table.ofFn fun u => if c.isRobot u then some (Robot.loaded (decide (s.lineHold ≠ 0))) else none }

/-- The subject of CLOCK_NONE: the clock unit of the old or of the new configuration (log 12). -/
def clockNoneSubject (old : Option HallConfig) (new : HallConfig) : Nat :=
  codeOr0 Fin.val (if Config.clockNoneNamesNew then new.clockUnit else old.bind HallConfig.clockUnit)

/-- CLOCK_NONE, when the clock-unit state left is LOCKED or HOLDOVER (R10). -/
def State.clockNoneNotices (s : State) (new : HallConfig) : List Notice :=
  if s.time.clock = .none then [] else [{ s.note .clockNone with subject := clockNoneSubject s.config new }]

/-- LINE_STOPPED, when the line is RUNNING at the application (R14). -/
def State.lineStoppedNotices (s : State) : List Notice :=
  if s.time.running then [{ s.note .lineStopped with bottle := s.time.newest }] else []

/-- The completion of zone `z`'s ENTER in flight, ABNORMAL-CANCELLED, with the zone in START (R105, log 35). -/
def State.cancelNotice (s : State) (z : Fin 8) : Option Notice :=
  (s.zones.get z).inFlight.map fun q =>
    { s.note .zoneCompletion with
      subject := z.val, code := Completion.abnormalCancelled.code
      detail := BitVec.ofNat 32 (ZoneState.start.code + 2 ^ 8 * q.toNat) }

/-- The due flag of unit `u` re-tested when its threshold differs from the old one (R18). -/
def State.retestDue (s : State) (old : Option HallConfig) (u : Fin 24) : State :=
  let t := thresholdOf s.config u
  if t = thresholdOf old u then s
  else
    let s := s.onAccount u fun a => { a with due := false }
    if t ≠ 0 ∧ t * 3600 ≤ (s.time.accounts.get u).seconds then s.setDue u else s

/-- Every unit's due flag re-tested (R18). -/
def State.retestDues (s : State) (old : Option HallConfig) : State :=
  (List.finRange 24).foldl (fun s u => s.retestDue old u) s

/-- The application of a FULL load (R160). -/
def State.applyFull (s : State) (c : HallConfig) (b : Bank) : State :=
  let notices := s.clockNoneNotices c ++ s.lineStoppedNotices ++ (List.finRange 8).filterMap s.cancelNotice
  let after := { s.reload c b with given := s.given ++ notices }
  ((((after.followGate c 0).followGate c 1).reloadRobots c).retestDues s.config)

/-! ## The application of a PARAMETER load (R161) -/

/-- The line stops when a changed stop time has already run out (R14). -/
def State.retestStop (s : State) (old new : HallConfig) : State :=
  if old.timers.stopTime ≠ new.timers.stopTime ∧ s.time.running = true ∧
      timerDue s.time.stopStart (ms new.timers.stopTime) s.time.localTime = true then s.stopLine
  else s

/-- Gate `g` becomes LOST when a changed status timeout has already run out (R66). -/
def State.retestGate (s : State) (old new : HallConfig) (g : Fin 2) : State :=
  if (old.gates.get g).statusTimeout ≠ (new.gates.get g).statusTimeout ∧
      s.gateTimeoutDue g (new.gates.get g).statusTimeout = true then s.gateLost g
  else s

/-- The robots whose changed status timeout has already run out, with their records (R84). -/
def State.lateRobots (s : State) (old new : HallConfig) : List (Fin 24 × Robot) :=
  (List.finRange 24).filterMap fun u =>
    if (old.units.get u).statusTimeout ≠ (new.units.get u).statusTimeout ∧
        s.robotTimeoutDue u (new.units.get u).statusTimeout = true then
      (s.robots.get u).map fun r => (u, r)
    else none

/-- Robot `u` turns SUSPECT under the new threshold (R79). -/
def State.retestSuspect (s : State) (new : HallConfig) (u : Fin 24) : State :=
  match s.robots.get u with
  | some r => if r.turnsSuspect new.timers.suspectThreshold then s.latchSuspect u r.ones none else s
  | none => s

/-- Port `p` in LISTEN returns to ACTIVE when the loaded silence time, a changed or an equal one, has already run out (R127,
R136). -/
def State.retestSilence (s : State) (new : HallConfig) (p : Fin 16) : State :=
  if s.silenceDue new p then s.movePort new p .active .silence else s

/-- The application of a PARAMETER load: the configuration with its replaced items, and the re-tests, all at one event
(R161, log 33). R105 and R161 leave the zone records as they stand, while R84, R85, R103 and R116 hand a robot's loss to its
zone: the model lets the zone test the loss, so that a zone in REQUESTED or BREAK falls to HELD (log 48, DESIGN CHOICE,
unsafe). -/
def State.applyParameter (s : State) (old new : HallConfig) : State :=
  let late := s.lateRobots old new
  let s := ({ s with config := some new }.retestDues (some old)).retestStop old new
  let s := (s.retestGate old new 0).retestGate old new 1
  let s := late.foldl (fun s r => s.loseRobot r.1 r.2) s
  let s := (List.finRange 24).foldl (fun s u => s.retestSuspect new u) s
  let s := (List.finRange 16).foldl (fun s p => s.retestSilence new p) s
  late.foldl (fun s r => s.zoneSees new r.1 r.2.accepted .lost) s.handOn

/-! ## The end of a load -/

/-- ZONE_OPEN, when a zone is OPEN (R107, R159). -/
def State.zoneOpenRefusal (s : State) : Option Refused :=
  s.openZone.map fun z => { code := .zoneOpen, part := 3, entry := z.val }

/-- The BUSY of a CHANGEOVER: a slot of the other bank generation is in the queue (R56, R159). -/
def State.generationRefusal (s : State) : Option Refused :=
  if s.queue.any fun q => decide (q.generation ≠ s.grading.generation) then some { code := .busy, part := 8, entry := 0 }
  else none

/-- What refuses the complete staged image `m` of a load of kind `k`: validation, then the tests of its kind (R158, R159). -/
def State.imageRefusal (s : State) (k : LoadKind) (m : Image) : Option Refused :=
  match k, s.config with
  | .full, _ => Image.validateWhole m
  | .parameter, some c =>
    firstRefusal
      [Image.validateWhole m, s.zoneOpenRefusal, mismatch c (Image.config m) s.grading.current (Image.bank m)]
  | .parameter, none => firstRefusal [Image.validateWhole m, s.zoneOpenRefusal]
  | .changeover, _ => firstRefusal [Image.validateTemplates m, s.zoneOpenRefusal, s.generationRefusal]

/-- The application of image `m` by a load of kind `k` (R160 to R162). -/
def State.applyImage (s : State) (k : LoadKind) (m : Image) : State :=
  match k, s.config with
  | .full, _ => s.applyFull (Image.config m) (Image.bank m)
  | .parameter, some c => s.applyParameter c (Image.config m)
  | .parameter, none => s
  | .changeover, _ => s.onGrading fun g => { g with staging := some (Image.bank m) }

/-- The load of kind `k` ends with the complete staged image `m`: refused or applied (R158, R159). -/
def State.finishLoad (s : State) (k : LoadKind) (m : Image) : State :=
  match s.imageRefusal k m with
  | some r => s.refuseLoad k r
  | none => (s.applyImage k m).loadApplied k

/-- The line whose read is outstanding, for a load of kind `k` (R157). -/
def State.currentLine (s : State) (k : LoadKind) : Nat :=
  k.lines.getD s.loader.staged.length 0

/-- A line read joins the staged copy; the next is read, or the load ends (R157). -/
def State.lineStaged (s : State) (k : LoadKind) (data : List Word) : State :=
  let staged := s.loader.staged ++ [fitWords 16 data]
  match k.lines[staged.length]? with
  | some n => (s.onLoader fun l => { l with staged := staged }).present (s.lineRead n)
  | none => s.finishLoad k (imageOf k staged)

/-- CONFIG_READ_ANSWERED (R157). -/
def execConfigReadAnswered (ok : Bool) (data : List Word) (s : State) : Host.Outcome State Fault Refusal :=
  match s.path.ownHead .config, s.loader.kind with
  | some _, some k =>
    if ok then .next (s.ownAnswered.lineStaged k data).settle
    else
      .next (s.ownAnswered.refuseLoad k { code := .readError, part := partOfLine (s.currentLine k), entry := 0 }).settle
  | _, _ => .next s

end Sys2Proof.Machine
end

