-- ==== Sys2Proof/Machine/Pitch.lean ====
section
/-! DEFINITION. PITCH_EDGE: the pitch input and all that an accepted mark brings about in the time, grading, tracking and
decision units (R11, R12, R21, R57, R68). -/

namespace Sys2Proof.Machine

/-- The edge falls within the minimum pitch of the newest log entry (R11). -/
def TimeUnit.glitchAt (t : TimeUnit) (minPitch : Nat) : Bool :=
  match t.pitchLog.getLast? with
  | some m => decide (t.hall < m.time + ms minPitch)
  | none => false

/-- The pitch log with one entry more, the oldest of 16 removed (R12, R13). -/
def logAdd (log : List Mark) (m : Mark) : List Mark :=
  (if log.length < 16 then log else log.drop (log.length - 15)) ++ [m]

/-- The time unit after it numbers and records an accepted mark (R12). -/
def TimeUnit.acceptMark (t : TimeUnit) : TimeUnit :=
  { t with
    nextIndex := t.nextIndex + 1
    newest := some t.nextIndex
    pitchLog := logAdd t.pitchLog ⟨t.nextIndex, t.hall⟩
    running := true
    stopStart := some t.localTime }

/-- The time unit's handling of an accepted mark, with LINE_RUNNING when the line was STOPPED (R12). -/
def State.acceptMark (s : State) : State :=
  let after := s.onTime TimeUnit.acceptMark
  if s.time.running then after else after.give { s.note .lineRunning with bottle := some s.time.nextIndex }

/-- A staged changeover is applied at the mark of bottle `k` (R57). -/
def State.applyChangeover (s : State) (k : Bottle) : State :=
  match s.grading.staging with
  | none => s
  | some b =>
    (s.onGrading fun g =>
        { g with previous := g.current, current := b, staging := none, generation := !g.generation, changeover := some k }).give
      { s.note .changeoverApplied with bottle := some k, detail := detailNat (bit (!s.grading.generation) 0) }

/-- The tracking unit's handling of the mark of bottle `k` at hall time `t` (R21). -/
def State.trackMark (s : State) (c : HallConfig) (k : Bottle) (t : Nat) : State :=
  ((s.join c k t).markFirsts c).leave c

/-- An accepted mark, handed from block to block (R12, R57, R21, R68), and what it changed handed on. -/
def State.pitchMark (s : State) (c : HallConfig) : State :=
  let k := s.time.nextIndex
  ((((s.acceptMark).applyChangeover k).trackMark c k s.time.hall).decideMark c).handOn

/-- PITCH_EDGE (R11). -/
def execPitchEdge (s : State) : Host.Outcome State Fault Refusal :=
  match s.config with
  | none => .next s
  | some c =>
    if s.time.glitchAt c.timers.minPitch then .next (s.onTime fun t => { t with glitches := satAdd 16 t.glitches 1 })
    else .next (s.pitchMark c).settle

end Sys2Proof.Machine
end

