-- ==== Sys2Proof/Machine/Transactions.lean ====
section
/-! DEFINITION. The path controller's commands (chapter 8): UPSTREAM_TRANSACTION, FORWARDED_RESPONSE, VIEW_READ,
MAILBOX_READ, ARBITER_GRANT. The observed writes and substituted command reads stand with the blocks that own the records. -/

namespace Sys2Proof

/-- The transaction is well formed (R143); one of no words is not (log 32). -/
def Txn.formed (t : Txn) : Bool :=
  decide (t.start % 8 = 0) && decide (1 ≤ t.length) && decide (t.lineOffset + 8 * t.length ≤ 128)

/-- A write by the processor into the image region, or a read of it (R147). -/
def Txn.imageTreatment (t : Txn) : Machine.Treatment :=
  if t.isWrite then .image else .plain

/-- The agent's write does not cover the whole table (R128, R148). -/
def Txn.partialTable (t : Txn) : Bool :=
  t.isWrite && (Machine.writtenBlock t.written t.lineOffset 0 16).isNone

end Sys2Proof

namespace Sys2Proof.Machine

/-! ## Presentation -/

/-- A transaction joins those not yet answered; a refused one with no earlier one of its tag is answered at once (R144). -/
def Path.enter (p : Path) (f : Flight) : Path :=
  { p with
    flights := (drain f.txn.tag (p.flights ++ [f])).1
    responses := p.responses ++ (drain f.txn.tag (p.flights ++ [f])).2 }

/-- Transaction `t` is forwarded under this treatment, to wait for the downstream port (R147, R152). -/
def State.forward (s : State) (t : Txn) (how : Treatment) : State :=
  s.onPath fun p => p.enter { txn := t, treatment := how, stage := .waiting }

/-- Transaction `t` is refused: DENIED and counted as a denial of its source (R144, R145). -/
def State.refuse (s : State) (t : Txn) : State :=
  (s.countDenial t.tag).onPath fun p => p.enter { txn := t, treatment := .denied, stage := .held }

/-- View read `t` waits for the processor's earlier transactions (R151). -/
def State.holdView (s : State) (t : Txn) : State :=
  s.onPath fun p => p.enter { txn := t, treatment := .view, stage := .held }

/-- Byte address `a` lies within the configuration image region (R155). -/
def State.inImage (s : State) (a : Nat) : Bool :=
  decide (s.cfgBase.toNat * 2 ^ 24 ≤ a) && decide (a < s.cfgBase.toNat * 2 ^ 24 + 16384)

/-! ### The processor -/

/-- The rights of the processor in the window that matched (R147). -/
def State.processorRight (s : State) (i : Fin 32) (w : Window) (write : Bool) : Treatment :=
  match w.kind with
  | .command =>
    if write && ((unitNumber w.unit).map s.isRobot).getD false then .observed i w else .plain
  | .mailbox => if write then .observed i w else .substituted i w
  | .view => if write then .denied else .view
  | .plain => .plain
  | .status => .plain
  | .verdict => .plain
  | .timeFrame => .plain
  | .switchTable => .plain
  | .notice => .plain
  | .unused => .plain

/-- The treatment of a well-formed transaction of the processor (R146, R147); while UNCONFIGURED no entry of the window table
governs an address, so that it is forwarded (R153). -/
def State.processorTreatment (s : State) (t : Txn) : Treatment :=
  if s.inImage t.start then t.imageTreatment
  else
    match matchedIn s.windowTable t.start with
    | some (i, w) => s.processorRight i w t.isWrite
    | none => .plain

/-- A transaction is handled as its treatment says. -/
def State.treat (s : State) (t : Txn) (how : Treatment) : State :=
  match how with
  | .denied => s.refuse t
  | .view => s.holdView t
  | .plain => s.forward t .plain
  | .image => s.forward t .image
  | .observed i w => s.forward t (.observed i w)
  | .substituted i w => s.forward t (.substituted i w)

/-! ### Switch ports -/

/-- Port `p` stands in a mask of ports (8.3). Which of the 16 bits stands for port n no rule says: the model takes bit n − 1
(log 49, DESIGN CHOICE, unsafe). -/
def maskHas (mask : BitVec 16) (p : Fin 16) : Bool :=
  mask.getLsbD p.val

/-- Port `p` is the port of the window's unit. -/
def HallConfig.ownsWindow (c : HallConfig) (w : Window) (p : Fin 16) : Bool :=
  decide ((unitNumber w.unit).bind c.portOf = some p)

/-- The rights of port `p` in the window that matched (R147). -/
def HallConfig.portRight (c : HallConfig) (p : Fin 16) (i : Fin 32) (w : Window) (write : Bool) : Treatment :=
  match w.kind with
  | .plain => if maskHas (if write then w.writers else w.readers) p then .plain else .denied
  | .command => if !write && c.ownsWindow w p then .substituted i w else .denied
  | .status => if write && c.ownsWindow w p then .observed i w else .denied
  | .verdict => if write && c.ownsWindow w p then .observed i w else .denied
  | .timeFrame => if write && c.ownsWindow w p then .observed i w else .denied
  | .switchTable => .denied
  | .mailbox => .denied
  | .view => .denied
  | .notice => .denied
  | .unused => .denied

/-- The treatment of a transaction of port `p` by its form, its window and its rights (R143, R146, R147). -/
def State.portTreatment (s : State) (c : HallConfig) (p : Fin 16) (t : Txn) : Treatment :=
  if !t.formed || s.inImage t.start then .denied
  else
    match c.matched t.start with
    | some (i, w) => c.portRight p i w t.isWrite
    | none => .denied

/-- The write is observed, and leaves a touched slot uncovered (R148). -/
def fragments (t : Txn) (how : Treatment) : Bool :=
  match how with
  | .observed _ _ => decide (t.wholeSlots.length < t.touchedSlots)
  | .plain => false
  | .denied => false
  | .view => false
  | .image => false
  | .substituted _ _ => false

/-- A write of port `p` that the rights allow (R135, R139, R148). -/
def State.portWrite (s : State) (c : HallConfig) (p : Fin 16) (t : Txn) (how : Treatment) : State :=
  let after := s.chargeBudget c p t.length
  if s.budgetAllows c p t.length then
    (if fragments t how then after.countFragment p else after).forward t how
  else after.refuse t

/-- A transaction of port `p` (R132, R134, R135, R147). -/
def State.portPresents (s : State) (c : HallConfig) (p : Fin 16) (t : Txn) : State :=
  if t.isWrite && decide ((s.ports.get p).state ≠ .active) then (s.writeAttempt p).refuse t
  else
    match s.portTreatment c p t with
    | .denied => (s.violation c p).refuse t
    | how => if t.isWrite then s.portWrite c p t how else s.forward t how

/-! ### The management agent -/

/-- A transaction of the management agent: the SWITCHTABLE window alone is its own (R145, R147). A write of part of the table is
counted when it is forwarded (R148), and stays counted if memory answers it FAULT, where R128 says that a write answered FAULT is not
counted (log 54, DESIGN CHOICE, unsafe). -/
def State.agentPresents (s : State) (c : HallConfig) (t : Txn) : State :=
  if !t.formed || s.inImage t.start then s.refuse t
  else
    match c.matched t.start with
    | some (i, w) =>
      if w.kind = .switchTable then
        (if t.partialTable then s.onTable fun x => { x with fragments := satAdd 16 x.fragments 1 } else s).forward t
          (if t.isWrite then .observed i w else .plain)
      else s.refuse t
    | none => s.refuse t

/-! ### All sources -/

/-- A transaction presented while configured (R145, R147). -/
def State.presents (s : State) (c : HallConfig) (t : Txn) : State :=
  if t.tag = processorTag then s.treat t (if t.formed then s.processorTreatment t else .denied)
  else
    match tagPort t.tag with
    | some p => s.portPresents c p t
    | none => if t.tag = agentTag then s.agentPresents c t else s.refuse t

/-- A transaction presented while UNCONFIGURED: the processor's is forwarded unchanged, its image writes observed; every
other source is refused (R153). A malformed one is DENIED (R143, log 27). -/
def State.presentsUnconfigured (s : State) (t : Txn) : State :=
  if t.tag = processorTag ∧ t.formed = true then
    s.treat t (s.processorTreatment t)
  else s.refuse t

/-- UPSTREAM_TRANSACTION (R143, R147). -/
def execUpstreamTransaction (t : Txn) (observeAll : Bool) (s : State) : Host.Outcome State Fault Refusal :=
  let s := { s with observeAll := observeAll }
  match s.config with
  | some c => .next (s.presents c t).settle
  | none => .next (s.presentsUnconfigured t).settle

/-! ## Responses -/

/-- A response passed up from memory: data for a read (R144). -/
def passedReply (t : Txn) (r : Response) (data : List Word) : Reply :=
  { tag := t.tag, response := r, data := if t.isWrite then [] else fitWords t.length data }

/-- The oldest transaction of `tag`, which memory answers OKAY with nothing to hand over and nothing to substitute, is
answered; for a substituted read this is so only when a FULL load has replaced its window: it is DENIED (R154). Other
steps answer the rest (log 2, log 5). -/
def State.respondOkay (s : State) (f : Flight) (data : List Word) : State :=
  match f.treatment, s.config with
  | .plain, _ => s.onPath fun p => p.answer (passedReply f.txn .okay data)
  | .substituted i w, some c =>
    if c.stands i w then s else (s.countDenial f.txn.tag).onPath fun p => p.answer (deniedReply f.txn)
  | .observed _ _, _ =>
    if (s.handovers f).isEmpty then s.onPath fun p => p.answer (passedReply f.txn .okay data) else s
  | .image, _ => if (s.handovers f).isEmpty then s.onPath fun p => p.answer (passedReply f.txn .okay data) else s
  | .substituted _ _, none => s
  | .denied, _ => s
  | .view, _ => s

/-- FORWARDED_RESPONSE (R144): memory's FAULT is passed up unchanged for every transaction (R102, R148, R150), also for a
substituted read whose window a FULL load replaced, where R154 says DENIED and R144 and R150 say FAULT: no denial is counted
then (log 50, DESIGN CHOICE, unsafe). -/
def execForwardedResponse (tag : Fin 32) (ok : Bool) (data : List Word) (s : State) : Host.Outcome State Fault Refusal :=
  match s.path.oldest tag with
  | none => .next s
  | some f =>
    if f.stage = .atMemory then
      if ok then .next (s.respondOkay f data) else .next (s.onPath fun p => p.answer (passedReply f.txn .fault data))
    else .next s

/-- VIEW_READ (R151): the view instant of the processor's oldest transaction, when that is a view read. -/
def execViewRead (observeAll : Bool) (s : State) : Host.Outcome State Fault Refusal :=
  match s.path.oldest processorTag, s.config with
  | some f, some c =>
    if f.treatment = .view then
      let s := { s with observeAll := observeAll }
      .next (s.onPath fun p =>
        p.answer
          { tag := processorTag, response := .okay
            data := recordWords (s.viewFields c) (f.txn.start % 4096) f.txn.length })
    else .next s
  | _, _ => .next s

/-- MAILBOX_READ (R165). -/
def execMailboxRead (data : List Word) (s : State) : Host.Outcome State Fault Refusal :=
  match s.substituting processorTag with
  | some (_, w, t) =>
    if w.kind = .mailbox then
      .next (s.onPath fun p =>
        p.answer
          { tag := processorTag, response := .okay
            data := overlay s.replyFields t.mailboxOffset (fitWords t.length data) })
    else .next s
  | none => .next s

/-! ## The arbiter -/

/-- The transactions with the oldest forwarded one granted, if one waits (R152). -/
def grantForwarded : List Flight → Option (List Flight)
  | [] => none
  | f :: fs => if f.stage = .waiting then some ({ f with stage := .atMemory } :: fs) else (grantForwarded fs).map (f :: ·)

/-- The path with the own head granted (R152). -/
def Path.grantOwn (p : Path) : Path :=
  match p.ownQueue with
  | [] => p
  | o :: os => { p with ownQueue := os, ownWait := 0, ownAtMemory := p.ownAtMemory ++ [o] }

/-- The arbiter's grant (R152). -/
def Path.grant (p : Path) : Path :=
  match grantForwarded p.flights, p.ownQueue with
  | none, _ => p.grantOwn
  | some fs, [] => { p with flights := fs }
  | some fs, _ :: _ => if p.ownWait < 8 then { p with flights := fs, ownWait := p.ownWait + 1 } else p.grantOwn

/-- ARBITER_GRANT (R152). -/
def execArbiterGrant (s : State) : Host.Outcome State Fault Refusal :=
  .next (s.onPath Path.grant)

end Sys2Proof.Machine
end

