-- ==== Sys2Proof/Machine/Dispatch.lean ====
section
/-! DEFINITION. The meaning of every command: one arm for each row of spec/opcode_table.json, one direct call each. -/

namespace Sys2Proof.Machine

/-- A command's effect on everything but the queue of commands. -/
def exec (i : Instr) (s : State) : Host.Outcome State Fault Refusal :=
  match i with
  | .resetN straps => Sys2Proof.Machine.execResetN straps s
  | .pitchEdge => Sys2Proof.Machine.execPitchEdge s
  | .stopTimerExpiry => Sys2Proof.Machine.execStopTimerExpiry s
  | .slewMove => Sys2Proof.Machine.execSlewMove s
  | .holdoverExpiry => Sys2Proof.Machine.execHoldoverExpiry s
  | .timeFrame tag => Sys2Proof.Machine.execTimeFrame tag s
  | .accountSecond u => Sys2Proof.Machine.execAccountSecond u s
  | .verdictRecord tag => Sys2Proof.Machine.execVerdictRecord tag s
  | .robotStatusFrame tag => Sys2Proof.Machine.execRobotStatusFrame tag s
  | .robotStatusTimeout u => Sys2Proof.Machine.execRobotStatusTimeout u s
  | .gateStatusFrame tag => Sys2Proof.Machine.execGateStatusFrame tag s
  | .gateStatusTimeout g => Sys2Proof.Machine.execGateStatusTimeout g s
  | .sequenceWrite u => Sys2Proof.Machine.execSequenceWrite u s
  | .robotCommandRead tag data => Sys2Proof.Machine.execRobotCommandRead tag data s
  | .gateCommandRead tag data => Sys2Proof.Machine.execGateCommandRead tag data s
  | .guardRawChange z opened => Sys2Proof.Machine.execGuardRawChange z opened s
  | .guardOpen z => Sys2Proof.Machine.execGuardOpen z s
  | .guardClosed z => Sys2Proof.Machine.execGuardClosed z s
  | .accessTimerExpiry z => Sys2Proof.Machine.execAccessTimerExpiry z s
  | .clearingWindowExpiry z => Sys2Proof.Machine.execClearingWindowExpiry z s
  | .enter z => Sys2Proof.Machine.execEnter z s
  | .confirm z => Sys2Proof.Machine.execConfirm z s
  | .extend z => Sys2Proof.Machine.execExtend z s
  | .cancel z => Sys2Proof.Machine.execCancel z s
  | .reset z => Sys2Proof.Machine.execReset z s
  | .resume z => Sys2Proof.Machine.execResume z s
  | .sense z => Sys2Proof.Machine.execSense z s
  | .mailboxRead data => Sys2Proof.Machine.execMailboxRead data s
  | .release => Sys2Proof.Machine.execRelease s
  | .clearSuspect => Sys2Proof.Machine.execClearSuspect s
  | .accountClear => Sys2Proof.Machine.execAccountClear s
  | .portClear => Sys2Proof.Machine.execPortClear s
  | .snapshot => Sys2Proof.Machine.execSnapshot s
  | .purge => Sys2Proof.Machine.execPurge s
  | .lineResume => Sys2Proof.Machine.execLineResume s
  | .snapshotWriteAnswered ok => Sys2Proof.Machine.execSnapshotWriteAnswered ok s
  | .consumerWrite => Sys2Proof.Machine.execConsumerWrite s
  | .noticeWriteAnswered ok => Sys2Proof.Machine.execNoticeWriteAnswered ok s
  | .switchTable => Sys2Proof.Machine.execSwitchTable s
  | .tableTimerExpiry => Sys2Proof.Machine.execTableTimerExpiry s
  | .intervalBoundary => Sys2Proof.Machine.execIntervalBoundary s
  | .silenceExpiry p => Sys2Proof.Machine.execSilenceExpiry p s
  | .upstreamTransaction t observeAll => Sys2Proof.Machine.execUpstreamTransaction t observeAll s
  | .viewRead observeAll => Sys2Proof.Machine.execViewRead observeAll s
  | .forwardedResponse tag ok data => Sys2Proof.Machine.execForwardedResponse tag ok data s
  | .arbiterGrant => Sys2Proof.Machine.execArbiterGrant s
  | .fullLoad => Sys2Proof.Machine.execFullLoad s
  | .parameterLoad => Sys2Proof.Machine.execParameterLoad s
  | .changeoverLoad => Sys2Proof.Machine.execChangeoverLoad s
  | .configReadAnswered ok data => Sys2Proof.Machine.execConfigReadAnswered ok data s
  | .referencePeriod => Sys2Proof.Machine.execReferencePeriod s
  | .otherCommandCode slot => Sys2Proof.Machine.execOtherCommandCode slot s
  | .otherLoadKind => Sys2Proof.Machine.execOtherLoadKind s

end Sys2Proof.Machine
end

