-- ==== Sys2Proof/Formats.lean ====
section
/-! DEFINITION. The formats of chapter 11 and the checks of R158 in the terms the statements use: what stands where in the reply
words, the view, a snapshot record and the configuration image, and when an image fails a check. No meaning uses them. -/

namespace Sys2Proof.Machine

/-! ## Layouts -/

/-- The weight of a flag in bit `i` of its byte. -/
def flagBit (b : Bool) (i : Nat) : Nat :=
  if b then 2 ^ i else 0

/-- The fields of `layout`, each moved by `base`. -/
def moved (base : Nat) (layout : List Field) : List Field :=
  layout.map fun f => ⟨base + f.off, f.size, f.value⟩

/-- No two fields share a byte. -/
def disjointFields (fs : List Field) : Prop :=
  fs.Pairwise fun a b => a.off + a.size ≤ b.off ∨ b.off + b.size ≤ a.off

/-- The slot state that a zone slot shows (R112): IN_PROGRESS with an ENTER in flight, COMPLETE with a completion pending. -/
def Zone.slotShown (k : Zone) : Nat :=
  match k.inFlight, k.pending with
  | some _, _ => SlotState.inProgress.code
  | none, some _ => SlotState.complete.code
  | none, none => SlotState.idle.code

/-- The reply word of a zone slot (11.3): slot state, answer sequence, completion code, origin sequence, flags, zone state, forced
cause. -/
def Zone.replyLayout (k : Zone) : List Field :=
  let origin : Nat × Nat :=
    match k.reply.origin with
    | .none => (0, 0)
    | .command q => (q.toNat, 2)
    | .autonomous => (0, 4)
  [ ⟨0, 1, k.slotShown⟩, ⟨1, 1, match k.reply.seq with | some q => q.toNat | none => 0⟩,
    ⟨2, 1, match k.reply.code with | some e => e.code | none => 0⟩, ⟨3, 1, origin.1⟩,
    ⟨4, 1, flagBit k.reply.seq.isSome 0 + origin.2 + flagBit k.reply.further 3 + flagBit k.hasRun 4⟩,
    ⟨5, 1, k.state.code⟩, ⟨6, 1, match k.forcedCause with | some f => f.code | none => 255⟩ ]

/-- The reply word of the general slot (11.3, R165): slot state, answer sequence, completion code, answer present; its bytes 3 to 6
and the other bits of byte 4 are 0. -/
def Report.replyLayout (r : Report) : List Field :=
  let answer : Nat × Nat × Nat :=
    match r.reply with
    | some (q, e) => (q.toNat, e.code, 1)
    | none => (0, 0, 0)
  [⟨0, 1, r.slot.code⟩, ⟨1, 1, answer.1⟩, ⟨2, 1, answer.2.1⟩, ⟨3, 1, 0⟩, ⟨4, 1, answer.2.2⟩, ⟨5, 2, 0⟩]

/-- A bottle index that may be absent: 0 where it is (R172). -/
def shownBottle (b : Option Bottle) : Nat :=
  match b with
  | some b => b.toNat
  | none => 0

/-- The header of the view (11.5). -/
def State.headerLayout (s : State) : List Field :=
  [ ⟨0, 8, s.time.hall⟩, ⟨8, 4, shownBottle s.time.newest⟩,
    ⟨12, 1, flagBit s.time.newest.isSome 0 + flagBit s.time.running 1 + flagBit s.table.stale 2 +
      flagBit s.grading.staging.isSome 3 + flagBit s.grading.generation 4 + flagBit s.grading.changeover.isSome 5⟩,
    ⟨13, 1, s.time.clock.code⟩, ⟨14, 1, if s.loader.kind = none then 0 else 1⟩,
    ⟨15, 1, match s.loader.kind with | some k => k.code | none => 0⟩, ⟨16, 2, s.loader.requests.toNat⟩,
    ⟨18, 1, s.loader.outcome.code.code⟩, ⟨19, 1, s.loader.outcome.kind⟩, ⟨20, 1, s.loader.outcome.part⟩,
    ⟨21, 1, s.loader.outcome.entry⟩, ⟨22, 2, s.time.glitches⟩, ⟨24, 4, s.report.producer.toNat⟩,
    ⟨28, 4, s.report.consumer.toNat⟩, ⟨32, 2, s.report.dropped⟩, ⟨34, 2, s.report.consumerErrors⟩,
    ⟨36, 2, s.path.otherDenied⟩, ⟨38, 2, s.table.fragments⟩, ⟨40, 4, shownBottle s.grading.changeover⟩,
    ⟨44, 4, shownBottle (s.queue.head?.map Slot.bottle)⟩, ⟨48, 4, shownBottle (s.queue.getLast?.map Slot.bottle)⟩,
    ⟨52, 2, s.queue.length⟩, ⟨54, 2, s.lineHold.toNat⟩ ]

/-- The record of port `p` in the view (11.5, R142). -/
def State.portLayout (s : State) (c : HallConfig) (p : Fin 16) : List Field :=
  let r := s.ports.get p
  [ ⟨0, 1, r.state.code⟩, ⟨1, 1, r.reason.code⟩,
    ⟨2, 1, flagBit r.linkUp 0 + flagBit ((c.ports.get p).observe || s.observeAll) 1⟩, ⟨3, 1, r.upRun⟩, ⟨4, 1, r.speed.toNat⟩,
    ⟨5, 1, r.intervalViolations⟩, ⟨6, 2, r.intervalWords⟩, ⟨8, 4, r.rxErrors.toNat⟩, ⟨12, 1, r.violations⟩,
    ⟨13, 1, r.history.length⟩, ⟨14, 2, r.denied⟩, ⟨16, 2, r.fragments⟩, ⟨18, 2, r.overruns⟩,
    ⟨20, 4, match r.history.head? with | some b => viewMs (s.time.localTime - b) | none => 0⟩ ]

/-- The record of zone `z` in the view (11.5, R126); the remaining time is that to 15 s or, once extended, 20 s from the request,
or to 10 s from the beginning of CLEARING. -/
def State.zoneLayout (s : State) (z : Fin 8) : List Field :=
  let k := s.zones.get z
  let remaining : Nat :=
    match k.access, k.clearing with
    | some b, _ => viewMs (b + (if k.extended then 20000000000 else 15000000000) - s.time.localTime)
    | none, some b => viewMs (b + 10000000000 - s.time.localTime)
    | none, none => 0
  let further : Bool :=
    match k.pending with
    | some e => e.further
    | none => false
  [ ⟨0, 1, k.state.code⟩, ⟨1, 1, flagBit (s.guards.get z).level 0⟩, ⟨2, 1, flagBit k.unlocked 0⟩,
    ⟨3, 1, flagBit k.hasRun 0 + flagBit k.afterForced 1 + flagBit k.extended 2 + flagBit further 3 +
      flagBit k.access.isSome 4 + flagBit k.clearing.isSome 5⟩,
    ⟨4, 1, match k.forcedCause with | some f => f.code | none => 255⟩, ⟨5, 1, k.forcedCount⟩, ⟨6, 1, k.slotShown⟩,
    ⟨8, 4, remaining⟩ ]

/-- The fields that the view shows of every unit (11.5). -/
def State.unitLayout (s : State) (c : HallConfig) (u : Fin 24) : List Field :=
  let a := s.time.accounts.get u
  [⟨0, 1, (c.kindOf u).code⟩, ⟨1, 1, (c.units.get u).port⟩, ⟨56, 4, a.seconds⟩, ⟨60, 1, flagBit a.due 0⟩]

/-- The fields of a robot (11.5, R104). -/
def Robot.viewLayout (r : Robot) : List Field :=
  [ ⟨2, 1, r.accepted.code⟩, ⟨3, 1, r.gate.code⟩, ⟨4, 2, r.causes.toNat⟩,
    ⟨6, 1, flagBit r.confirm 0 + flagBit r.lastVolume.isSome 1 + flagBit r.suspect 2⟩, ⟨8, 2, r.faultCode.toNat⟩,
    ⟨10, 2, match r.lastVolume with | some v => v | none => 0⟩, ⟨12, 2, r.lastSpeed⟩, ⟨14, 2, r.staleStatus⟩,
    ⟨16, 2, r.modeErrors⟩, ⟨18, 1, r.ring.length⟩, ⟨19, 1, r.ring.count true⟩ ]

/-- The fields of a camera (11.5, R64). -/
def CameraCounts.viewLayout (k : CameraCounts) : List Field :=
  [⟨20, 4, k.taken⟩, ⟨24, 4, k.placed⟩, ⟨28, 4, k.unplaced⟩, ⟨32, 4, k.stale⟩, ⟨36, 4, k.missed⟩]

/-- The fields of gate `g` with record `r` (11.5, R80): the outstanding decisions are those formed and not confirmed. -/
def State.gateLayout (s : State) (c : HallConfig) (g : Fin 2) (r : GateRec) : List Field :=
  let report : Nat × Nat :=
    match r.lastReport with
    | some (b, ejected) => (b.toNat, 2 + flagBit ejected 2)
    | none => (0, 0)
  let waits : Slot → Bool := fun q =>
    match q.decisions.get g with
    | some d => d.confirmed.isNone
    | none => false
  [ ⟨2, 1, r.accepted.code⟩, ⟨3, 1, flagBit (s.available c g) 0 + report.2⟩, ⟨4, 2, r.faultCode.toNat⟩,
    ⟨8, 2, (s.queue.filter waits).length⟩, ⟨14, 2, r.staleStatus⟩, ⟨16, 2, r.unmatched⟩, ⟨20, 4, r.passed⟩,
    ⟨24, 4, r.rejected⟩, ⟨28, 4, r.undeliverable⟩, ⟨32, 4, report.1⟩ ]

/-- `f` is a field of the record of unit `u` (11.5): one that every unit shows, or one of its kind. -/
def State.UnitShows (s : State) (c : HallConfig) (u : Fin 24) (f : Field) : Prop :=
  f ∈ s.unitLayout c u ∨
    (c.kindOf u = .filler ∧ ∃ r, s.robots.get u = some r ∧ f ∈ r.viewLayout) ∨
    (c.kindOf u = .camera ∧ ∃ n, c.cameraOfUnit u = some n ∧ f ∈ (s.grading.cameras.get n).counts.viewLayout) ∨
    (c.kindOf u = .gate ∧ ∃ g r, c.gateOfUnit u = some g ∧ s.gates.get g = some r ∧ f ∈ s.gateLayout c g r) ∨
    (c.kindOf u = .clock ∧ f = ⟨4, 2, s.time.rejected⟩)

/-- The snapshot record (11.4). -/
def SnapshotCopy.layout (k : SnapshotCopy) : List Field :=
  let n := k.counts
  [ ⟨0, 1, k.camera.val⟩, ⟨1, 1, k.unit⟩,
    ⟨2, 1, flagBit k.clear 0 + flagBit k.lastSeq.isSome 1 + flagBit k.changeover.isSome 2 + flagBit k.generation 3⟩,
    ⟨4, 4, match k.lastSeq with | some q => q.toNat | none => 0⟩, ⟨8, 8, k.time⟩, ⟨16, 4, shownBottle k.changeover⟩,
    ⟨32, 4, n.taken⟩, ⟨36, 4, n.placed⟩, ⟨40, 4, n.unplaced⟩, ⟨44, 4, n.tooOld⟩, ⟨48, 4, n.future⟩, ⟨52, 4, n.stalled⟩,
    ⟨56, 4, n.ambiguous⟩, ⟨60, 4, n.outOfRange⟩, ⟨64, 4, n.late⟩, ⟨68, 4, n.pass⟩, ⟨72, 4, n.minor⟩, ⟨76, 4, n.major⟩,
    ⟨80, 4, n.stale⟩, ⟨84, 4, n.missed⟩, ⟨88, 4, n.double⟩ ] ++
    ((List.finRange 16).map fun i => ⟨96 + 2 * i.val, 2, n.fails.get i⟩) ++ [⟨248, 4, k.sequence.toNat⟩]

/-- The notice entry (11.4). -/
def Notice.layout (n : Notice) : List Field :=
  [ ⟨0, 2, n.kind.code⟩, ⟨2, 1, n.subject⟩, ⟨3, 1, flagBit n.bottle.isSome 0⟩, ⟨4, 2, n.code⟩, ⟨8, 8, n.stamp⟩,
    ⟨16, 4, shownBottle n.bottle⟩, ⟨24, 4, n.detail.toNat⟩ ]

/-! ## The presenting of notices -/

/-- With `waiting` in the own queue, the oldest notice is presented behind it at the entry that the producer names, while the ring has
room and no notice write is outstanding; else the own queue is `waiting` (R167). -/
def State.Presents (t : State) (waiting : List OwnTxn) : Prop :=
  let busy : Prop := ∃ o ∈ waiting ++ t.path.ownAtMemory, o.requester = .notice
  let room : HallConfig → Prop := fun c => (t.report.producer - t.report.consumer).toNat < c.ringSize
  (∀ c i n, t.config = some c → (c.windows.get i).kind = .notice →
    (∀ j, j < i → (c.windows.get j).kind ≠ .notice) → t.report.notices.head? = some n → ¬ busy → room c →
    t.path.ownQueue = waiting ++
      [{ requester := .notice, oldRing := false
         addr := (c.windows.get i).base + t.report.producer.toNat % c.ringSize * 32
         data := recordWords n.layout 0 4 }]) ∧
  (t.report.notices = [] ∨ busy ∨ (∀ c, t.config = some c → ¬ room c ∨ ∀ i, (c.windows.get i).kind ≠ .notice) →
    t.path.ownQueue = waiting)

/-! ## The image -/

/-- The number in the `size` bytes at `off` of line `line` of an image, lowest byte first (0.5); a byte that is not there counts as
0. -/
def Image.num (m : Image) (line off size : Nat) : Nat :=
  ((List.range size).map fun j => ((m.getD line []).getD (off + j) 0).toNat * 256 ^ j).sum

/-- The fields of the image `m` in the order and with the sizes of 11.6, one after another (log 45), are those of the configuration
`c` and the template set `b` (R173): a flag is read from bit 0, the robot parameters for a FILLER unit alone, the zone not for a
CLOCK unit. Of an enumerated field nothing is said here when it holds no code: the image is refused then. -/
structure Image.Reads (m : Image) (c : HallConfig) (b : Bank) : Prop where
  /-- Section 1. -/
  windows : ∀ i : Fin 32,
    let f := fun off size => m.num (1 + i.val / 8) (16 * (i.val % 8) + off) size
    let w := c.windows.get i
    (f 0 1 ≤ 9 → w.kind.code = f 0 1) ∧ w.unit = f 1 1 ∧ w.writers.toNat = f 2 2 ∧ w.readers.toNat = f 4 2 ∧
      w.base = f 6 4 ∧ w.size = f 10 4
  /-- Section 2. -/
  units : ∀ u : Fin 24,
    let f := fun off size => m.num (5 + u.val / 4) (32 * (u.val % 4) + off) size
    let k := c.units.get u
    (f 0 1 ≤ 4 → k.kind.code = f 0 1) ∧ k.port = f 1 1 ∧ (k.kind ≠ .clock → k.zone = f 2 1) ∧
      (k.kind = .filler →
        (k.alwaysConfirm = true ↔ f 3 1 % 2 = 1) ∧ k.safeCount = f 4 1 ∧ k.statusTimeout = f 5 2 ∧ k.staleLimit = f 7 2 ∧
          k.vmin = f 9 2 ∧ k.vmax = f 11 2 ∧ k.slew = f 13 2)
  /-- Section 3. -/
  zones : ∀ z : Fin 8,
    let f := fun off size => m.num 11 (8 * z.val + off) size
    let k := c.zones.get z
    (k.hasSpan = true ↔ f 0 1 % 2 = 1) ∧ (k.breakpoint = true ↔ f 1 1 % 2 = 1) ∧ k.first = f 2 2 ∧ k.last = f 4 2
  /-- Section 4. -/
  ports : ∀ p : Fin 16,
    let f := fun off size => m.num 12 (8 * p.val + off) size
    let k := c.ports.get p
    (k.observe = true ↔ f 0 1 = 1) ∧ k.limit = f 1 1 ∧ k.budget = f 2 2 ∧ k.silence = f 4 2
  /-- Section 5. -/
  gates : ∀ g : Fin 2,
    let f := fun off size => m.num 13 (16 * g.val + off) size
    let k := c.gates.get g
    (k.present = true ↔ f 0 1 % 2 = 1) ∧ k.unit = f 1 1 ∧ k.advance = f 2 1 ∧ k.distance = f 3 2 ∧ k.statusTimeout = f 5 2 ∧
      k.cameraSet.toNat = f 7 1
  /-- Section 6. -/
  fill : c.fillCount = m.num 14 0 1 ∧ ∀ i : Fin 8, c.fillUnits.get i = m.num 14 (1 + i.val) 1
  /-- Section 7. -/
  cameras : ∀ n : Fin 6,
    let f := fun off size => m.num (15 + n.val / 4) (32 * (n.val % 4) + off) size
    let k := c.cameras.get n
    (k.present = true ↔ f 0 1 % 2 = 1) ∧ k.unit = f 1 1 ∧ k.distance = f 2 2 ∧ k.halfWindow = f 4 1 ∧
      (k.verbose = true ↔ f 5 1 % 2 = 1) ∧ k.chainFirst = f 6 1 ∧ k.chainStep = f 7 1 ∧ k.chainLast = f 8 1 ∧
      k.snapshotAddr = f 9 4
  /-- Section 8. -/
  templates : ∀ t i : Fin 16,
    let f := fun off size => m.num (17 + t.val) (8 * i.val + off) size
    let k := (b.get t).get i
    k.byteNo = f 0 1 ∧ (f 1 1 ≤ 5 → k.op.code = f 1 1) ∧ k.a = f 2 1 ∧ k.b = f 3 1 ∧ (f 4 1 ≤ 3 → k.cls.code = f 4 1) ∧
      (f 5 1 ≤ 1 → k.severity.code = f 5 1) ∧ (f 6 1 ≤ 1 → k.policy.code = f 6 1)
  /-- Section 9. -/
  timers :
    let k := c.timers
    k.minPitch = m.num 33 0 2 ∧ k.stopTime = m.num 33 2 2 ∧ k.nominalPeriod = m.num 33 4 8 ∧ k.pathDelay = m.num 33 12 4 ∧
      k.suspectThreshold = m.num 33 16 1 ∧ ∀ u : Fin 24, k.maintenance.get u = m.num 33 (17 + 2 * u.val) 2
  /-- Section 10. -/
  ring : c.ringSize = m.num 34 0 2

/-- A check of R158, R65 or R173 at entry `entry` of section `part` of the image `m` fails with `code`. A check that relates several
entries or none is reported at an entry that is left open (log 16), one that relates gates 0 and 1 at gate 1 (log 52), a unit that
stands twice in the fill order at its second place and a window of the wrong kind at its unit (log 34). `Config.checksUnused` says
whether a section's range checks reach fields that another rule leaves without meaning (log 15); the CONSISTENCY checks pass over
absent gates and cameras and unused fill positions (log 55). -/
def Image.Fails (m : Image) (part entry : Nat) (code : LoadCode) : Prop :=
  let c := Image.config m
  let one : {α : Type} → (α → Prop) → Prop := fun p => ∃ x, p x ∧ ∀ y, p y → y = x
  let holds : WindowKind → Fin 24 → Fin 32 → Prop := fun kind u i =>
    (c.windows.get i).kind = kind ∧ (c.windows.get i).unit = u.val
  let isKind : Nat → UnitKind → Prop := fun no kind => ∃ u : Fin 24, u.val = no ∧ c.kindOf u = kind
  let count : UnitKind → Nat := fun kind => ((List.finRange 24).filter fun u => decide (c.kindOf u = kind)).length
  match part, code with
  | 0, .version => entry = 0 ∧ m.num 0 8 4 ≠ 1
  | 0, .range => entry = 0 ∧ 3 < m.num 0 0 1
  | 1, .range => ∃ i : Fin 32, entry = i.val ∧
      let w := c.windows.get i
      9 < m.num (1 + i.val / 8) (16 * (i.val % 8)) 1 ∨ (∀ e, 7 ≤ e → e ≤ 26 → w.size ≠ 2 ^ e) ∨ w.base % w.size ≠ 0 ∨
        (23 < w.unit ∧
          (w.kind = .command ∨ w.kind = .status ∨ w.kind = .verdict ∨ w.kind = .timeFrame ∨ Config.checksUnused 1 = true))
  | 1, .consistency =>
      (∃ i : Fin 32, entry = i.val ∧
        let w := c.windows.get i
        (w.kind = .switchTable ∧ w.size ≠ 128) ∨ (w.kind = .view ∧ w.size ≠ 4096) ∨ (w.kind = .mailbox ∧ w.size ≠ 512) ∨
          (w.kind = .command ∧ w.size ≠ 128)) ∨
      (entry = Config.refusalEntry .singleWindows % 32 ∧
        ∃ kind, (kind = .mailbox ∨ kind = .view ∨ kind = .notice ∨ kind = .switchTable) ∧
          ¬ one fun i : Fin 32 => (c.windows.get i).kind = kind)
  | 2, .range => ∃ u : Fin 24, entry = u.val ∧
      let k := c.units.get u
      4 < m.num (5 + u.val / 4) (32 * (u.val % 4)) 1 ∨ k.port < 1 ∨ 16 < k.port ∨ (k.kind ≠ .clock ∧ 7 < k.zone) ∨
        (k.kind = .filler ∧
          (k.safeCount < 1 ∨ 8 < k.safeCount ∨ k.statusTimeout < 10 ∨ 1000 < k.statusTimeout ∨ k.staleLimit < 20 ∨
            2000 < k.staleLimit ∨ k.slew < 1 ∨ 1000 < k.slew))
  | 2, .consistency =>
      (∃ u : Fin 24, entry = u.val ∧
        let k := c.units.get u
        (k.kind = .filler ∧ k.vmax < k.vmin) ∨
          ((k.kind = .filler ∨ k.kind = .gate) ∧ ¬ (one (holds .command u) ∧ one (holds .status u))) ∨
          (k.kind = .camera ∧ ¬ one (holds .verdict u)) ∨ (k.kind = .clock ∧ ¬ one (holds .timeFrame u)) ∨
          (∃ i, (holds .command u i ∨ holds .status u i) ∧ k.kind ≠ .filler ∧ k.kind ≠ .gate) ∨
          (∃ i, holds .verdict u i ∧ k.kind ≠ .camera) ∨ (∃ i, holds .timeFrame u i ∧ k.kind ≠ .clock)) ∨
      (entry = Config.refusalEntry .unitCounts % 24 ∧
        (8 < count .filler ∨ 6 < count .camera ∨ 2 < count .gate ∨ 1 < count .clock))
  | 3, .range => ∃ z : Fin 8, entry = z.val ∧ (511 < (c.zones.get z).first ∨ 511 < (c.zones.get z).last) ∧
      ((c.zones.get z).hasSpan = true ∨ Config.checksUnused 3 = true)
  | 3, .consistency => ∃ z : Fin 8, entry = z.val ∧ (c.zones.get z).last < (c.zones.get z).first ∧
      ((c.zones.get z).hasSpan = true ∨ Config.checksUnused 3 = true)
  | 4, .range => ∃ p : Fin 16, entry = p.val + 1 ∧
      let k := c.ports.get p
      1 < m.num 12 (8 * p.val) 1 ∨ k.limit < 1 ∨ 255 < k.limit ∨ k.budget < 16 ∨ 65535 < k.budget ∨ k.silence < 10 ∨
        1000 < k.silence
  | 5, .range => ∃ g : Fin 2, entry = g.val ∧
      let k := c.gates.get g
      (509 < k.distance ∨ k.advance < 1 ∨ 8 < k.advance ∨ k.statusTimeout < 10 ∨ 1000 < k.statusTimeout) ∧
        (k.present = true ∨ Config.checksUnused 5 = true)
  | 5, .consistency =>
      (∃ g : Fin 2, entry = g.val ∧
        let k := c.gates.get g
        k.present = true ∧ (¬ isKind k.unit .gate ∨ k.distance < k.advance + 1)) ∨
      (entry = 1 ∧
        let k := c.gates.get 0
        let l := c.gates.get 1
        l.present = true ∧
          (k.present = false ∨ l.distance ≤ k.distance ∨ l.distance < k.distance + 3 + l.advance)) ∨
      (entry = Config.refusalEntry .gateUnits % 2 ∧
        ∃ u, c.kindOf u = .gate ∧ ¬ one fun g : Fin 2 => (c.gates.get g).present = true ∧ (c.gates.get g).unit = u.val)
  | 6, .range =>
      (entry = Config.refusalEntry .fillCount % 8 ∧ 8 < c.fillCount) ∨
      ∃ i : Fin 8, entry = i.val ∧ 23 < c.fillUnits.get i ∧ (i.val < c.fillCount ∨ Config.checksUnused 6 = true)
  | 6, .consistency => ∃ i : Fin 8, entry = i.val ∧ i.val < c.fillCount ∧
      (¬ isKind (c.fillUnits.get i) .filler ∨ ∃ j, j < i ∧ c.fillUnits.get j = c.fillUnits.get i)
  | 7, .range => ∃ n : Fin 6, entry = n.val ∧
      let k := c.cameras.get n
      (23 < k.unit ∨ 8144 < k.distance ∨ k.halfWindow < 1 ∨ 7 < k.halfWindow ∨ 15 < k.chainFirst ∨ 15 < k.chainLast ∨
          k.chainStep < 1 ∨ 3 < k.chainStep) ∧
        (k.present = true ∨ Config.checksUnused 7 = true)
  | 7, .consistency =>
      (∃ n : Fin 6, entry = n.val ∧
        let k := c.cameras.get n
        let assigned : Fin 2 → Prop := fun g => (c.gates.get g).present = true ∧ (c.gates.get g).cameraSet.getLsbD n.val = true
        k.present = true ∧
          (¬ isKind k.unit .camera ∨ k.chainLast < k.chainFirst ∨ k.snapshotAddr % 256 ≠ 0 ∨ ¬ one assigned ∨
            ∃ g, assigned g ∧ (c.gates.get g).distance < (k.distance + 15) / 16 + (c.gates.get g).advance + 1)) ∨
      (entry = Config.refusalEntry .cameraUnits % 6 ∧
        ∃ u, c.kindOf u = .camera ∧ ∀ n : Fin 6, ¬ ((c.cameras.get n).present = true ∧ (c.cameras.get n).unit = u.val))
  | 8, .range => ∃ t i : Fin 16, entry = 16 * t.val + i.val ∧
      let f := fun off => m.num (17 + t.val) (8 * i.val + off) 1
      15 < f 0 ∨ 5 < f 1 ∨ 3 < f 4 ∨ 1 < f 5 ∨ 1 < f 6
  | 8, .consistency => ∃ t i : Fin 16, entry = 16 * t.val + i.val ∧
      let k := ((Image.bank m).get t).get i
      (k.op = .within ∨ k.op = .outside) ∧ k.b < k.a ∧ k.a ≠ 255 ∧ k.b ≠ 255
  | 9, .range => entry = 0 ∧
      let k := c.timers
      k.minPitch < 5 ∨ 1000 < k.minPitch ∨ k.stopTime < 200 ∨ 10000 < k.stopTime ∨ k.nominalPeriod < 20000000 ∨
        10000000000 < k.nominalPeriod ∨ 1000000 < k.pathDelay ∨ 32 < k.suspectThreshold
  | 9, .consistency => entry = 0 ∧ c.timers.stopTime ≤ c.timers.minPitch
  | 10, .range => entry = 0 ∧ ∀ e, 4 ≤ e → e ≤ 12 → c.ringSize ≠ 2 ^ e
  | 10, .consistency => entry = 0 ∧ ∃ i, (c.windows.get i).kind = .notice ∧ (c.windows.get i).size ≠ c.ringSize * 32
  | _, _ => False

/-- A field that R161 does not replace differs, at entry `entry` of section `part`, between the configuration in force `c` with
CURRENT bank `b` and the configuration `new` with template set `image` (R161, R173). -/
def Differs (c new : HallConfig) (b image : Bank) (part entry : Nat) : Prop :=
  match part with
  | 1 => ∃ i : Fin 32, entry = i.val ∧ new.windows.get i ≠ c.windows.get i
  | 2 => ∃ u : Fin 24, entry = u.val ∧
      { new.units.get u with safeCount := 0, statusTimeout := 0, staleLimit := 0, vmin := 0, vmax := 0, slew := 0 } ≠
        { c.units.get u with safeCount := 0, statusTimeout := 0, staleLimit := 0, vmin := 0, vmax := 0, slew := 0 }
  | 3 => ∃ z : Fin 8, entry = z.val ∧ new.zones.get z ≠ c.zones.get z
  | 5 => ∃ g : Fin 2, entry = g.val ∧ { new.gates.get g with statusTimeout := 0 } ≠ { c.gates.get g with statusTimeout := 0 }
  | 6 => (entry = Config.refusalEntry .fillCountDiffers % 8 ∧ new.fillCount ≠ c.fillCount) ∨
      ∃ i : Fin 8, entry = i.val ∧ new.fillUnits.get i ≠ c.fillUnits.get i
  | 7 => ∃ n : Fin 6, entry = n.val ∧
      { new.cameras.get n with halfWindow := 0, verbose := false } ≠ { c.cameras.get n with halfWindow := 0, verbose := false }
  | 8 => ∃ t i : Fin 16, entry = 16 * t.val + i.val ∧ (image.get t).get i ≠ (b.get t).get i
  | 10 => entry = 0 ∧ new.ringSize ≠ c.ringSize
  | _ => False

/-- `answer` refuses with the first of the checks that fail, by section, then entry, RANGE before CONSISTENCY in an entry (R158,
log 16), and with nothing when none fails. -/
structure RefusesFirst (fails : Nat → Nat → LoadCode → Prop) (answer : Option Refused) : Prop where
  /-- No refusal says that no check fails. -/
  accepts : answer = none ↔ ∀ part entry code, ¬ fails part entry code
  /-- A refusal shows a check that fails. -/
  shows : ∀ r, answer = some r → fails r.part r.entry r.code
  /-- No check that fails comes before it. -/
  first : ∀ r, answer = some r → ∀ part entry code, fails part entry code →
    r.part < part ∨ (r.part = part ∧ (r.entry < entry ∨ (r.entry = entry ∧ (r.code = .consistency → code = .consistency))))

end Sys2Proof.Machine
end

