-- ==== Sys2Proof/Safety.lean ====
section
/-! DEFINITION. What a sound state of the part is: for each block the laws that the spec says its state keeps. Each is a
property of every state, and every step keeps it. -/

namespace Sys2Proof.Machine

/-- The time unit: hall time and fraction in their ranges (1.1), the trim in ±200,000 ppb (R7), at most 16 log entries (R13),
seconds in 32 bits (R15), the 16-bit counts (R3, R11). -/
structure TimeUnit.Sound (t : TimeUnit) : Prop where
  /-- Hall time is a 64-bit count. -/
  hall : t.hall < 2 ^ 64
  /-- The fraction is below 1 ns. -/
  fraction : t.fraction < 1000000000
  /-- The trim is at least −200,000. -/
  trimLow : -200000 ≤ t.trim
  /-- The trim is at most 200,000. -/
  trimHigh : t.trim ≤ 200000
  /-- The pitch log holds at most 16 entries. -/
  log : t.pitchLog.length ≤ 16
  /-- Seconds saturate at 32 bits. -/
  seconds : ∀ u, (t.accounts.get u).seconds < 2 ^ 32
  /-- The rejected-frame count is of 16 bits. -/
  rejected : t.rejected < 2 ^ 16
  /-- The glitch count is of 16 bits. -/
  glitches : t.glitches < 2 ^ 16

/-- Each entry of the pitch log has the bottle index after that of the entry before it and a later hall time (R13). -/
def logOrdered : List Mark → Prop
  | [] => True
  | [_] => True
  | a :: b :: rest => b.bottle = a.bottle + 1 ∧ a.time < b.time ∧ logOrdered (b :: rest)

/-- The pitch log: consecutive indices and strictly increasing hall times (R13), the newest entry that of the bottle before the
next index (R12), and a minimum pitch that is not 0 (11.6). -/
structure State.PitchLogSound (s : State) : Prop where
  /-- The entries. -/
  order : logOrdered s.time.pitchLog
  /-- The newest entry. -/
  newest : ∀ m, s.time.pitchLog.getLast? = some m → m.bottle + 1 = s.time.nextIndex
  /-- The minimum pitch in force. -/
  pitch : ∀ c, s.config = some c → 1 ≤ c.timers.minPitch

/-- The bottle indices are consecutive, serially ascending (R19). -/
def consecutive : List Bottle → Prop
  | [] => True
  | [_] => True
  | a :: b :: rest => b = a + 1 ∧ consecutive (b :: rest)

/-- The tracking queue: consecutive indices, the tail at newest (R19, R43), and the next index after newest (R12). -/
structure State.QueueSound (s : State) : Prop where
  /-- The indices are consecutive. -/
  order : consecutive (s.queue.map Slot.bottle)
  /-- The tail slot is the newest bottle's. -/
  tail : s.queue = [] ∨ s.queue.getLast?.map Slot.bottle = s.time.newest
  /-- The next index follows newest. -/
  next : s.time.newest = none ∨ s.time.newest = some (s.time.nextIndex - 1)

/-- The queue holds at most one slot more than the retention depth (R22), which is at most 511: the farthest gate distance is at most
509 (R19, R65). -/
structure State.QueueBounded (s : State) : Prop where
  /-- The length. -/
  length : ∀ c, s.config = some c → s.queue.length ≤ c.retention + 1
  /-- The retention depth. -/
  depth : ∀ c, s.config = some c → c.retention ≤ 511

/-- A robot record: RELEASED without a cause and without release-confirm, ARMING without a cause and with it (R89), the ring
of at most 32 entries (R78), the forwarded speed at most 1,000 (R100). -/
structure Robot.Sound (r : Robot) : Prop where
  /-- A RELEASED robot has no cause. -/
  released : r.gate = .released → r.causes = 0 ∧ r.confirm = false
  /-- An ARMING robot has no cause and waits for RELEASE. -/
  arming : r.gate = .arming → r.causes = 0 ∧ r.confirm = true
  /-- The attribution ring. -/
  ring : r.ring.length ≤ 32
  /-- The last forwarded speed. -/
  speed : r.lastSpeed ≤ 1000

/-- Every robot record is sound. -/
def State.RobotsSound (s : State) : Prop :=
  ∀ u r, s.robots.get u = some r → r.Sound

/-- While a configuration is in force, a HELD robot has a cause: without one it would have left HELD (R89). -/
def State.HeldForCause (s : State) : Prop :=
  s.config ≠ none → ∀ u r, s.robots.get u = some r → r.gate = .held → r.causes ≠ 0

/-- A zone record: the lock RELEASED in OPEN only (R107), the access timer in REQUESTED and BREAK only (R118), the clearing
window in CLEARING only (R120), an ENTER in flight in REQUESTED only, with nothing pending then (R110). -/
structure Zone.Sound (k : Zone) : Prop where
  /-- The lock output. -/
  lock : k.unlocked = true ↔ k.state = .opened
  /-- The access timer. -/
  access : k.access.isSome = true ↔ (k.state = .requested ∨ k.state = .breakpoint)
  /-- The clearing window. -/
  clearing : k.clearing.isSome = true ↔ k.state = .clearing
  /-- The command in flight. -/
  inFlight : k.inFlight.isSome = true ↔ k.state = .requested
  /-- Nothing is pending while an ENTER is in flight. -/
  pending : k.inFlight.isSome = true → k.pending = none

/-- Every zone record is sound. -/
def State.ZonesSound (s : State) : Prop :=
  ∀ z, (s.zones.get z).Sound

/-- A port record: the silence timer in LISTEN only (7.1), at most 3 history entries (R137), the counts in their widths
(7.1). -/
structure Port.Sound (p : Port) : Prop where
  /-- The silence timer. -/
  silence : p.silence.isSome = true ↔ p.state = .listen
  /-- The LISTEN history. -/
  history : p.history.length ≤ 3
  /-- The up run. -/
  upRun : p.upRun ≤ 2
  /-- Interval violations. -/
  intervalViolations : p.intervalViolations < 2 ^ 8
  /-- Interval words. -/
  intervalWords : p.intervalWords < 2 ^ 16
  /-- The violation count. -/
  violations : p.violations < 2 ^ 8
  /-- The denied count. -/
  denied : p.denied < 2 ^ 16
  /-- The fragment count. -/
  fragments : p.fragments < 2 ^ 16
  /-- The overrun count. -/
  overruns : p.overruns < 2 ^ 16

/-- Every port record is sound. -/
def State.PortsSound (s : State) : Prop :=
  ∀ p, (s.ports.get p).Sound

/-- How many own transactions of requester `r` wait or are outstanding. -/
def Path.ownCount (p : Path) (r : Requester) : Nat :=
  ((p.ownQueue ++ p.ownAtMemory).filter fun o => decide (o.requester = r)).length

/-- No refused transaction is the oldest of its tag: it would have been answered (R144). -/
def Path.Ordered (p : Path) : Prop :=
  ∀ tag f, p.oldest tag = some f → f.treatment ≠ .denied

/-- The own traffic (R152): each requester has at most one transaction presented and unanswered, the loader one exactly
while it is READING, a snapshot one exactly while it is in flight, when the general slot is IN_PROGRESS (R62, R164); the wait
count is 0 to 8, and 0 without a head. Refused transactions wait behind earlier ones of their tag (R144). -/
structure State.OwnSound (s : State) : Prop where
  /-- The loader's read. -/
  config : s.path.ownCount .config = if s.loader.kind.isSome then 1 else 0
  /-- The snapshot's write. -/
  snapshot : s.path.ownCount .snapshot = if s.report.snapshot.isSome then 1 else 0
  /-- The notice write. -/
  notice : s.path.ownCount .notice ≤ 1
  /-- The general slot. -/
  slot : s.report.slot = .inProgress ↔ s.report.snapshot.isSome = true
  /-- The wait count. -/
  wait : s.path.ownWait ≤ 8
  /-- No head, no wait. -/
  idle : s.path.ownQueue = [] → s.path.ownWait = 0
  /-- A refused transaction waits behind an earlier one of its tag (R144). -/
  flights : s.path.Ordered

/-- The notice queue: at most 16 notices, none left over from a step, the 16-bit counts (R166, R168). -/
structure State.NoticesSound (s : State) : Prop where
  /-- The queue. -/
  queue : s.report.notices.length ≤ 16
  /-- Between steps no given notice waits to join. -/
  given : s.given = []
  /-- The dropped count. -/
  dropped : s.report.dropped < 2 ^ 16
  /-- The consumer error count. -/
  errors : s.report.consumerErrors < 2 ^ 16

/-- While the part is UNCONFIGURED it has no robot, no gate, no slot and no line-hold cause, the line is STOPPED with no mark
(R81, R65, R19, R75, R11), and ATTENTION is low with no notice write outstanding (R168). -/
structure State.UnconfiguredSound (s : State) : Prop where
  /-- No robot. -/
  robots : s.config = none → ∀ u, s.robots.get u = none
  /-- No gate. -/
  gates : s.config = none → ∀ g, s.gates.get g = none
  /-- No slot. -/
  queue : s.config = none → s.queue = []
  /-- No cause. -/
  lineHold : s.config = none → s.lineHold = 0
  /-- No mark. -/
  line : s.config = none → s.time.running = false ∧ s.time.newest = none ∧ s.time.pitchLog = []
  /-- ATTENTION is low. -/
  attention : s.config = none → s.attention = false
  /-- No notice write. -/
  notice : s.config = none → s.path.noticeOut = false

/-! ## Causes -/

/-- The causes follow their conditions: each conditional line-hold cause of a gate is in the set exactly while its condition
holds (R67), and the causes of a robot are those whose conditions of R86 hold. -/
structure State.CausesFollow (s : State) : Prop where
  /-- The conditional causes of the gates. -/
  gates : ∀ c g u r, s.config = some c → c.gateUnit g = some u → s.gates.get g = some r →
    ∀ k, k = .port ∨ k = .lost ∨ k = .fault ∨ k = .zone → s.holds g k = s.gateCondition c u r k
  /-- The causes of the robots. -/
  robots : ∀ c u r, s.config = some c → s.robots.get u = some r → r.causes = s.causesOf c u r

/-! ## Statistics -/

/-- No count of the camera has reached its limit (R60). -/
def CameraCounts.belowLimits (k : CameraCounts) : Prop :=
  ∀ n ∈ [k.taken, k.placed, k.unplaced, k.tooOld, k.future, k.stalled, k.ambiguous, k.outOfRange, k.late, k.pass, k.minor,
    k.major, k.double], n < 2 ^ 32 - 1

/-- The sums of R60. -/
structure CameraCounts.Balanced (k : CameraCounts) : Prop where
  /-- Taken is placed and unplaced. -/
  taken : k.taken = k.placed + k.unplaced
  /-- Placed is PASS, MINOR and MAJOR. -/
  placed : k.placed = k.pass + k.minor + k.major
  /-- Unplaced is the five reasons. -/
  unplaced : k.unplaced = k.tooOld + k.future + k.stalled + k.ambiguous + k.outOfRange
  /-- Late is at most placed. -/
  late : k.late ≤ k.placed
  /-- Double is at most placed. -/
  double : k.double ≤ k.placed

/-- The sums hold of a camera's counts while none has reached its limit. -/
def CameraCounts.Sound (k : CameraCounts) : Prop :=
  k.belowLimits → k.Balanced

/-- The sums hold of every camera, and of a snapshot copy (R60). -/
structure State.CountsSound (s : State) : Prop where
  /-- The live statistics. -/
  cameras : ∀ n, (s.grading.cameras.get n).counts.Sound
  /-- The copy of a snapshot in flight. -/
  copy : ∀ k, s.report.snapshot = some k → k.copy.counts.Sound

/-! ## Notices -/

/-- The notice is one that the handing on of a change gives: a conditional line-hold cause (R75) or a robot's change of gate state
(R89). -/
def Notice.handed (n : Notice) : Bool :=
  (decide (n.kind = .lineHold) && decide (n.code < 4)) || decide (n.kind.rule = 89)

/-- `joined` is `given` in an order that R166 allows: the notices of one rule and subject as they were given, and a load's
outcome last (R160). -/
structure JoinsAs (given joined : List Notice) : Prop where
  /-- They are the same notices. -/
  all : joined.Perm given
  /-- Those of one rule and subject keep their order. -/
  order : ∀ rule subject,
    joined.filter (fun n => decide (n.kind.rule = rule) && decide (n.subject = subject)) =
      given.filter (fun n => decide (n.kind.rule = rule) && decide (n.subject = subject))
  /-- A load's outcome comes last. -/
  last : ∃ first, joined = first ++ given.filter (fun n => decide (n.kind = .loadOutcome))

/-- From `s` to `t` the step gives notices, of which those that `p` picks are `own`, in this order. They join the queue as far as
16 places go, and those that find no place are counted; while UNCONFIGURED they are discarded (R166). -/
def State.Notices (s t : State) (p : Notice → Bool) (own : List Notice) : Prop :=
  s.given = [] →
    let room := 16 - s.report.notices.length
    match t.config with
    | none => t.report.notices = s.report.notices ∧ t.report.dropped = s.report.dropped
    | some _ =>
      ∃ given joined, given.filter p = own ∧ JoinsAs given joined ∧
        t.report.notices = s.report.notices ++ joined.take room ∧
        t.report.dropped =
          if joined.length ≤ room then s.report.dropped
          else min 65535 (s.report.dropped + (joined.length - room))

/-- From `s` to `t` the step gives no notices but those of handed-on changes and `own`. -/
def State.Gives (s t : State) (own : List Notice) : Prop :=
  s.Notices t (fun n => !n.handed) own

/-- From `s` to `t` the step gives the notices `own` and no others. -/
def State.GivesOnly (s t : State) (own : List Notice) : Prop :=
  s.Notices t (fun _ => true) own

/-- The notice of a completion of zone `z`: its code, with the zone's state after the event, the origin's sequence and the
autonomous flag in the detail word (R111, 11.4). -/
def State.zoneNotice (s t : State) (z : Fin 8) (e : Completion × Origin) : Notice :=
  { s.note .zoneCompletion with
    subject := z.val, code := e.1.code
    detail := BitVec.ofNat 32
      ((t.zones.get z).state.code + 256 * e.2.seq + if e.2 = .autonomous then 65536 else 0) }

/-- The PORT_STATE notices of the ports that change state from `s` to `t`, with the new state and its reason (R131). -/
def State.portNotices (s t : State) : List Notice :=
  (List.finRange 16).filterMap fun p =>
    if (t.ports.get p).state = (s.ports.get p).state then none
    else
      some { s.note .portState with
        subject := p.val + 1, code := (t.ports.get p).state.code
        detail := BitVec.ofNat 32 (t.ports.get p).reason.code }

/-- LINE_HOLD for the latched causes of gate `g` that the line-hold set gains from `s` to `t`, each with its bottle (R74, R75). -/
def State.latchNotice (s t : State) (g : Fin 2) (k : LineCause) (b : Bottle) : List Notice :=
  if t.holds g k && !s.holds g k then
    [{ s.note .lineHold with subject := g.val, code := k.code, bottle := some b }]
  else []

/-! ## Frames -/

/-- `t` with what the end of a step may change put back as `s` has it: the given notices and the step's number, the notice
queue and the dropped count, the own queue (R166, R167). -/
def State.unsettled (t s : State) : State :=
  { t with
    given := s.given
    freeIndex := s.freeIndex
    report := { t.report with notices := s.report.notices, dropped := s.report.dropped }
    path := { t.path with ownQueue := s.path.ownQueue } }

/-- A robot record without its causes, gate state and release-confirm, which follow other blocks (R86, R89, R90). -/
def Robot.own (r : Robot) : Robot :=
  { r with causes := 0, gate := .held, confirm := false }

/-- `t` with what handing a change on may change put back as `s` has it: the line-hold set and the robots' records, which the
statement then speaks of (R67, R86, R89). -/
def State.unhanded (t s : State) : State :=
  { t.unsettled s with lineHold := s.lineHold, robots := s.robots }

/-- From `s` to `t` no latched line-hold cause comes or goes (R75). -/
def State.LatchedStand (s t : State) : Prop :=
  ∀ g k, k = .missed ∨ k = .mismatch ∨ k = .unconfirmed → t.holds g k = s.holds g k

/-- From `s` to `t` no robot's own record and no latched line-hold cause changes. -/
structure State.Handed (s t : State) : Prop where
  /-- The robots' own records stand. -/
  robots : ∀ u, (t.robots.get u).map Robot.own = (s.robots.get u).map Robot.own
  /-- The latched causes stand. -/
  latched : s.LatchedStand t

/-- From `s` to `t` no own record of a robot but `u` and no latched line-hold cause changes. -/
structure State.HandedBut (s t : State) (u : Fin 24) : Prop where
  /-- The other robots' own records stand. -/
  robots : ∀ v, v ≠ u → (t.robots.get v).map Robot.own = (s.robots.get v).map Robot.own
  /-- The latched causes stand. -/
  latched : s.LatchedStand t

/-- The port, if there is one, goes DOWN from `s` to `t`. -/
def State.wentDown (s t : State) (port : Option (Fin 16)) : Bool :=
  match port with
  | none => false
  | some p => decide ((s.ports.get p).state ≠ .down) && decide ((t.ports.get p).state = .down)

/-- From `s` to `t` the robots, gates and cameras keep their own records, but for the last taken sequence of those whose port
goes DOWN, which is discarded (R48, R66, R82, R140); the latched line-hold causes stand. -/
structure State.SequencesDiscarded (c : HallConfig) (s t : State) : Prop where
  /-- The robots. -/
  robots : ∀ u, (t.robots.get u).map Robot.own =
    (s.robots.get u).map fun r => { r.own with lastSeq := if s.wentDown t (c.portOf u) then none else r.lastSeq }
  /-- The gates. -/
  gates : ∀ g, t.gates.get g =
    (s.gates.get g).map fun r =>
      { r with lastSeq := if s.wentDown t ((c.gateUnit g).bind c.portOf) then none else r.lastSeq }
  /-- The cameras. -/
  cameras : ∀ n, t.grading.cameras.get n =
    { s.grading.cameras.get n with
      lastSeq :=
        if c.hasCamera n && s.wentDown t ((unitNumber (c.cameras.get n).unit).bind c.portOf) then none
        else (s.grading.cameras.get n).lastSeq }
  /-- The latched causes stand. -/
  latched : s.LatchedStand t

/-! ## What zone and mailbox commands leave -/

/-- The tracking queue with every bottle in the span of zone `z` marked disturbed, the first zone staying (R26, R27). -/
def State.spanMarked (s : State) (c : HallConfig) (z : Fin 8) : List Slot :=
  let k := c.zones.get z
  s.queue.map fun q =>
    if k.hasSpan = true ∧ k.first ≤ s.position q.bottle ∧ s.position q.bottle ≤ k.last then
      { q with disturbed := q.disturbed.or (some z) }
    else q

/-- What is pending after an autonomous completion: the completion, or the one pending with its further-events flag set
(R111). -/
def merged (pending : Option PendingCompletion) (code : Completion) : Option PendingCompletion :=
  match pending with
  | none => some { code := code, origin := .autonomous, further := false }
  | some p => some { p with further := true }

/-- A zone record whose slot has received a command of sequence `q` that completed at once (R109, R110, R112). -/
def Zone.answered (k : Zone) (q : Byte) (code : Completion) : Zone :=
  { k with lastSeq := some q, reply := { seq := some q, code := some code, origin := .command q, further := false } }

/-- From `s` to `t`, zone `z` comes to hold the record `k` with these completions, and the tracking queue is `queue`; no other
zone's record changes, nor anything else but what the handing on of the change moves. `s1` is `s` with the path moved on. -/
structure State.ZoneMoved (s s1 t : State) (z : Fin 8) (k : Zone) (queue : List Slot)
    (completions : List (Completion × Origin)) : Prop where
  /-- The zone's record. -/
  zone : t.zones.get z = k
  /-- The other zones stand. -/
  others : ∀ y, y ≠ z → t.zones.get y = s.zones.get y
  /-- The tracking queue. -/
  queue : t.queue = queue
  /-- The robots' own records and the latched causes stand. -/
  handed : s.Handed t
  /-- Each completion has its notice, and no other notice but those of the handed-on change is given (R111). -/
  notices : s.Gives t (completions.map (s.zoneNotice t z))
  /-- Everything else stands. -/
  frame : { t.unhanded s1 with zones := s.zones, queue := s.queue } = s1

/-- Every robot of zone `z` is HELD with cause ZONE (R86, R108). -/
def State.ZoneHolds (t : State) (c : HallConfig) (z : Fin 8) : Prop :=
  ∀ u r, t.robots.get u = some r → c.zoneOf u = some z → r.has .zone = true ∧ r.gate = .held

/-- COMMAND_COMPLETION for the command word `w` (R164, 11.4). -/
def State.commandNotice (s : State) (w : Word) (code : Completion) : Notice :=
  { s.note .commandCompletion with
    subject := 8, code := code.code, detail := BitVec.ofNat 32 (wordCode w + 256 * (wordSeq w).toNat) }

/-- From `s` to `t` the general slot has received the command word `w`, which completed at once with its notice, and the rest of
the report unit stands but for its notices; those but the handed-on ones are `more` and the completion (R164). -/
structure State.GeneralDone (s t : State) (w : Word) (code : Completion) (more : List Notice) : Prop where
  /-- The slot. -/
  slot : { t.report with notices := s.report.notices, dropped := s.report.dropped } =
    { s.report with lastSeq := some (wordSeq w), slot := .complete, reply := some (wordSeq w, code) }
  /-- The notices. -/
  notices : s.Gives t (more ++ [s.commandNotice w code])

/-! ## What an accepted mark does -/

/-- Camera number `n` is held and stands in the camera set of gate `g` (R69). That a bit of the set that names no present camera is
ignored is the model's reading (log 25). -/
def HallConfig.Sees (c : HallConfig) (g : Fin 2) (n : Fin 6) : Prop :=
  (c.cameras.get n).present = true ∧ (c.gates.get g).cameraSet.getLsbD n.val = true

/-- Gate `g` forms its decision on slot `q` at the mark of bottle `k`: it is present, the bottle stands at its decision point,
nothing is formed yet, and gate 1 passes over a bottle that gate 0 ejected (R68). -/
def HallConfig.FormsOn (c : HallConfig) (g : Fin 2) (k : Bottle) (q : Slot) : Prop :=
  (c.gates.get g).present = true ∧
    k - q.bottle = BitVec.ofNat 32 ((c.gates.get g).distance - (c.gates.get g).advance) ∧
    q.decisions.get g = none ∧ ¬ (g = 1 ∧ q.ejected = some 0)

/-- `d` is the decision of gate `g` on slot `q` (R69, R70). -/
structure State.Decides (s : State) (c : HallConfig) (g : Fin 2) (q : Slot) (d : Decision) : Prop where
  /-- The reasons stand in the order of R69. -/
  order : d.reasons.Sublist [.purged, .unfilled, .disturbed, .noVerdict, .major]
  /-- PURGED. -/
  purged : .purged ∈ d.reasons ↔ q.purged = true
  /-- UNFILLED. -/
  unfilled : .unfilled ∈ d.reasons ↔ q.filled = false
  /-- DISTURBED. -/
  disturbed : .disturbed ∈ d.reasons ↔ q.disturbed ≠ none
  /-- NO_VERDICT. -/
  noVerdict : .noVerdict ∈ d.reasons ↔ ∃ n, c.Sees g n ∧ q.verdicts.get n = none
  /-- MAJOR. -/
  major : .major ∈ d.reasons ↔ ∃ n v, c.Sees g n ∧ q.verdicts.get n = some v ∧ v.kept.grade = .major
  /-- UNDELIVERABLE. -/
  undeliverable : d.undeliverable = true ↔ s.available c g = false
  /-- Nothing else is set. -/
  new : d.delivered = false ∧ d.confirmed = none ∧ d.late = 0

/-- What the mark of bottle `k` makes of slot `q` (R28, R68 to R70). -/
structure State.SlotMarked (s : State) (c : HallConfig) (k : Bottle) (q q' : Slot) : Prop where
  /-- All but the disturbed mark and the decisions stands. -/
  own : { q' with disturbed := q.disturbed, decisions := q.decisions } = q
  /-- A mark that is set stays. -/
  kept : q.disturbed ≠ none → q'.disturbed = q.disturbed
  /-- A zone out of RUN marks the bottle that has reached its first position. -/
  disturbed : q'.disturbed ≠ none ↔
    q.disturbed ≠ none ∨
      ∃ z, (c.zones.get z).hasSpan = true ∧ (s.zones.get z).state ≠ .run ∧
        k - q.bottle = BitVec.ofNat 32 (c.zones.get z).first
  /-- The zone recorded is one of those that mark it (R26). -/
  recorded : q.disturbed = none → ∀ z, q'.disturbed = some z →
    (c.zones.get z).hasSpan = true ∧ (s.zones.get z).state ≠ .run ∧ k - q.bottle = BitVec.ofNat 32 (c.zones.get z).first
  /-- A gate forms its decision. -/
  formed : ∀ g, c.FormsOn g k q → ∃ d, q'.decisions.get g = some d ∧ s.Decides c g q' d
  /-- Else its decision entry stands. -/
  stands : ∀ g, ¬ c.FormsOn g k q → q'.decisions.get g = q.decisions.get g

/-- The slots after the mark of the bottle in `joining`, before anything is marked on them: the head slot has left if it has
passed the retention depth, and `joining` is the tail (R21, R22). -/
def State.slotsAfter (s : State) (c : HallConfig) (joining : Slot) : List Slot :=
  (if c.retention < s.queue.length then s.queue.tail else s.queue) ++ [joining]

/-- Slot `q` has an unconfirmed decision at gate `g`. -/
def Slot.Waits (q : Slot) (g : Fin 2) (d : Decision) : Prop :=
  q.decisions.get g = some d ∧ d.confirmed = none

/-- The attribution of slot `q` at the last gate `g` counts a fill defect: the primary reason of the decision used is MAJOR, and
a camera of that decision's gate has a MAJOR verdict of class FILL (R78). -/
def HallConfig.FillDefect (c : HallConfig) (g : Fin 2) (q : Slot) : Prop :=
  let y := if g = 1 ∧ q.ejected = some 0 then 0 else g
  ∃ d, q.decisions.get y = some d ∧ d.reasons.head? = some .major ∧
    ∃ n v, c.Sees y n ∧ q.verdicts.get n = some v ∧ v.kept.grade = .major ∧ v.kept.cls = .fill

/-- The mark of bottle `k` feeds the attribution ring of robot `u` for slot `q`, at the last gate `g` (R78). -/
def HallConfig.Feeds (c : HallConfig) (g : Fin 2) (k : Bottle) (q : Slot) (u : Fin 24) : Prop :=
  c.lastGate = some g ∧ q.filled = true ∧ q.filler = some u ∧
    k - q.bottle = BitVec.ofNat 32 ((c.gates.get g).distance - (c.gates.get g).advance)

/-- The notices of the mark of bottle `k` itself: LINE_RUNNING of a line that stood (R12), CHANGEOVER_APPLIED (R57), LINE_HOLD of
the checks (R74, R75), ROBOT_SUSPECT (R79). -/
def State.markNotices (s t : State) (c : HallConfig) (k : Bottle) : List Notice :=
  (if s.time.running then [] else [{ s.note .lineRunning with bottle := some k }]) ++
    (if s.grading.staging.isSome then
      [{ s.note .changeoverApplied with bottle := some k, detail := if t.grading.generation then 1 else 0 }]
    else []) ++
    (List.finRange 2).flatMap (fun g =>
      s.latchNotice t g .missed (k - BitVec.ofNat 32 (c.gates.get g).distance) ++
        s.latchNotice t g .unconfirmed (k - BitVec.ofNat 32 ((c.gates.get g).distance + 2))) ++
    (List.finRange 24).filterMap fun u =>
      match s.robots.get u, t.robots.get u, c.lastGate with
      | some r, some r', some g =>
        if r'.suspect && !r.suspect then
          some { s.note .robotSuspect with
            subject := u.val, detail := BitVec.ofNat 32 (r'.ring.count true)
            bottle := some (k - BitVec.ofNat 32 ((c.gates.get g).distance - (c.gates.get g).advance)) }
        else none
      | _, _, _ => none

/-- What an accepted mark of bottle `k` does past the numbering and the changeover: slots, decisions, checks, rings, and what
follows them (R21, R26, R28, R68 to R70, R74, R78, R79). -/
structure State.MarkTaken (s t : State) (c : HallConfig) (k : Bottle) (joining : Slot) : Prop where
  /-- The slots. -/
  slots : List.Forall₂ (s.SlotMarked c k) (s.slotsAfter c joining) t.queue
  /-- A gate that forms no decision keeps its record. -/
  idle : ∀ g, (∀ q ∈ s.slotsAfter c joining, ¬ c.FormsOn g k q) → t.gates.get g = s.gates.get g
  /-- A decision formed is counted by its outcome, and when it is undeliverable. -/
  counted : ∀ g, ∀ q ∈ s.slotsAfter c joining, c.FormsOn g k q →
    ∃ q' ∈ t.queue, q'.bottle = q.bottle ∧ ∃ d, q'.decisions.get g = some d ∧
      t.gates.get g = (s.gates.get g).map fun r =>
        { r with
          passed := if d.reasons = [] then min 4294967295 (r.passed + 1) else r.passed
          rejected := if d.reasons = [] then r.rejected else min 4294967295 (r.rejected + 1)
          undeliverable := if d.undeliverable then min 4294967295 (r.undeliverable + 1) else r.undeliverable }
  /-- The delivery check: the bottle at the gate has a decision that was never delivered (R74). -/
  missed : ∀ g, t.holds g .missed = true ↔ s.holds g .missed = true ∨
    ((c.gates.get g).present = true ∧ ∃ q ∈ t.queue, ∃ d,
      k - q.bottle = BitVec.ofNat 32 (c.gates.get g).distance ∧ q.Waits g d ∧ d.delivered = false)
  /-- The confirmation check: two pitches past the gate the decision is not confirmed (R74). -/
  unconfirmed : ∀ g, t.holds g .unconfirmed = true ↔ s.holds g .unconfirmed = true ∨
    ((c.gates.get g).present = true ∧ ∃ q ∈ t.queue, ∃ d,
      k - q.bottle = BitVec.ofNat 32 ((c.gates.get g).distance + 2) ∧ q.Waits g d)
  /-- No mismatch comes of a mark. -/
  mismatch : ∀ g, t.holds g .mismatch = s.holds g .mismatch
  /-- The ring of a filler gains an entry, and SUSPECT is latched at the threshold. -/
  fed : ∀ g u r, ∀ q ∈ t.queue, c.Feeds g k q u → s.robots.get u = some r →
    ∃ r' e, t.robots.get u = some r' ∧ (e = true ↔ c.FillDefect g q) ∧
      r'.own = { r.own with
        ring := (r.ring ++ [e]).drop (r.ring.length - 31)
        suspect := r.suspect || (decide (c.timers.suspectThreshold ≠ 0) &&
          decide (c.timers.suspectThreshold ≤ r'.ring.count true)) }
  /-- Every other robot's own record stands. -/
  unfed : ∀ u, (∀ g, ∀ q ∈ t.queue, ¬ c.Feeds g k q u) → (t.robots.get u).map Robot.own = (s.robots.get u).map Robot.own
  /-- The causes follow. -/
  follows : t.CausesFollow
  /-- The notices. -/
  notices : s.Gives t (s.markNotices t c k)

/-! ## What the application of a load does -/

/-- The maintenance threshold of unit `u` before the load: 0 while UNCONFIGURED (R18). -/
def State.oldThreshold (s : State) (u : Fin 24) : Nat :=
  match s.config with
  | some c => c.timers.maintenance.get u
  | none => 0

/-- Unit `u` has a new threshold, which its account has already reached (R18). -/
def State.dueAtOnce (s : State) (c : HallConfig) (u : Fin 24) : Bool :=
  let new := c.timers.maintenance.get u
  decide (new ≠ s.oldThreshold u) && decide (new ≠ 0) && decide (new * 3600 ≤ (s.time.accounts.get u).seconds)

/-- From `s` to `t` the due flags of the units whose threshold changes are tested anew, and the accounts stand else (R18). -/
def State.AccountsRetested (s t : State) (c : HallConfig) : Prop :=
  ∀ u, t.time.accounts.get u =
    if c.timers.maintenance.get u = s.oldThreshold u then s.time.accounts.get u
    else { s.time.accounts.get u with due := s.dueAtOnce c u }

/-- MAINT_DUE of the units found due at the application (R18). -/
def State.dueNotices (s : State) (c : HallConfig) : List Notice :=
  (List.finRange 24).filterMap fun u =>
    if s.dueAtOnce c u then
      some { s.note .maintDue with subject := u.val, detail := detailNat (s.time.accounts.get u).seconds }
    else none

/-- LOAD_OUTCOME with this outcome (R163, 11.4). -/
def State.outcomeNotice (s : State) (o : LoadOutcome) : Notice :=
  { s.note .loadOutcome with
    code := o.code.code, detail := BitVec.ofNat 32 (o.kind + 256 * o.part + 65536 * o.entry) }

/-- The completion notices of the ENTERs in flight, ABNORMAL-CANCELLED (R105). That they show their zones in START is the model's
reading (log 35). -/
def State.cancelledNotices (s : State) : List Notice :=
  (List.finRange 8).filterMap fun z =>
    (s.zones.get z).inFlight.map fun q =>
      { s.note .zoneCompletion with
        subject := z.val, code := Completion.abnormalCancelled.code, detail := BitVec.ofNat 32 (256 * q.toNat) }

/-- From `s` to `t` a FULL load is applied: the configuration is `c` with template set `b`, and every block is initialised but for
what R160 keeps: the hall clock with fraction, trim and pending correction, the accounts, the snapshot in flight and its
sequence, the notice queue and its counts, the guard levels. -/
structure State.FullApplied (s t : State) (c : HallConfig) (b : Bank) : Prop where
  /-- The configuration in force. -/
  config : t.config = some c
  /-- The time unit (R10, R13, R14). -/
  time : { t.time with accounts := s.time.accounts } =
    { s.time with
      clock := .none, lastSeq := none, rejected := 0, holdoverStart := none, nextIndex := 0, newest := none,
      pitchLog := [], running := false, stopStart := none, glitches := 0 }
  /-- The accounts (R18). -/
  accounts : s.AccountsRetested t c
  /-- The tracking queue (R23). -/
  queue : t.queue = []
  /-- The grading unit (R48, R49, R59). -/
  grading : t.grading =
    { current := b, previous := b, staging := none, generation := false, changeover := none,
      cameras := Table.replicate 6 { lastSeq := none, counts := CameraCounts.zero } }
  /-- The gate records (R65). -/
  gates : ∀ g, t.gates.get g =
    if (c.gates.get g).present then
      some { accepted := .offline, lastSeq := none, lastReport := none, faultCode := 0, statusStart := none, passed := 0,
             rejected := 0, undeliverable := 0, staleStatus := 0, unmatched := 0 }
    else none
  /-- The line-hold set: of each gate, OFFLINE behind a DOWN port in a zone in START, the causes that hold (R67, R75). -/
  lineHold : ∀ g k, t.holds g k = true ↔ c.gateUnit g ≠ none ∧ (k = .port ∨ k = .lost ∨ k = .zone)
  /-- The robot records (R81). -/
  robots : ∀ u, t.robots.get u =
    if c.kindOf u = .filler then
      some { accepted := .offline, safeRun := 0, lastSeq := none, statusStart := none, faultCode := 0,
             causes := causeBit .zone ||| causeBit .port ||| causeBit .lost ||| causeBit .stale |||
               (if t.lineHold = 0 then 0 else causeBit .line),
             gate := .held, confirm := true, cmdSeq := none, seqTime := none, lastVolume := none, lastSpeed := 0,
             lastForward := none, staleStatus := 0, modeErrors := 0, ring := [], suspect := false }
    else none
  /-- The zone records (R105). -/
  zones : ∀ z, t.zones.get z =
    { state := .start, unlocked := false, hasRun := false, forcedCause := none, forcedCount := 0, afterForced := false,
      access := none, extended := false, safeReached := [], clearing := none, lastSeq := none, inFlight := none,
      pending := none, reply := { seq := none, code := none, origin := .none, further := false } }
  /-- The port records (R127). -/
  ports : ∀ p, t.ports.get p =
    { state := .down, reason := .load, linkUp := false, upRun := 0, speed := 0, rxErrors := 0, intervalViolations := 0,
      intervalWords := 0, wouldQuarantine := false, silence := none, history := [], violations := 0, denied := 0,
      fragments := 0, overruns := 0 }
  /-- The switch-table state (R127). -/
  table : t.table = { s.table with timer := some s.time.localTime, stale := false, fragments := 0 }
  /-- The path controller (R153). -/
  path : { t.path with ownQueue := s.path.ownQueue, ownAtMemory := s.path.ownAtMemory } = { s.path with otherDenied := 0 }
  /-- The report unit (R169). -/
  report : { t.report with notices := s.report.notices, dropped := s.report.dropped } =
    { s.report with
      lastSeq := none
      slot := if s.report.snapshot = none then .idle else .inProgress
      reply := if s.report.snapshot = none then none else s.report.reply
      producer := 0
      consumer := 0 }
  /-- The pins and the straps. -/
  pins : t.guards = s.guards ∧ t.cfgBase = s.cfgBase ∧ t.observeAll = s.observeAll
  /-- The notices: CLOCK_NONE of a clock that was not NONE (R10), with the old or the new clock unit (log 12), LINE_STOPPED of a
  running line (R14), the completions (R105), MAINT_DUE (R18), and last the outcome (R160, R163). -/
  notices : ∃ unit, (unit = s.config.bind HallConfig.clockUnit ∨ unit = c.clockUnit) ∧
    s.Gives t
      ((if s.time.clock = .none then [] else [{ s.note .clockNone with subject := (unit.map Fin.val).getD 0 }]) ++
        (if s.time.running then [{ s.note .lineStopped with bottle := s.time.newest }] else []) ++ s.cancelledNotices ++
        s.dueNotices c ++ [s.outcomeNotice { code := .applied, kind := 1, part := 0, entry := 0 }])

/-- The status timer of robot `u` with record `r` already stands at the changed timeout of a PARAMETER load (R84). -/
def State.Late (s : State) (old new : HallConfig) (u : Fin 24) (r : Robot) : Prop :=
  s.robots.get u = some r ∧ (old.units.get u).statusTimeout ≠ (new.units.get u).statusTimeout ∧
    ∃ b, r.statusStart = some b ∧ b + (new.units.get u).statusTimeout * 1000000 ≤ s.time.localTime

/-- Zone `z`, in REQUESTED or BREAK, loses a member robot that has reached SAFE (R116, R117, log 48). -/
def State.ZoneLoses (s : State) (old new : HallConfig) (z : Fin 8) : Prop :=
  ∃ u r, s.Late old new u r ∧ new.zoneOf u = some z ∧ r.accepted = .safe ∧
    ((s.zones.get z).state = .breakpoint ∨ ((s.zones.get z).state = .requested ∧ u ∈ (s.zones.get z).safeReached))

/-- A zone record that falls to HELD because a robot left SAFE (R117). -/
def Zone.heldBy (k : Zone) : Zone :=
  { k with
    state := .held, unlocked := false, afterForced := false, access := none, clearing := none, inFlight := none
    pending :=
      match k.inFlight with
      | some q => some { code := .abnormalChanged, origin := .command q, further := false }
      | none => merged k.pending .abnormalChanged }

/-- From `s` to `t` a PARAMETER load is applied: the configuration `new` is in force in place of `old`, the timers and counts that
R161 names are tested anew, and live records, counts, queues and states stand. -/
structure State.ParameterApplied (s t : State) (old new : HallConfig) : Prop where
  /-- The configuration in force. -/
  config : t.config = some new
  /-- The due flags (R18). -/
  accounts : s.AccountsRetested t new
  /-- A changed stop time that has run out stops the line (R14). -/
  stops : old.timers.stopTime ≠ new.timers.stopTime → s.time.running = true →
    (∃ b, s.time.stopStart = some b ∧ b + new.timers.stopTime * 1000000 ≤ s.time.localTime) →
    { t.time with accounts := s.time.accounts } = { s.time with running := false, stopStart := none }
  /-- Else the time unit stands. -/
  runs : (old.timers.stopTime = new.timers.stopTime ∨ s.time.running = false ∨
      ∀ b, s.time.stopStart = some b → s.time.localTime < b + new.timers.stopTime * 1000000) →
    { t.time with accounts := s.time.accounts } = s.time
  /-- A gate whose changed status timeout has run out is LOST, any other stands (R66). -/
  gates : ∀ g, t.gates.get g = (s.gates.get g).map fun r =>
    match r.statusStart with
    | some b =>
      if (old.gates.get g).statusTimeout ≠ (new.gates.get g).statusTimeout ∧
          b + (new.gates.get g).statusTimeout * 1000000 ≤ s.time.localTime then
        { r with accepted := .lost, statusStart := none }
      else r
    | none => r
  /-- No robot comes or goes. -/
  present : ∀ u, (t.robots.get u).isSome = (s.robots.get u).isSome
  /-- A robot whose changed status timeout has run out is LOST and held, with release-confirm set (R84, R90); the suspect latch is
  set at the new threshold (R79). -/
  lost : ∀ u r, s.Late old new u r → ∃ r', t.robots.get u = some r' ∧ r'.gate = .held ∧ r'.confirm = true ∧
    r'.own = { r.own with
      accepted := .lost, safeRun := 0, statusStart := none
      suspect := r.suspect || (decide (new.timers.suspectThreshold ≠ 0) &&
        decide (new.timers.suspectThreshold ≤ r.ring.count true)) }
  /-- Any other robot's own record stands but for the suspect latch. -/
  robots : ∀ u r, s.robots.get u = some r → ¬ s.Late old new u r → ∃ r', t.robots.get u = some r' ∧
    r'.own = { r.own with
      suspect := r.suspect || (decide (new.timers.suspectThreshold ≠ 0) &&
        decide (new.timers.suspectThreshold ≤ r.ring.count true)) }
  /-- The causes follow. -/
  follows : t.CausesFollow
  /-- No latched cause comes or goes. -/
  latched : s.LatchedStand t
  /-- A port in LISTEN that has been silent for the loaded silence time returns to ACTIVE, any other stands (R127, R136). -/
  ports : ∀ p, t.ports.get p =
    match (s.ports.get p).silence with
    | some b =>
      if (s.ports.get p).state = .listen ∧ b + (new.ports.get p).silence * 1000000 ≤ s.time.localTime then
        { s.ports.get p with
          state := .active, reason := .silence, silence := none, intervalViolations := 0, intervalWords := 0,
          wouldQuarantine := false }
      else s.ports.get p
    | none => s.ports.get p
  /-- A zone that loses a robot falls to HELD (log 48). -/
  held : ∀ z, s.ZoneLoses old new z → ((s.zones.get z).state = .requested ↔ (s.zones.get z).inFlight ≠ none) →
    t.zones.get z = (s.zones.get z).heldBy ∧
      s.Notices t (fun n => decide (n.kind = .zoneCompletion) && decide (n.subject = z.val))
        [s.zoneNotice t z (.abnormalChanged,
          match (s.zones.get z).inFlight with
          | some q => .command q
          | none => .autonomous)]
  /-- Any other zone stands (R105, R161). -/
  zones : ∀ z, ¬ s.ZoneLoses old new z → t.zones.get z = s.zones.get z ∧
    s.Notices t (fun n => decide (n.kind = .zoneCompletion) && decide (n.subject = z.val)) []
  /-- Everything else stands. -/
  frame :
    { t.unhanded s with
      config := s.config, time := s.time, gates := s.gates, zones := s.zones, ports := s.ports, loader := s.loader
      path := s.path } = s
  /-- The other notices, the outcome last (R18, R14, R85, R79, R131, R163). -/
  notices : s.Notices t (fun n => !n.handed && decide (n.kind ≠ .zoneCompletion))
    (s.dueNotices new ++
      (if s.time.running && !t.time.running then [{ s.note .lineStopped with bottle := s.time.newest }] else []) ++
      ((List.finRange 24).filterMap fun u =>
        match s.robots.get u, t.robots.get u with
        | some r, some r' =>
          if r'.accepted = .lost ∧ r.accepted ≠ .lost then
            some { s.note .robotLost with subject := u.val, detail := BitVec.ofNat 32 r.accepted.code }
          else none
        | _, _ => none) ++
      ((List.finRange 24).filterMap fun u =>
        match s.robots.get u, t.robots.get u with
        | some r, some r' =>
          if r'.suspect && !r.suspect then
            some { s.note .robotSuspect with subject := u.val, detail := detailNat (r'.ring.count true) }
          else none
        | _, _ => none) ++
      s.portNotices t ++ [s.outcomeNotice { code := .applied, kind := 2, part := 0, entry := 0 }])

end Sys2Proof.Machine
end

