-- ==== Sys2Proof/Certificates/Slice0/Obligations.lean ====
section
/-! DEFINITION. The statements for the provers. A command that takes a record of a transaction (R148, R149) speaks of the state
`s1` in which `State.take` has moved the path on; `State.unsettled` and `State.unhanded` (Safety.lean) put back what the end of
a step and the handing on of a change may move, so that one equation is the whole frame. -/

open Sys2Proof Sys2Proof.Machine

/-! ## The machine -/

/-- A step runs the command at the front of the queue on the state with the queue's rest; on an empty queue the part idles
(the model's choice, log 1). -/
def Obligations.StepRunsFrontCommand : Prop :=
  ∀ (c : Instr) (rest : List Instr) (s : State),
    (s.pending = c :: rest → step s = exec c { s with pending := rest }) ∧ (s.pending = [] → step s = .next s)

/-- Every command answers a next state and leaves the queue of commands alone. That no command stops the part (log 38), and that
one whose event cannot come about leaves the state as it is (log 2), is the model's choice; the queue is its own (log 1). -/
def Obligations.CommandsCompleteAndLeaveQueue : Prop :=
  ∀ (c : Instr) (s : State), ∃ t, exec c s = .next t ∧ t.pending = s.pending

/-- The state after reset is sound in every block. -/
def Obligations.ResetIsSound : Prop :=
  State.reset.time.Sound ∧ State.reset.PitchLogSound ∧ State.reset.QueueSound ∧ State.reset.QueueBounded ∧
    State.reset.RobotsSound ∧ State.reset.HeldForCause ∧ State.reset.ZonesSound ∧ State.reset.PortsSound ∧
    State.reset.OwnSound ∧ State.reset.NoticesSound ∧ State.reset.UnconfiguredSound ∧ State.reset.CausesFollow ∧
    State.reset.CountsSound

/-! ## What every step keeps -/

/-- Hall time, fraction, trim, pitch log, accounts and counts stay in their ranges; and the entries of the pitch log keep
consecutive indices and strictly increasing hall times (R13). -/
def Obligations.StepKeepsTimeSound : Prop :=
  ∀ s t : State, step s = .next t → (s.time.Sound → t.time.Sound) ∧ (s.PitchLogSound → t.PitchLogSound)

/-- The tracking queue stays consecutive with its tail at newest (R19, R12), and within the retention depth and one slot more, which
are at most 512 slots (R19, R22). -/
def Obligations.StepKeepsQueueSound : Prop :=
  ∀ s t : State, s.QueueSound → step s = .next t →
    t.QueueSound ∧ (s.QueueBounded → t.QueueBounded ∧ (t.config ≠ none → t.queue.length ≤ 512))

/-- A robot with a cause is never RELEASED or ARMING, and release-confirm is as R89 says; while a configuration is in force a robot
without a cause is never HELD (R89). -/
def Obligations.StepKeepsRobotsSound : Prop :=
  ∀ s t : State, step s = .next t → (s.RobotsSound → t.RobotsSound) ∧ (s.HeldForCause → t.HeldForCause)

/-- Locks, timers and the ENTER in flight stay with the zone states they belong to (R107, R110, R118, R120). -/
def Obligations.StepKeepsZonesSound : Prop :=
  ∀ s t : State, s.ZonesSound → step s = .next t → t.ZonesSound

/-- The silence timer stays with LISTEN; histories and counts stay in their ranges (7.1, R137). -/
def Obligations.StepKeepsPortsSound : Prop :=
  ∀ s t : State, s.PortsSound → step s = .next t → t.PortsSound

/-- Each own requester keeps at most one transaction presented (R152). -/
def Obligations.StepKeepsOwnSound : Prop :=
  ∀ s t : State, s.OwnSound → step s = .next t → t.OwnSound

/-- The notice queue stays within 16 (R166), and no step leaves a notice waiting that could be presented: with the ring having
room and no notice write outstanding (R167). -/
def Obligations.StepKeepsNoticesSound : Prop :=
  ∀ s t : State, step s = .next t →
    (s.NoticesSound → t.NoticesSound) ∧ (s.noticeToPresent = none → t.noticeToPresent = none)

/-- While UNCONFIGURED the part stays without robots, gates, slots, causes and marks, with ATTENTION low. -/
def Obligations.StepKeepsUnconfiguredSound : Prop :=
  ∀ s t : State, s.UnconfiguredSound → step s = .next t → t.UnconfiguredSound

/-- The line-hold causes and the robots' causes follow their conditions at every step (R67, R86). -/
def Obligations.StepKeepsCausesFollow : Prop :=
  ∀ s t : State, s.CausesFollow → step s = .next t → t.CausesFollow

/-- The sums of R60 hold at every instant, of the live statistics and of a snapshot copy. -/
def Obligations.StepKeepsCountsSound : Prop :=
  ∀ s t : State, s.CountsSound → step s = .next t → t.CountsSound

/-! ## Time and pitch -/

/-- RESET_N: every block at its reset value, the 32 windows UNUSED, CFG_BASE sampled, the guard filters at OPEN and starting anew
at local time 0 (R153, R106). That the guard pins, OBSERVE_ALL and the queue of commands stand is the model's choice (log 8), as
are the reset values of the records that a first FULL load brings about (log 18) and of the previous arrival stamp (log 19). -/
def Obligations.ResetNResets : Prop :=
  ∀ (straps : BitVec 4) (s : State), ∃ t, exec (.resetN straps) s = .next t ∧
    t.cfgBase = straps ∧ t.pending = s.pending ∧ t.observeAll = s.observeAll ∧
    (∀ z, t.guards.get z = { raw := (s.guards.get z).raw, since := 0, level := true }) ∧
    (∀ i, (t.windowTable.get i).kind = .unused) ∧
    { t with
      cfgBase := 0, pending := [], freeIndex := 0, observeAll := false, guards := State.reset.guards } = State.reset

/-- REFERENCE_PERIOD: 8 ns of local time; hall time and fraction together advance by 8 × (1 + f / 10^9) ns (R1); local time counts
toward the next move of p while p is not 0 (R2); the account of a unit that is productive by the table of R15 gains 8 ns and no
other moves. That no due expiry is forced is the model's choice (log 3). -/
def Obligations.ReferencePeriodAdvances : Prop :=
  ∀ s : State, s.time.fraction < 1000000000 → -200000 ≤ s.time.trim → s.time.trim ≤ 200000 → s.time.hall + 9 < 2 ^ 64 →
    ∃ t, exec .referencePeriod s = .next t ∧
      t.time.localTime = s.time.localTime + 8 ∧ t.time.fraction < 1000000000 ∧
      ((t.time.hall * 1000000000 + t.time.fraction : Nat) : Int) =
        (s.time.hall * 1000000000 + s.time.fraction : Nat) + 8 * (1000000000 + s.time.trim) ∧
      (∀ u, s.productive u = false → t.time.accounts.get u = s.time.accounts.get u) ∧
      (∀ u, s.productive u = true → (s.time.accounts.get u).seconds < 2 ^ 32 - 1 →
        t.time.accounts.get u =
          { s.time.accounts.get u with remainder := (s.time.accounts.get u).remainder + 8 }) ∧
      t.time.slewProgress = (if s.time.correction = 0 then s.time.slewProgress else s.time.slewProgress + 8) ∧
      (∀ c u, s.config = some c →
        let portActive : Prop := ∃ p, c.portOf u = some p ∧ (s.ports.get p).state = .active
        (s.productive u = true ↔
          (c.kindOf u = .filler ∧ ∃ r, s.robots.get u = some r ∧ r.gate = .released ∧ r.accepted = .running) ∨
            (c.kindOf u = .camera ∧ portActive ∧ s.time.running = true) ∨
            (c.kindOf u = .gate ∧ portActive ∧ (∃ z, c.zoneOf u = some z ∧ (s.zones.get z).state = .run) ∧
              s.time.running = true))) ∧
      (s.config = none → ∀ u, s.productive u = false) ∧
      { t.time with
        localTime := s.time.localTime, hall := s.time.hall, fraction := s.time.fraction,
        slewProgress := s.time.slewProgress, accounts := s.time.accounts } = s.time ∧
      { t with time := s.time } = s

/-- SLEW_MOVE, once 20,000 ns have passed with p not 0: one nanosecond passes from p into hall time in the sign of p (R2);
the progress starts again from 0 (the model's choice, log 20). -/
def Obligations.SlewMovesOneNanosecond : Prop :=
  ∀ s : State, s.time.correction ≠ 0 → 20000 ≤ s.time.slewProgress → 1 ≤ s.time.hall → s.time.hall + 1 < 2 ^ 64 →
    ∃ t, exec .slewMove s = .next t ∧
      (t.time.hall : Int) + t.time.correction = s.time.hall + s.time.correction ∧
      t.time.correction.natAbs + 1 = s.time.correction.natAbs ∧ t.time.slewProgress = 0 ∧
      { t.time with
        hall := s.time.hall, correction := s.time.correction, slewProgress := s.time.slewProgress } = s.time ∧
      { t with time := s.time } = s

/-- TIME_FRAME with a frame that passes the three tests: it is taken, and hall time steps or p is set by the offset
(R4 to R9), with CLOCK_STEP or CLOCK_BACKSLEW and, at the entry to LOCKED, CLOCK_LOCKED. The stamp at a step (log 11) and the
rounding of a backslew's offset (log 46) are left open. -/
def Obligations.TimeFrameTaken : Prop :=
  ∀ (tag : Fin 32) (s s1 : State) (c : HallConfig) (u : Fin 24) (f : TimeFrame),
    s.take tag selTimeFrame = some ((u, f), s1) → s.config = some c →
    f.valid = true → seqPasses s.time.lastSeq f.seq = true → f.nanos ≤ 999999999 →
    f.seconds * 1000000000 + f.nanos + c.timers.pathDelay < 2 ^ 64 →
    let o : Int := (f.seconds * 1000000000 + f.nanos + c.timers.pathDelay : Nat) - s.time.hall
    let interval : Int := (s.time.hall : Int) - s.time.previousArrival
    let steps : Prop :=
      if s.time.clock = .none then 0 ≤ o ∨ s.time.running = false
      else 1000000 ≤ o ∨ (o ≤ -1000000 ∧ s.time.running = false)
    ∃ t, exec (.timeFrame tag) s = .next t ∧
      t.time.clock = .locked ∧ t.time.lastSeq = some f.seq ∧ t.time.holdoverStart = some s.time.localTime ∧
      (steps → (t.time.hall : Int) = s.time.hall + o ∧ t.time.correction = 0) ∧
      (¬ steps → t.time.hall = s.time.hall ∧ t.time.correction = o) ∧
      t.time.previousArrival = t.time.hall ∧ t.time.slewProgress = 0 ∧
      (steps ∧ o < 0 → t.time.pitchLog = [] ∧ t.queue = []) ∧
      (¬ (steps ∧ o < 0) → t.time.pitchLog = s.time.pitchLog ∧ t.queue = s.queue) ∧
      t.time.trim =
        (if s.time.clock = .locked ∧ 1000000 ≤ interval then
          max (-200000) (min 200000 (s.time.trim + (o * 250000000).tdiv interval))
        else s.time.trim) ∧
      { t.time with
        clock := s.time.clock, lastSeq := s.time.lastSeq, holdoverStart := s.time.holdoverStart, hall := s.time.hall,
        correction := s.time.correction, previousArrival := s.time.previousArrival,
        slewProgress := s.time.slewProgress, pitchLog := s.time.pitchLog, trim := s.time.trim } = s.time ∧
      (∃ (stamp : Nat) (detail : BitVec 32) (first : List Notice),
        (stamp = s.time.hall ∨ stamp = t.time.hall) ∧
        (detail = detailInt (o.tdiv 1000) ∨ (¬ steps ∧ detail = detailInt (o / 1000))) ∧
        (steps → first = [{ s.note .clockStep with subject := u.val, detail := detail, stamp := stamp }]) ∧
        (¬ steps → s.time.clock = .none ∨ o ≤ -1000000 →
          first = [{ s.note .clockBackslew with detail := detail, stamp := stamp }]) ∧
        (¬ steps → s.time.clock ≠ .none → -1000000 < o → first = []) ∧
        s.GivesOnly t
          (first ++ if s.time.clock = .locked then []
            else [{ s.note .clockLocked with subject := u.val, stamp := stamp }])) ∧
      { t.unsettled s1 with time := s.time, queue := s.queue } = s1

/-- TIME_FRAME with a frame that fails a test: the rejected-frame count alone moves (R3). -/
def Obligations.TimeFrameRejected : Prop :=
  ∀ (tag : Fin 32) (s s1 : State) (c : HallConfig) (u : Fin 24) (f : TimeFrame),
    s.take tag selTimeFrame = some ((u, f), s1) → s.config = some c →
    (f.valid = false ∨ seqPasses s.time.lastSeq f.seq = false ∨ 999999999 < f.nanos ∨
      2 ^ 64 ≤ f.seconds * 1000000000 + f.nanos + c.timers.pathDelay) →
    ∃ t, exec (.timeFrame tag) s = .next t ∧
      t.time = { s.time with rejected := min 65535 (s.time.rejected + 1) } ∧
      s.GivesOnly t [] ∧ { t.unsettled s1 with time := s.time } = s1

/-- HOLDOVER_EXPIRY 8 s after the last taken frame in LOCKED (R9), and STOP_TIMER_EXPIRY once the stop time has passed
(R14), each with its notice (R166). -/
def Obligations.ClockAndStopTimersExpire : Prop :=
  ∀ (s : State) (c : HallConfig), s.config = some c → s.given = [] →
    (∀ b, s.time.clock = .locked → s.time.holdoverStart = some b → b + 8000000000 ≤ s.time.localTime →
      ∃ t, exec .holdoverExpiry s = .next t ∧
        t.time = { s.time with clock := .holdover, lastSeq := none, holdoverStart := none } ∧
        t.report = s.report.join
          { kind := .clockHoldover, subject := (c.clockUnit.map Fin.val).getD 0, code := 0, stamp := s.time.hall,
            bottle := none, detail := 0 } ∧
        { t.unsettled s with time := s.time } = s) ∧
    (∀ b, s.time.running = true → s.time.stopStart = some b →
      b + c.timers.stopTime * 1000000 ≤ s.time.localTime →
      ∃ t, exec .stopTimerExpiry s = .next t ∧
        t.time = { s.time with running := false, stopStart := none } ∧
        t.report = s.report.join
          { kind := .lineStopped, subject := 0, code := 0, stamp := s.time.hall, bottle := s.time.newest, detail := 0 } ∧
        { t.unsettled s with time := s.time } = s)

/-- ACCOUNT_SECOND: a whole second passes from the remainder into seconds (R15), and the due flag is set exactly when seconds
becomes the threshold in seconds, with MAINT_DUE (R16). -/
def Obligations.AccountGainsSecond : Prop :=
  ∀ (u : Fin 24) (s : State) (c : HallConfig), s.config = some c →
    1000000000 ≤ (s.time.accounts.get u).remainder → (s.time.accounts.get u).seconds < 2 ^ 32 - 1 →
    ∃ t, exec (.accountSecond u) s = .next t ∧
      (t.time.accounts.get u).seconds = (s.time.accounts.get u).seconds + 1 ∧
      (t.time.accounts.get u).remainder + 1000000000 = (s.time.accounts.get u).remainder ∧
      ((t.time.accounts.get u).due = true ↔
        (s.time.accounts.get u).due = true ∨
          (c.timers.maintenance.get u ≠ 0 ∧
            (t.time.accounts.get u).seconds = c.timers.maintenance.get u * 3600)) ∧
      s.GivesOnly t
        (if (t.time.accounts.get u).due && !(s.time.accounts.get u).due then
          [{ s.note .maintDue with subject := u.val, detail := BitVec.ofNat 32 (t.time.accounts.get u).seconds }]
        else []) ∧
      (∀ v, v ≠ u → t.time.accounts.get v = s.time.accounts.get v) ∧
      { t.time with accounts := s.time.accounts } = s.time ∧ { t.unsettled s with time := s.time } = s

/-- PITCH_EDGE accepted: the mark is numbered and logged, the line runs (R12), a staged changeover is applied (R57), the bottle
joins the tail of the tracking queue with its filler r(k mod N) (R20, R24), and the head leaves once it has passed the retention
depth (R22). Zones mark disturbed bottles and one that does is recorded (R26, R28); gates form their decisions (R68 to R70) and
check deliveries and confirmations (R74); a ring gains its entry and may latch SUSPECT (R78, R79); with the notices of all these.
That a bit of a gate's camera set that names no present camera is ignored is the model's reading (log 25). -/
def Obligations.PitchMarkAccepted : Prop :=
  ∀ (s : State) (c : HallConfig), s.config = some c →
    (∀ m, s.time.pitchLog.getLast? = some m → m.time + c.timers.minPitch * 1000000 ≤ s.time.hall) →
    s.queue.length + 1 < 2 ^ 31 → s.QueueSound → 1 ≤ c.retention →
    let k := s.time.nextIndex
    ∃ (t : State) (q : Slot), exec .pitchEdge s = .next t ∧
      t.time = { s.time with
        nextIndex := k + 1, newest := some k
        pitchLog := (s.time.pitchLog ++ [Mark.mk k s.time.hall]).drop (s.time.pitchLog.length - 15)
        running := true, stopStart := some s.time.localTime } ∧
      t.grading.cameras = s.grading.cameras ∧ t.grading.staging = none ∧
      (∀ b, s.grading.staging = some b →
        t.grading.current = b ∧ t.grading.previous = s.grading.current ∧
          t.grading.generation = !s.grading.generation ∧ t.grading.changeover = some k) ∧
      (s.grading.staging = none → t.grading = s.grading) ∧
      { q with filler := none, filled := false } =
        { bottle := k, entry := s.time.hall, filler := none, filled := false, generation := t.grading.generation,
          verdicts := Table.replicate 6 none, disturbed := none, purged := false, decisions := Table.replicate 2 none,
          ejected := none } ∧
      (c.fillCount = 0 → q.filler = none) ∧
      (∀ i : Fin 8, (∀ j : Fin 8, j.val < c.fillCount → c.fillUnits.get j < 24) → 0 < c.fillCount → c.fillCount ≤ 8 →
        i.val = k.toNat % c.fillCount → q.filler = unitNumber (c.fillUnits.get i)) ∧
      (q.filled = true ↔
        ∃ u r, q.filler = some u ∧ s.robots.get u = some r ∧ r.gate = .released ∧ r.accepted = .running) ∧
      s.MarkTaken t c k q ∧
      { t.unsettled s with
        time := s.time, queue := s.queue, grading := s.grading, gates := s.gates, robots := s.robots,
        lineHold := s.lineHold } = s

/-- PITCH_EDGE not accepted: ignored while UNCONFIGURED, and a glitch within the minimum pitch, where the glitch count alone
moves (R11). -/
def Obligations.PitchEdgeIgnored : Prop :=
  ∀ s : State,
    (s.config = none → exec .pitchEdge s = .next s) ∧
    (∀ c m, s.config = some c → s.time.pitchLog.getLast? = some m →
      s.time.hall < m.time + c.timers.minPitch * 1000000 →
      ∃ t, exec .pitchEdge s = .next t ∧ t.time = { s.time with glitches := min 65535 (s.time.glitches + 1) } ∧
        { t with time := s.time } = s)

/-! ## Verdicts -/

/-- VERDICT_RECORD: a stale record moves the camera's stale count alone (R45); any other is taken with its gap (R46), placed
(R30 to R36) and counted (R47, R59). An unplaced record leaves the queue (R37). A placed one is graded under the bank its bottle
names (R50) and recorded, the worse verdict of two staying (R38, R39); after the decision of its gate it is late (R40). -/
def Obligations.VerdictRecordHandled : Prop :=
  (∀ (tag : Fin 32) (s s1 : State) (c : HallConfig) (n : Fin 6) (v : VerdictRec),
    s.take tag selVerdict = some ((n, v), s1) → s.config = some c →
    let before := s.grading.cameras.get n
    let k := c.cameras.get n
    let up32 : Nat → Nat := fun x => min 4294967295 (x + 1)
    ∃ t, exec (.verdictRecord tag) s = .next t ∧
      (∀ m, m ≠ n → t.grading.cameras.get m = s.grading.cameras.get m) ∧
      { t.grading with cameras := s.grading.cameras } = s.grading ∧
      (∀ l, before.lastSeq = some l → serialLater v.seq l = false →
        t.grading.cameras.get n = { before with counts := { before.counts with stale := up32 before.counts.stale } } ∧
        s.GivesOnly t [] ∧ { t.unsettled s1 with grading := s.grading } = s1) ∧
      ((∀ l, before.lastSeq = some l → serialLater v.seq l = true) →
        let gap := match before.lastSeq with | some l => (v.seq - l - 1).toNat | none => 0
        let gapNotice := if gap = 0 then [] else
          [{ s.note .verdictGap with subject := k.unit, detail := BitVec.ofNat 32 gap }]
        let after := t.grading.cameras.get n
        let taken := { before.counts with
          taken := up32 before.counts.taken, missed := min 4294967295 (before.counts.missed + gap) }
        after.lastSeq = some v.seq ∧ { t.unsettled s1 with grading := s.grading, queue := s.queue } = s1 ∧
        (∀ why b d, s.place c k v.capture = .unplaced why b d →
          t.queue = s.queue ∧
          after.counts = { taken with
            unplaced := up32 taken.unplaced
            tooOld := if why = .tooOld then up32 taken.tooOld else taken.tooOld
            future := if why = .future then up32 taken.future else taken.future
            stalled := if why = .stalled then up32 taken.stalled else taken.stalled
            ambiguous := if why = .ambiguous then up32 taken.ambiguous else taken.ambiguous
            outOfRange := if why = .outOfRange then up32 taken.outOfRange else taken.outOfRange } ∧
          s.GivesOnly t
            (gapNotice ++ if k.verbose then
              [{ s.note .verdictUnplaced with subject := k.unit, code := why.code, bottle := b, detail := d }]
            else [])) ∧
        (∀ b q, s.place c k v.capture = .on b → s.slotOf b = some q →
          let bank := if q.generation = s.grading.generation then s.grading.current else s.grading.previous
          let r := Bank.gradeOf bank k v
          let first := Bank.template bank k.chainFirst
          let late := match c.cameraGate n with | some g => (q.decisions.get g).isSome | none => false
          (∃ record : Option VerdictEntry → VerdictEntry,
            record none = { kept := r, double := false } ∧
            (∀ e, record (some e) =
              { kept := if e.kept.grade.code < r.grade.code then r else e.kept, double := true }) ∧
            t.queue = s.queue.map fun x =>
              if x.bottle = b then
                { x with
                  verdicts := x.verdicts.set n (some (record (x.verdicts.get n)))
                  decisions := match c.cameraGate n with
                    | some g => x.decisions.modify g (Option.map fun d => { d with late := min 255 (d.late + 1) })
                    | none => x.decisions }
              else x) ∧
          { after.counts with fails := before.counts.fails } = { taken with
            placed := up32 taken.placed
            pass := if r.grade = .pass then up32 taken.pass else taken.pass
            minor := if r.grade = .minor then up32 taken.minor else taken.minor
            major := if r.grade = .major then up32 taken.major else taken.major
            late := if late then up32 taken.late else taken.late
            double := if (q.verdicts.get n).isSome then up32 taken.double else taken.double } ∧
          (∀ i, after.counts.fails.get i =
            if v.imageOk && !(first.get i).met (v.measure (first.get i).byteNo) then
              min 65535 (before.counts.fails.get i + 1)
            else before.counts.fails.get i) ∧
          s.GivesOnly t
            (gapNotice ++ if late then
              [{ s.note .verdictLate with
                 subject := k.unit, code := ((c.cameraGate n).map Fin.val).getD 0, bottle := some b,
                 detail := BitVec.ofNat 32 r.grade.code }]
            else [])))) ∧
  (∀ (s : State) (c : HallConfig) (k : CameraCfg) (T : Nat),
    let log := s.time.pitchLog
    (log = [] → s.place c k T = .unplaced .tooOld none 0) ∧
    (log ≠ [] → s.time.hall + 1000000 < T → s.place c k T = .unplaced .future none 0) ∧
    (T ≤ s.time.hall + 1000000 → (∀ m ∈ log, T < m.time) → s.place c k T = .unplaced .tooOld none 0) ∧
    (∀ older m newer, log = older ++ m :: newer → T ≤ s.time.hall + 1000000 → m.time ≤ T →
      (∀ x ∈ newer, T < x.time) →
      let period : Int :=
        match newer.head?, older.getLast? with
        | some x, _ => x.time - m.time
        | none, some x => m.time - x.time
        | none, none => c.timers.nominalPeriod
      let q : Int := ((T - m.time : Int) * 256) / period
      let seen : Int := m.bottle.toNat * 256 + q - k.distance * 16
      let b : Int := (seen + 128) / 256
      let e : Int := seen - 256 * b
      let near : Prop := -(k.halfWindow * 16 : Int) ≤ e ∧ e ≤ k.halfWindow * 16
      (newer = [] → 512 ≤ q → s.place c k T = .unplaced .stalled none (detailNat q.toNat)) ∧
      (newer ≠ [] ∨ q < 512 →
        (¬ near → 0 ≤ b → b < 4294967296 →
          s.place c k T = .unplaced .ambiguous (some (BitVec.ofInt 32 b)) (detailInt e)) ∧
        (¬ near → b < 0 ∨ 4294967296 ≤ b → s.place c k T = .unplaced .ambiguous none (detailInt e)) ∧
        (near → b < 0 ∨ 4294967296 ≤ b → s.place c k T = .unplaced .outOfRange none 0) ∧
        (∀ i, near → (i.toNat : Int) = b → (∀ x ∈ s.queue, x.bottle ≠ i) →
          s.place c k T = .unplaced .outOfRange (some i) 0) ∧
        (∀ x ∈ s.queue, near → (x.bottle.toNat : Int) = b → s.place c k T = .on x.bottle))))

/-- The result of a template on a record (R52), with the checks met as R51 says: MAJOR with the lowest unmet MAJOR check, MINOR
with the lowest unmet MINOR check when every MAJOR check is met, PASS with class NONE and check 0 when every check is met, as
they are when every check is OFF or masked. A record graded under a bank takes the first result of the camera's chain that is not
MAJOR, else that of its first template (R53), and without a usable image is MAJOR of class IMAGE (R54); the bank is CURRENT for a
bottle of the bank generation in force, else PREVIOUS (R50). -/
def Obligations.TemplateResultRanksChecks : Prop :=
  (∀ (g : Grading) (generation : Bool),
    g.bankFor generation = if generation = g.generation then g.current else g.previous) ∧
  (∀ (b : Bank) (k : CameraCfg) (v : VerdictRec),
    (v.imageOk = false → Bank.gradeOf b k v = { grade := .major, cls := .image, check := 0, template := none }) ∧
    (v.imageOk = true → k.chainFirst ≤ k.chainLast → k.chainLast ≤ 15 → 1 ≤ k.chainStep →
      let member : Fin 16 → Prop := fun no => k.chainFirst ≤ no.val ∧ no.val ≤ k.chainLast ∧
        (no.val - k.chainFirst) % k.chainStep = 0
      let result : Fin 16 → Graded := fun no => Template.result (b.get no) no.val v
      (∀ no, member no → (result no).grade ≠ .major → (∀ j, member j → j < no → (result j).grade = .major) →
        Bank.gradeOf b k v = result no) ∧
      (∀ no : Fin 16, no.val = k.chainFirst → (∀ j, member j → (result j).grade = .major) →
        Bank.gradeOf b k v = result no))) ∧
  ∀ (t : Template) (no : Nat) (v : VerdictRec),
    let met : Fin 16 → Prop := fun i =>
      let k := t.get i
      let m := v.measure k.byteNo
      k.op = .off ∨ k.a = 255 ∨
        if m = 255 then k.policy = .skip
        else
          (k.op = .eq ∧ m = k.a) ∨ (k.op = .le ∧ m ≤ k.a) ∨ (k.op = .ge ∧ k.a ≤ m) ∨
            (k.op = .within ∧ k.a ≤ m ∧ (k.b = 255 ∨ m ≤ k.b)) ∨
            (k.op = .outside ∧ (m < k.a ∨ (k.b ≠ 255 ∧ k.b < m)))
    let r := Template.result t no v
    (∀ i, (t.get i).met (v.measure (t.get i).byteNo) = true ↔ met i) ∧ r.template = some no ∧
    (∀ i, ¬ met i → (t.get i).severity = .major → (∀ j < i, (t.get j).severity = .major → met j) →
      r.grade = .major ∧ r.check = i.val ∧ r.cls = (t.get i).cls) ∧
    (∀ i, (∀ j, (t.get j).severity = .major → met j) → ¬ met i → (∀ j < i, met j) →
      r.grade = .minor ∧ r.check = i.val ∧ r.cls = (t.get i).cls) ∧
    ((∀ j, met j) → r.grade = .pass ∧ r.cls = .none ∧ r.check = 0) ∧
    ((∀ j, (t.get j).op = .off ∨ (t.get j).a = 255) → r.grade = .pass)

/-! ## Robots -/

/-- ROBOT_STATUS_FRAME: a stale frame moves the stale status count alone (R82); a taken one sets the accepted state by the
safe run (R83), with ROBOT_FAULT at the entry to FAULT and at a new fault code in FAULT (R85), and moves the robot's own zone
alone. -/
def Obligations.RobotStatusFrameHandled : Prop :=
  ∀ (tag : Fin 32) (s s1 : State) (c : HallConfig) (u : Fin 24) (f : StatusFrame) (r : Robot),
    s.take tag selRobotStatus = some ((u, f), s1) → s.config = some c → s.robots.get u = some r →
    ∃ t, exec (.robotStatusFrame tag) s = .next t ∧
      (seqPasses r.lastSeq f.seq = false →
        t.robots.get u = some { r with staleStatus := min 65535 (r.staleStatus + 1) } ∧
        (∀ v, v ≠ u → t.robots.get v = s.robots.get v) ∧ s.GivesOnly t [] ∧
          { t.unsettled s1 with robots := s.robots } = s1) ∧
      (seqPasses r.lastSeq f.seq = true →
        (∃ r', t.robots.get u = some r' ∧ r'.causes = t.causesOf c u r' ∧
          { r'.own with accepted := r.accepted, safeRun := r.safeRun } =
            { r.own with lastSeq := some f.seq, statusStart := some s.time.localTime, faultCode := f.faultCode } ∧
          (f.reported ≠ .safe → r'.accepted = f.reported ∧ r'.safeRun = 0) ∧
          (f.reported = .safe → r.accepted = .safe → r'.accepted = .safe ∧ r'.safeRun = r.safeRun) ∧
          (f.reported = .safe → r.accepted ≠ .safe → r.safeRun + 1 < (c.units.get u).safeCount →
            r'.accepted = r.accepted ∧ r'.safeRun = r.safeRun + 1) ∧
          (f.reported = .safe → r.accepted ≠ .safe → (c.units.get u).safeCount ≤ r.safeRun + 1 →
            r'.accepted = .safe ∧ r'.safeRun = 0)) ∧
        s.Notices t (fun n => !n.handed && decide (n.kind ≠ .zoneCompletion))
          (if f.reported = .fault ∧ (r.accepted ≠ .fault ∨ r.faultCode ≠ f.faultCode) then
            [{ s.note .robotFault with subject := u.val, detail := f.faultCode.setWidth 32 }]
          else []) ∧
        s.HandedBut t u ∧
        (∀ z, c.zoneOf u ≠ some z → t.zones.get z = s.zones.get z) ∧
        { t.unhanded s1 with zones := s.zones } = s1)

/-- The zone's test at a status frame of a member robot (R116, R117): the last member to reach SAFE grants a REQUESTED zone,
an earlier one joins the safe-reached set, and a member that leaves SAFE takes REQUESTED or BREAK to HELD; any other change of a
member, and in any other state every change, leaves the zone as it stands; each completion has its notice (R111). -/
def Obligations.RobotStatusTestsZone : Prop :=
  ∀ (tag : Fin 32) (s s1 : State) (c : HallConfig) (u : Fin 24) (f : StatusFrame) (r : Robot) (z : Fin 8),
    s.take tag selRobotStatus = some ((u, f), s1) → s.config = some c → s.robots.get u = some r →
    seqPasses r.lastSeq f.seq = true → c.zoneOf u = some z → c.kindOf u = .filler →
    let k := s.zones.get z
    let reaches : Prop := r.accepted ≠ .safe ∧ f.reported = .safe ∧ (c.units.get u).safeCount ≤ r.safeRun + 1
    let leaves : Prop := r.accepted = .safe ∧ f.reported ≠ .safe
    let reached := (List.finRange 24).filter fun v => decide (v ∈ k.safeReached ∨ v = u)
    let othersReached : Prop := ∀ v, v ≠ u → c.kindOf v = .filler → c.zoneOf v = some z →
      v ∈ k.safeReached ∧ ∃ x, s.robots.get v = some x ∧ x.accepted = .safe
    ∃ t, exec (.robotStatusFrame tag) s = .next t ∧
      let completes : List (Completion × Origin) → Prop := fun l =>
        s.Notices t (fun n => decide (n.kind = .zoneCompletion)) (l.map (s.zoneNotice t z))
      (∀ q, k.state = .requested → k.inFlight = some q → reaches → othersReached →
        completes [(if (c.zones.get z).breakpoint then .normalBreak else .normal, .command q)] ∧
        t.zones.get z =
          if (c.zones.get z).breakpoint then
            { k with
              state := .breakpoint, unlocked := false, clearing := none, safeReached := reached, inFlight := none,
              pending := some { code := .normalBreak, origin := .command q, further := false } }
          else
            { k with
              state := .opened, unlocked := true, access := none, clearing := none, safeReached := reached,
              inFlight := none, pending := some { code := .normal, origin := .command q, further := false } }) ∧
      (k.state = .requested → reaches → ¬ othersReached →
        completes [] ∧ t.zones.get z = { k with safeReached := reached }) ∧
      (∀ q, k.state = .requested → k.inFlight = some q → leaves → u ∈ k.safeReached →
        completes [(.abnormalChanged, .command q)] ∧
        t.zones.get z =
          { k with
            state := .held, unlocked := false, afterForced := false, access := none, clearing := none,
            inFlight := none, pending := some { code := .abnormalChanged, origin := .command q, further := false } }) ∧
      (k.state = .breakpoint → leaves →
        completes [(.abnormalChanged, .autonomous)] ∧
        t.zones.get z =
          { k with
            state := .held, unlocked := false, afterForced := false, access := none, clearing := none,
            pending := merged k.pending .abnormalChanged }) ∧
      (k.state = .requested → ¬ reaches → ¬ (leaves ∧ u ∈ k.safeReached) → completes [] ∧ t.zones.get z = k) ∧
      (k.state = .breakpoint → ¬ leaves → completes [] ∧ t.zones.get z = k) ∧
      (k.state ≠ .requested → k.state ≠ .breakpoint → completes [] ∧ t.zones.get z = k)

/-- ROBOT_STATUS_TIMEOUT and GATE_STATUS_TIMEOUT, once the status timeout has run out: the machine is LOST with its timer
stopped (R84, R66); the robot is HELD with cause LOST and release-confirm set (R86, R89, R90), with ROBOT_LOST at the entry
(R85); a robot that leaves SAFE so takes its zone from REQUESTED or BREAK to HELD (R116, R117). -/
def Obligations.StatusTimeoutsLose : Prop :=
  ∀ (s : State) (c : HallConfig), s.config = some c →
    (∀ u r b, s.robots.get u = some r → r.statusStart = some b →
      b + (c.units.get u).statusTimeout * 1000000 ≤ s.time.localTime →
      ∃ t r', exec (.robotStatusTimeout u) s = .next t ∧ t.robots.get u = some r' ∧
        r'.own = { r.own with accepted := .lost, safeRun := 0, statusStart := none } ∧
        r'.has .lost = true ∧ r'.gate = .held ∧ r'.confirm = true ∧
        s.HandedBut t u ∧
        s.Notices t (fun n => !n.handed && decide (n.kind ≠ .zoneCompletion))
          (if r.accepted = .lost then []
          else [{ s.note .robotLost with subject := u.val, detail := BitVec.ofNat 32 r.accepted.code }]) ∧
        (∀ z, c.zoneOf u = some z →
          let k := s.zones.get z
          let completes : List (Completion × Origin) → Prop := fun l =>
            s.Notices t (fun n => decide (n.kind = .zoneCompletion)) (l.map (s.zoneNotice t z))
          let held := { k with state := .held, unlocked := false, afterForced := false, access := none, clearing := none }
          (∀ q, k.state = .requested → k.inFlight = some q → r.accepted = .safe → u ∈ k.safeReached →
            completes [(.abnormalChanged, .command q)] ∧
            t.zones.get z =
              { held with
                inFlight := none
                pending := some { code := .abnormalChanged, origin := .command q, further := false } }) ∧
          (k.state = .breakpoint → r.accepted = .safe →
            completes [(.abnormalChanged, .autonomous)] ∧
            t.zones.get z = { held with pending := merged k.pending .abnormalChanged }) ∧
          (r.accepted ≠ .safe ∨ (k.state ≠ .requested ∧ k.state ≠ .breakpoint) ∨
              (k.state = .requested ∧ u ∉ k.safeReached) →
            completes [] ∧ t.zones.get z = k)) ∧
        (∀ z, c.zoneOf u ≠ some z → t.zones.get z = s.zones.get z) ∧
        { t.unhanded s with zones := s.zones } = s) ∧
    (∀ g u r b, s.gates.get g = some r → c.gateUnit g = some u → r.statusStart = some b →
      b + (c.gates.get g).statusTimeout * 1000000 ≤ s.time.localTime →
      ∃ t, exec (.gateStatusTimeout g) s = .next t ∧
        t.gates.get g = some { r with accepted := .lost, statusStart := none } ∧
        (∀ h, h ≠ g → t.gates.get h = s.gates.get h) ∧ t.holds g .lost = true ∧ s.Handed t ∧ s.Gives t [] ∧
        { t.unhanded s with gates := s.gates } = s)

/-- SEQUENCE_WRITE: a changing sequence is recorded with hall time and ends STALE; the recorded one again changes nothing
(R93). -/
def Obligations.SequenceWriteRecorded : Prop :=
  ∀ (s s1 : State) (c : HallConfig) (u : Fin 24) (q : Seq) (r : Robot),
    s.take processorTag (selSequence u) = some (q, s1) → s.config = some c → s.robots.get u = some r →
    ∃ t, exec (.sequenceWrite u) s = .next t ∧
      s.Gives t [] ∧ (r.cmdSeq = some q → t.unsettled s1 = s1) ∧
      (r.cmdSeq ≠ some q →
        (∃ r', t.robots.get u = some r' ∧ r'.own = { r.own with cmdSeq := some q, seqTime := some s.time.hall } ∧
          r'.has .stale = false ∧ (r'.causes ≠ 0 → r'.gate = .held)) ∧
        s.HandedBut t u ∧ t.unhanded s1 = s1)

/-- ROBOT_COMMAND_READ of a robot that is not RELEASED, or that the stale test holds (R94): the hold form is returned with
hall time, gate state and causes (R96, R97), and recorded if the read returns the speed word (R101). -/
def Obligations.RobotCommandReadHeld : Prop :=
  ∀ (tag : Fin 32) (data : List Word) (s : State) (c : HallConfig) (w : Window) (x : Txn) (u : Fin 24) (r : Robot),
    s.substituting tag = some (c, w, x) → w.kind = .command → unitNumber w.unit = some u → c.kindOf u = .filler →
    s.robots.get u = some r →
    let k := c.units.get u
    let stale : Prop := ∀ b, r.seqTime = some b → b + k.staleLimit * 1000000 < s.time.hall
    let volume := match r.lastVolume with | some v => clampNat k.vmin k.vmax v | none => k.vmin
    (r.gate ≠ .released ∨ stale) →
    ∃ t r', exec (.robotCommandRead tag data) s = .next t ∧ t.robots.get u = some r' ∧ r'.gate ≠ .released ∧
      (stale → r'.has .stale = true ∧ r'.gate = .held) ∧ (¬ stale → r'.causes = r.causes ∧ r'.gate = r.gate) ∧
      r'.own = { r.own with
        lastVolume := if returnsWord x.length x.lineOffset 8 then some volume else r.lastVolume
        lastSpeed := if returnsWord x.length x.lineOffset 8 then 0 else r.lastSpeed
        lastForward := if returnsWord x.length x.lineOffset 8 then some s.time.hall else r.lastForward } ∧
      { t.path with ownQueue := s.path.ownQueue } = s.path.answer
        { tag := tag, response := .okay
          data := overlay
            [ ⟨4, 1, 1⟩, ⟨5, 1, 0⟩, ⟨8, 2, volume⟩, ⟨10, 2, 0⟩, ⟨16, 8, s.time.hall⟩, ⟨24, 1, r'.gate.code⟩,
              ⟨26, 2, r'.causes.toNat⟩ ] x.lineOffset (fitWords x.length data) } ∧
      s.HandedBut t u ∧ s.Gives t [] ∧
      { t.unhanded s with path := s.path } = s

/-- ROBOT_COMMAND_READ of a RELEASED robot with a fresh sequence: the released form with the processor's mode (R98), the
volume in the envelope (R99), in RUN the speed limited by the slew (R100), and no cause; recorded as R101 says. -/
def Obligations.RobotCommandReadReleased : Prop :=
  ∀ (tag : Fin 32) (data : List Word) (s : State) (c : HallConfig) (w : Window) (x : Txn) (u : Fin 24) (r : Robot)
    (b : Nat),
    s.substituting tag = some (c, w, x) → w.kind = .command → unitNumber w.unit = some u → c.kindOf u = .filler →
    s.robots.get u = some r → r.gate = .released → r.seqTime = some b →
    s.time.hall ≤ b + (c.units.get u).staleLimit * 1000000 →
    let k := c.units.get u
    let ws := fitWords x.length data
    let written := s.writtenFields ws x.lineOffset
    let mode := (RobotMode.ofCode written.mode).getD .hold
    let volume := clampNat k.vmin k.vmax written.volume
    let elapsed := match r.lastForward with | none => 100000000 | some f => min (s.time.hall - f) 100000000
    let limit : Int := (k.slew * elapsed / 1000000 : Nat)
    let unknown : Prop := returnsWord x.length x.lineOffset 0 = true ∧ 3 ≤ written.mode
    ∃ (t : State) (speed : Nat), exec (.robotCommandRead tag data) s = .next t ∧
      (mode = .run →
        (speed : Int) = r.lastSpeed + max (-limit) (min limit ((min written.speed 1000 : Nat) - r.lastSpeed))) ∧
      (mode ≠ .run → speed = 0) ∧
      (∃ r', t.robots.get u = some r' ∧ (unknown → r'.modeErrors = min 65535 (r.modeErrors + 1)) ∧
        (¬ unknown → r'.modeErrors = r.modeErrors) ∧
        { r' with modeErrors := r.modeErrors } = { r with
          lastVolume := if returnsWord x.length x.lineOffset 8 then some volume else r.lastVolume
          lastSpeed := if returnsWord x.length x.lineOffset 8 then speed else r.lastSpeed
          lastForward := if returnsWord x.length x.lineOffset 8 then some s.time.hall else r.lastForward }) ∧
      { t.path with ownQueue := s.path.ownQueue } = s.path.answer
        { tag := tag, response := .okay
          data := overlay
            [ ⟨4, 1, mode.code⟩, ⟨5, 1, if mode = .run then 1 else 0⟩, ⟨8, 2, volume⟩, ⟨10, 2, speed⟩,
              ⟨16, 8, s.time.hall⟩, ⟨24, 1, 2⟩, ⟨26, 2, 0⟩ ] x.lineOffset ws } ∧
      (∀ v, v ≠ u → t.robots.get v = s.robots.get v) ∧ s.GivesOnly t [] ∧
      { t.unsettled s with robots := s.robots, path := s.path } = s

/-- A change handed on sets every robot's causes by the conditions of R86, and its gate state follows (R89, R90), with the notice
of a changed gate state (R89); LINE_HOLD is given for each conditional line-hold cause that comes of it (R75). Which of several
causes added at once ROBOT_HELD shows is left open (log 13). -/
def Obligations.RobotGateFollowsCauses : Prop :=
  ∀ (s : State) (c : HallConfig) (u : Fin 24) (r : Robot), s.config = some c → s.robots.get u = some r →
    ∃ r', s.handOn.robots.get u = some r' ∧
      (r'.has .zone = true ↔ s.zoneStateOf c u ≠ .run) ∧ (r'.has .port = true ↔ s.portStateOf c u ≠ .active) ∧
      (r'.has .lost = true ↔ r.accepted = .lost ∨ r.accepted = .offline) ∧
      (r'.has .fault = true ↔ r.accepted = .fault) ∧ (r'.has .safe = true ↔ r.accepted = .safe) ∧
      (r'.has .stale = true ↔ r.has .stale = true) ∧ (r'.has .suspect = true ↔ r.suspect = true) ∧
      (r'.has .line = true ↔ s.handOn.lineHold ≠ 0) ∧
      (r'.causes ≠ 0 → r'.gate = .held ∧
        (r'.confirm = true ↔ r.confirm = true ∨ (r.has .zone = false ∧ r'.has .zone = true) ∨
          (r.has .lost = false ∧ r'.has .lost = true) ∨ (r.gate ≠ .held ∧ (c.units.get u).alwaysConfirm = true))) ∧
      (r'.causes = 0 → r.gate = .held → r.confirm = true → r'.gate = .arming ∧ r'.confirm = true) ∧
      (r'.causes = 0 → r.gate = .held → r.confirm = false → r'.gate = .released ∧ r'.confirm = false) ∧
      (r'.causes = 0 → r.gate ≠ .held → r'.gate = r.gate ∧ r'.confirm = r.confirm) ∧ r'.own = r.own ∧
      ∃ more, s.handOn.given = s.given ++ more ∧ (∀ n ∈ more, n.handed = true) ∧
        (∀ g : Fin 2, more.filter (fun n => decide (n.kind = .lineHold) && decide (n.subject = g.val)) =
          ([.port, .lost, .fault, .zone] : List LineCause).filterMap fun k =>
            if s.handOn.holds g k && !s.holds g k then
              some { s.note .lineHold with subject := g.val, code := k.code }
            else none) ∧
        ∃ shown : Byte, shown &&& r'.causes = shown ∧ (r'.causes ≠ 0 → shown ≠ 0) ∧
          more.filter (fun n => decide (n.kind ≠ .lineHold) && decide (n.subject = u.val)) =
            if r'.gate = r.gate then []
            else
              match r'.gate with
              | .held => [{ s.note .robotHeld with subject := u.val, detail := shown.setWidth 32 }]
              | .arming => [{ s.note .robotArming with subject := u.val }]
              | .released => [{ s.note .robotReleased with subject := u.val }]

/-- Every byte of a read that the part rewrites: a listed field's byte where one covers it, else memory's; and of a record that the
part writes or answers: a listed field's byte where one covers it, else 0 (R172). -/
def Obligations.OverlayRewritesListedBytes : Prop :=
  ∀ (fs : List Field) (off : Nat),
    let covers (o : Nat) (f : Field) : Bool := decide (f.off ≤ o ∧ o < f.off + f.size)
    let shows (o : Nat) (x : Byte) (other : Byte) : Prop :=
      (∀ f, fs.find? (covers o) = some f → x = BitVec.ofNat 8 (f.value / 256 ^ (o - f.off))) ∧
        ((∀ f ∈ fs, covers o f = false) → x = other)
    (∀ (ws : List Word) (k i : Nat) (w : Word), ws[k]? = some w → i < 8 →
      ∃ x, (overlay fs off ws)[k]? = some x ∧ shows (off + 8 * k + i) (byteOf x i) (byteOf w i)) ∧
    (∀ ws : List Word, (overlay fs off ws).length = ws.length) ∧
    (∀ n k i : Nat, k < n → i < 8 →
      ∃ x, (recordWords fs off n)[k]? = some x ∧ shows (off + 8 * k + i) (byteOf x i) 0) ∧
    (∀ n : Nat, (recordWords fs off n).length = n)

/-! ## Gates -/

/-- GATE_STATUS_FRAME: a stale frame moves the stale status count alone (R66); a taken one sets the accepted state, and a new
report confirms its bottle's decision, latches GATE_MISMATCH with its LINE_HOLD (R75), repeats, or counts as unmatched
(R72, R73). -/
def Obligations.GateStatusFrameHandled : Prop :=
  ∀ (tag : Fin 32) (s s1 : State) (c : HallConfig) (g : Fin 2) (f : StatusFrame) (r : GateRec),
    s.take tag selGateStatus = some ((g, f), s1) → s.config = some c → s.gates.get g = some r →
    let report := some (f.handled, f.handledEjected)
    let new : Prop := f.handledPresent = true ∧ r.lastReport ≠ report
    let decision := (s.slotOf f.handled).bind fun q => q.decisions.get g
    let taken := { r with
      accepted := f.reported, lastSeq := some f.seq, statusStart := some s.time.localTime, faultCode := f.faultCode }
    let confirmed := s.queue.map fun q =>
      if q.bottle = f.handled then
        { q with
          decisions := q.decisions.modify g (Option.map fun d => { d with confirmed := some f.handledEjected })
          ejected := if f.handledEjected then q.ejected.or (some g) else q.ejected }
      else q
    ∃ t, exec (.gateStatusFrame tag) s = .next t ∧ (∀ h, h ≠ g → t.gates.get h = s.gates.get h) ∧
      (seqPasses r.lastSeq f.seq = false →
        t.gates.get g = some { r with staleStatus := min 65535 (r.staleStatus + 1) } ∧
          s.GivesOnly t [] ∧ { t.unsettled s1 with gates := s.gates } = s1) ∧
      (seqPasses r.lastSeq f.seq = true →
        s.Gives t (s.latchNotice t g .mismatch f.handled) ∧
        (∀ u, (t.robots.get u).map Robot.own = (s.robots.get u).map Robot.own) ∧
        (∀ h k, k = .missed ∨ k = .unconfirmed ∨ (k = .mismatch ∧ h ≠ g) → t.holds h k = s.holds h k) ∧
        (¬ new → t.gates.get g = some taken ∧ t.queue = s.queue ∧ t.holds g .mismatch = s.holds g .mismatch) ∧
        (new → decision = none →
          t.gates.get g =
            some { taken with lastReport := report, unmatched := min 65535 (r.unmatched + 1) } ∧
          t.queue = s.queue ∧ t.holds g .mismatch = s.holds g .mismatch) ∧
        (∀ d, new → decision = some d →
          t.gates.get g = some { taken with lastReport := report } ∧
          (d.confirmed = none → f.handledEjected = d.rejects →
            t.queue = confirmed ∧ t.holds g .mismatch = s.holds g .mismatch) ∧
          (d.confirmed = none → f.handledEjected ≠ d.rejects → t.queue = confirmed ∧ t.holds g .mismatch = true) ∧
          (d.confirmed = some f.handledEjected →
            t.queue = s.queue ∧ t.holds g .mismatch = s.holds g .mismatch) ∧
          (d.confirmed = some (!f.handledEjected) → t.queue = confirmed ∧ t.holds g .mismatch = true)) ∧
        { t.unhanded s1 with gates := s.gates, queue := s.queue } = s1)

/-- GATE_COMMAND_READ: the eject list of the 8 oldest outstanding decisions, empty while the gate is unavailable, is returned
with the available flag, the count and hall time, and the listed decisions become delivered (R71). That every listed decision
becomes delivered, whatever part of the frame the read returns, is the model's reading (log 24). The gate is available while its
port is ACTIVE, it is neither LOST, OFFLINE nor in FAULT, and its zone is in RUN (R67). -/
def Obligations.GateCommandReadLists : Prop :=
  ∀ (tag : Fin 32) (data : List Word) (s : State) (c : HallConfig) (w : Window) (x : Txn) (u : Fin 24) (g : Fin 2),
    s.substituting tag = some (c, w, x) → w.kind = .command → unitNumber w.unit = some u → c.gateOfUnit u = some g →
    let waits : Slot → Bool := fun q =>
      match q.decisions.get g with
      | some d => d.confirmed.isNone
      | none => false
    let rejects : Slot → Nat := fun q =>
      match q.decisions.get g with
      | some d => if d.reasons = [] then 0 else 1
      | none => 0
    let listed := if s.available c g then (s.queue.filter waits).take 8 else []
    (s.available c g = true ↔
      ∃ p z r, c.portOf u = some p ∧ (s.ports.get p).state = .active ∧ c.zoneOf u = some z ∧
        (s.zones.get z).state = .run ∧ s.gates.get g = some r ∧
        r.accepted ≠ .lost ∧ r.accepted ≠ .offline ∧ r.accepted ≠ .fault) ∧
    ∃ t, exec (.gateCommandRead tag data) s = .next t ∧ s.GivesOnly t [] ∧
      t.queue = s.queue.map (fun q =>
        if q.bottle ∈ listed.map Slot.bottle then
          { q with decisions := q.decisions.modify g (Option.map fun d => { d with delivered := true }) }
        else q) ∧
      { t.path with ownQueue := s.path.ownQueue } = s.path.answer
        { tag := tag, response := .okay
          data := overlay
            ([⟨4, 1, if s.available c g then 1 else 0⟩, ⟨5, 1, listed.length⟩, ⟨8, 8, s.time.hall⟩] ++
              (List.range 8).flatMap fun i =>
                match listed[i]? with
                | some q => [⟨16 + 8 * i, 4, q.bottle.toNat⟩, ⟨20 + 8 * i, 4, rejects q⟩]
                | none => [⟨16 + 8 * i, 8, 0⟩])
            x.lineOffset (fitWords x.length data) } ∧
      { t.unsettled s with queue := s.queue, path := s.path } = s

/-! ## Zones -/

/-- GUARD_OPEN of a raw level that has stood OPEN for 10 ms over a CLOSED filtered level (R106): START, RUN, REQUESTED, BREAK,
HELD and a CLEARING not after a forced entry are forced (R121), a CLEARING after one returns to FORCED (R122), OPEN and FORCED
stand; a forced or reopened zone's robots wait for RELEASE (R90); while UNCONFIGURED the level changes alone. -/
def Obligations.GuardOpenForcesZone : Prop :=
  ∀ (z : Fin 8) (s : State), (s.guards.get z).raw = true → (s.guards.get z).level = false →
    (s.guards.get z).since + 10000000 ≤ s.time.localTime →
    let k := s.zones.get z
    let lifted := s.guards.modify z fun g => { g with level := true }
    (s.config = none → exec (.guardOpen z) s = .next { s with guards := lifted }) ∧
    (∀ c, s.config = some c →
      ∃ t, exec (.guardOpen z) s = .next t ∧ t.guards = lifted ∧
        (k.state = .opened ∨ k.state = .forced →
          State.ZoneMoved s s { t with guards := s.guards } z k s.queue []) ∧
        (k.state = .clearing → k.afterForced = true →
          State.ZoneMoved s s { t with guards := s.guards } z
            { k with
              state := .forced, unlocked := false, forcedCount := min 255 (k.forcedCount + 1), access := none,
              clearing := none } s.queue [] ∧
          t.ZoneHolds c z ∧
          ∀ u r, c.kindOf u = .filler → c.zoneOf u = some z → t.robots.get u = some r → r.confirm = true) ∧
        (k.state ≠ .opened → k.state ≠ .forced → (k.state = .clearing → k.afterForced = false) →
          State.ZoneMoved s s { t with guards := s.guards } z
            { k with
              state := .forced, unlocked := false, forcedCause := some k.state,
              forcedCount := min 255 (k.forcedCount + 1), afterForced := true, access := none, clearing := none,
              safeReached := [], inFlight := none
              pending :=
                match k.inFlight with
                | some q => some { code := .abnormalGuard, origin := .command q, further := false }
                | none => merged k.pending .abnormalGuard }
            (if k.state = .run then s.spanMarked c z else s.queue)
            [(.abnormalGuard, match k.inFlight with | some q => .command q | none => .autonomous)] ∧
          t.ZoneHolds c z ∧
          ∀ u r, c.kindOf u = .filler → c.zoneOf u = some z → t.robots.get u = some r → r.confirm = true))

/-- GUARD_RAW_CHANGE moves the raw level alone (R106), and GUARD_CLOSED of a raw level that has stood CLOSED for 10 ms over an
OPEN filtered level takes OPEN and FORCED to CLEARING with an autonomous NORMAL-CLEAR (R120, R122). -/
def Obligations.GuardClosedClearsZone : Prop :=
  ∀ (z : Fin 8) (s : State),
    let g := s.guards.get z
    let k := s.zones.get z
    (∀ opened, ∃ t, exec (.guardRawChange z opened) s = .next t ∧ (t.guards.get z).raw = opened ∧
      (t.guards.get z).level = g.level ∧
      (t.guards.get z).since = (if g.raw = opened then g.since else s.time.localTime) ∧
      (∀ y, y ≠ z → t.guards.get y = s.guards.get y) ∧ { t with guards := s.guards } = s) ∧
    (g.raw = false → g.level = true → g.since + 10000000 ≤ s.time.localTime →
      let lowered := s.guards.modify z fun g => { g with level := false }
      (s.config = none → exec (.guardClosed z) s = .next { s with guards := lowered }) ∧
      (∀ c, s.config = some c →
        ∃ t, exec (.guardClosed z) s = .next t ∧ t.guards = lowered ∧
          State.ZoneMoved s s { t with guards := s.guards } z
            (if k.state = .opened ∨ k.state = .forced then
              { k with
                state := .clearing, unlocked := false, access := none, clearing := some s.time.localTime,
                pending := merged k.pending .normalClear }
            else k) s.queue
            (if k.state = .opened ∨ k.state = .forced then [(.normalClear, .autonomous)] else [])))

/-- ACCESS_TIMER_EXPIRY 15 s after the request, 20 s once extended, takes REQUESTED and BREAK to HELD (R115, R118), and
CLEARING_WINDOW_EXPIRY 10 s after CLEARING began takes it to HELD (R120), each completing ABNORMAL-TIMEOUT. -/
def Obligations.ZoneTimersExpire : Prop :=
  ∀ (z : Fin 8) (s : State) (c : HallConfig) (b : Nat), s.config = some c →
    let k := s.zones.get z
    let held := { k with state := .held, unlocked := false, afterForced := false, access := none, clearing := none }
    (k.access = some b → b + (if k.extended then 20000000000 else 15000000000) ≤ s.time.localTime →
      (∀ q, k.state = .requested → k.inFlight = some q →
        ∃ t, exec (.accessTimerExpiry z) s = .next t ∧
          State.ZoneMoved s s t z
            { held with
              inFlight := none, pending := some { code := .abnormalTimeout, origin := .command q, further := false } }
            s.queue [(.abnormalTimeout, .command q)]) ∧
      (k.state = .breakpoint →
        ∃ t, exec (.accessTimerExpiry z) s = .next t ∧
          State.ZoneMoved s s t z { held with pending := merged k.pending .abnormalTimeout } s.queue
            [(.abnormalTimeout, .autonomous)])) ∧
    (k.state = .clearing → k.clearing = some b → b + 10000000000 ≤ s.time.localTime →
      ∃ t, exec (.clearingWindowExpiry z) s = .next t ∧
        State.ZoneMoved s s t z { held with pending := merged k.pending .abnormalTimeout } s.queue
          [(.abnormalTimeout, .autonomous)])

/-- ENTER taken in RUN or HELD (R115): ABNORMAL-UNVERIFIABLE with a member robot that cannot be verified; else the request
stands until every member robot is SAFE (R116), and is granted at once when all are. That the unverifiable case keeps the extended
flag is the model's choice (log 53). -/
def Obligations.EnterTaken : Prop :=
  ∀ (z : Fin 8) (w : Word) (s s1 : State) (c : HallConfig),
    s.take processorTag (selZone z .enter) = some (w, s1) → s.config = some c →
    let k := s.zones.get z
    let q := wordSeq w
    k.lastSeq ≠ some q → k.pending = none → k.state = .run ∨ k.state = .held →
    let member : Fin 24 → Prop := fun u => c.kindOf u = .filler ∧ c.zoneOf u = some z
    let unverifiable : Prop := ∃ u, member u ∧
      (s.portStateOf c u ≠ .active ∨ ∀ r, s.robots.get u = some r → r.accepted = .lost ∨ r.accepted = .offline)
    let allSafe : Prop := ∀ u, member u → ∃ r, s.robots.get u = some r ∧ r.accepted = .safe
    let queue := if k.state = .run then s.spanMarked c z else s.queue
    ∃ t, exec (.enter z) s = .next t ∧ t.ZoneHolds c z ∧
      (unverifiable →
        State.ZoneMoved s s1 t z
          { k.answered q .abnormalUnverifiable with
            state := .held, unlocked := false, afterForced := false, access := none, clearing := none } queue
          [(.abnormalUnverifiable, .command q)]) ∧
      (¬ unverifiable →
        ∃ reached, (∀ u, u ∈ reached ↔ member u ∧ ∃ r, s.robots.get u = some r ∧ r.accepted = .safe) ∧
          let asked : Zone :=
            { k with
              state := .requested, unlocked := false, access := some s.time.localTime, extended := false,
              clearing := none, safeReached := reached, lastSeq := some q, inFlight := some q,
              reply := { seq := some q, code := none, origin := .none, further := false } }
          (¬ allSafe → State.ZoneMoved s s1 t z asked queue []) ∧
          (allSafe → (c.zones.get z).breakpoint = true →
            State.ZoneMoved s s1 t z
              { asked.answered q .normalBreak with state := .breakpoint, inFlight := none } queue
              [(.normalBreak, .command q)]) ∧
          (allSafe → (c.zones.get z).breakpoint = false →
            State.ZoneMoved s s1 t z
              { asked.answered q .normal with state := .opened, unlocked := true, access := none, inFlight := none }
              queue [(.normal, .command q)]))

/-- CONFIRM taken in BREAK opens the zone (R117), and EXTEND taken once in REQUESTED or BREAK makes the access timer 20 s
(R118). -/
def Obligations.ConfirmAndExtendTaken : Prop :=
  ∀ (z : Fin 8) (w : Word) (s s1 : State) (c : HallConfig), s.config = some c →
    let k := s.zones.get z
    let q := wordSeq w
    k.lastSeq ≠ some q → k.pending = none →
    (s.take processorTag (selZone z .confirm) = some (w, s1) → k.state = .breakpoint →
      ∃ t, exec (.confirm z) s = .next t ∧
        State.ZoneMoved s s1 t z
          { k.answered q .normal with state := .opened, unlocked := true, access := none, clearing := none } s.queue
          [(.normal, .command q)]) ∧
    (s.take processorTag (selZone z .extend) = some (w, s1) → k.state = .requested ∨ k.state = .breakpoint →
      k.extended = false →
      ∃ t, exec (.extend z) s = .next t ∧ t.robots = s.robots ∧ t.lineHold = s.lineHold ∧
        State.ZoneMoved s s1 t z { k.answered q .normal with extended := true } s.queue [(.normal, .command q)])

/-- CANCEL (R119): a request ends in RUN with its ENTER completed ABNORMAL-CANCELLED; BREAK ends in RUN; a visit ends in
CLEARING when the guard is CLOSED, and CANCEL completes ABNORMAL-GUARD when it is OPEN. -/
def Obligations.CancelTaken : Prop :=
  ∀ (z : Fin 8) (w : Word) (s s1 : State) (c : HallConfig),
    s.take processorTag (selZone z .cancel) = some (w, s1) → s.config = some c →
    let k := s.zones.get z
    let q := wordSeq w
    let run : Zone → Zone := fun k =>
      { k with state := .run, unlocked := false, hasRun := true, afterForced := false, access := none, clearing := none }
    k.lastSeq ≠ some q → k.pending = none →
    k.state = .requested ∨ k.state = .breakpoint ∨ k.state = .opened →
    ∃ t, exec (.cancel z) s = .next t ∧
      (∀ e, k.state = .requested → k.inFlight = some e →
        State.ZoneMoved s s1 t z
          { run (k.answered q .normal) with
            inFlight := none, pending := some { code := .abnormalCancelled, origin := .command e, further := false } }
          s.queue [(.abnormalCancelled, .command e), (.normal, .command q)]) ∧
      (k.state = .breakpoint →
        State.ZoneMoved s s1 t z (run (k.answered q .abnormalCancelled)) s.queue [(.abnormalCancelled, .command q)]) ∧
      (k.state = .opened → (s.guards.get z).level = true →
        State.ZoneMoved s s1 t z (k.answered q .abnormalGuard) s.queue [(.abnormalGuard, .command q)]) ∧
      (k.state = .opened → (s.guards.get z).level = false →
        State.ZoneMoved s s1 t z
          { k.answered q .normal with
            state := .clearing, unlocked := false, access := none, clearing := some s.time.localTime }
          s.queue [(.normal, .command q)])

/-- RESET and RESUME (R114): with the guard CLOSED the zone returns to RUN; RESET in START with the guard OPEN completes
ABNORMAL-GUARD. -/
def Obligations.ResetAndResumeTaken : Prop :=
  ∀ (z : Fin 8) (i : Instr) (cmd : ZoneCommand) (w : Word) (s s1 : State) (c : HallConfig),
    s.take processorTag (selZone z cmd) = some (w, s1) → s.config = some c →
    let k := s.zones.get z
    let q := wordSeq w
    k.lastSeq ≠ some q → k.pending = none →
    ((i = .reset z ∧ cmd = .reset ∧ (k.state = .start ∨ k.state = .clearing ∨ k.state = .held)) ∨
      (i = .resume z ∧ cmd = .resume ∧ k.state = .held)) →
    ((s.guards.get z).level = false →
      ∃ t, exec i s = .next t ∧
        State.ZoneMoved s s1 t z
          { k.answered q .normal with
            state := .run, unlocked := false, hasRun := true, afterForced := false, access := none, clearing := none }
          s.queue [(.normal, .command q)]) ∧
    ((s.guards.get z).level = true → k.state = .start →
      ∃ t, exec i s = .next t ∧ State.ZoneMoved s s1 t z (k.answered q .abnormalGuard) s.queue [(.abnormalGuard, .command q)])

/-- SENSE: the pending completion becomes the reply answer and is collected; with none pending the answer is INVALID (R112). -/
def Obligations.SenseCollects : Prop :=
  ∀ (z : Fin 8) (w : Word) (s s1 : State) (c : HallConfig),
    s.take processorTag (selZone z .sense) = some (w, s1) → s.config = some c →
    let k := s.zones.get z
    let q := wordSeq w
    k.lastSeq ≠ some q →
    ∃ t, exec (.sense z) s = .next t ∧ t.robots = s.robots ∧ t.lineHold = s.lineHold ∧
      State.ZoneMoved s s1 t z
        (match k.pending with
        | some p =>
          { k with
            lastSeq := some q, pending := none,
            reply := { seq := some q, code := some p.code, origin := p.origin, further := p.further } }
        | none =>
          { k with lastSeq := some q, reply := { seq := some q, code := some .invalid, origin := .none, further := false } })
        s.queue []

/-- The INVALID entries of the table of R113, and a second EXTEND (R118): the command completes INVALID at once and changes
nothing else. That an ENTER so answered keeps the extended flag is the model's choice (log 53). -/
def Obligations.InvalidZoneCommands : Prop :=
  ∀ (z : Fin 8) (i : Instr) (cmd : ZoneCommand) (w : Word) (s s1 : State) (c : HallConfig),
    s.take processorTag (selZone z cmd) = some (w, s1) → s.config = some c →
    let k := s.zones.get z
    let q := wordSeq w
    k.lastSeq ≠ some q → k.pending = none →
    ((i = .enter z ∧ cmd = .enter ∧ k.state ≠ .run ∧ k.state ≠ .held) ∨
      (i = .confirm z ∧ cmd = .confirm ∧ k.state ≠ .breakpoint) ∨
      (i = .extend z ∧ cmd = .extend ∧ (k.extended = true ∨ (k.state ≠ .requested ∧ k.state ≠ .breakpoint))) ∨
      (i = .cancel z ∧ cmd = .cancel ∧ k.state ≠ .requested ∧ k.state ≠ .breakpoint ∧ k.state ≠ .opened) ∨
      (i = .reset z ∧ cmd = .reset ∧ k.state ≠ .start ∧ k.state ≠ .clearing ∧ k.state ≠ .held) ∨
      (i = .resume z ∧ cmd = .resume ∧ k.state ≠ .held)) →
    ∃ t, exec i s = .next t ∧ t.robots = s.robots ∧ t.lineHold = s.lineHold ∧
      State.ZoneMoved s s1 t z (k.answered q .invalid) s.queue [(.invalid, .command q)]

/-- What a zone slot refuses (R109): a repeated sequence is ignored; while a completion is pending a command other than SENSE
is answered INVALID and not taken; OTHER_COMMAND_CODE taken with nothing pending completes INVALID. -/
def Obligations.ZoneSlotRefuses : Prop :=
  ∀ (z : Fin 8) (i : Instr) (sel : Handover → Option Word) (w : Word) (s s1 : State) (c : HallConfig),
    s.take processorTag sel = some (w, s1) → s.config = some c →
    let k := s.zones.get z
    let q := wordSeq w
    let other : Prop := (∃ n : Fin 9, n.val = z.val ∧ i = .otherCommandCode n) ∧ sel = selZoneOther z
    ((i = .enter z ∧ sel = selZone z .enter) ∨ (i = .confirm z ∧ sel = selZone z .confirm) ∨
      (i = .extend z ∧ sel = selZone z .extend) ∨ (i = .cancel z ∧ sel = selZone z .cancel) ∨
      (i = .reset z ∧ sel = selZone z .reset) ∨ (i = .resume z ∧ sel = selZone z .resume) ∨ other) →
    let leaves : State → Zone → List (Completion × Origin) → Prop := fun t k completions =>
      t.robots = s.robots ∧ t.lineHold = s.lineHold ∧ State.ZoneMoved s s1 t z k s.queue completions
    ∃ t, exec i s = .next t ∧
      (k.lastSeq = some q → leaves t k []) ∧
      (k.lastSeq ≠ some q → k.pending ≠ none →
        leaves t
          { k with lastSeq := some q, reply := { seq := some q, code := some .invalid, origin := .none, further := false } }
          []) ∧
      (k.lastSeq ≠ some q → k.pending = none → other → leaves t (k.answered q .invalid) [(.invalid, .command q)])

/-! ## The memory path -/

/-- UPSTREAM_TRANSACTION of the processor (R146, R147): in the image region and outside every window it is forwarded; a command
frame's write is observed; the mailbox is observed and substituted; a view read is held and a view write refused; a malformed
one is refused (R143, R145). -/
def Obligations.ProcessorTransactionTreated : Prop :=
  ∀ (x : Txn) (observeAll : Bool) (s : State) (c : HallConfig),
    s.config = some c → x.tag = processorTag → s.path.Ordered →
    let base := s.cfgBase.toNat * 2 ^ 24
    let inImage : Prop := base ≤ x.start ∧ x.start < base + 16384
    let formed : Prop := x.start % 8 = 0 ∧ 1 ≤ x.length ∧ x.start % 128 + 8 * x.length ≤ 128
    ∃ t, exec (.upstreamTransaction x observeAll) s = .next t ∧ t.observeAll = observeAll ∧ s.GivesOnly t [] ∧
      { t.unsettled s with observeAll := s.observeAll, path := s.path } = s ∧
      let joins : Treatment → Stage → Prop := fun how stage =>
        { t.path with ownQueue := s.path.ownQueue } =
          { s.path with flights := s.path.flights ++ [{ txn := x, treatment := how, stage := stage }] }
      let counted := { s.path with otherDenied := min 65535 (s.path.otherDenied + 1) }
      let refused : Prop :=
        { t.path with ownQueue := s.path.ownQueue } =
          if s.path.oldest x.tag = none then
            { counted with
              responses := s.path.responses ++
                [{ tag := x.tag, response := .denied, data := if x.isWrite then [] else List.replicate x.length 0 }] }
          else
            { counted with flights := s.path.flights ++ [{ txn := x, treatment := .denied, stage := .held }] }
      (¬ formed → refused) ∧
      (formed → inImage → joins (if x.isWrite then .image else .plain) .waiting) ∧
      (formed → ¬ inImage → c.windowAt x.start = none → joins .plain .waiting) ∧
      (∀ i, formed → ¬ inImage → c.windowAt x.start = some i →
        let w := c.windows.get i
        (w.kind = .mailbox → joins (if x.isWrite then .observed i w else .substituted i w) .waiting) ∧
        (w.kind = .view → if x.isWrite then refused else joins .view .held) ∧
        (∀ u, w.kind = .command → unitNumber w.unit = some u →
          joins (if x.isWrite ∧ c.kindOf u = .filler then .observed i w else .plain) .waiting) ∧
        (w.kind ≠ .mailbox → w.kind ≠ .view → w.kind ≠ .command → joins .plain .waiting))

/-- The rights of a switch port (R143, R146, R147): its PLAIN windows by their masks, its own unit's COMMAND window to read
and record windows to write; nothing malformed, in the image region, outside every window or in another kind of window. That bit
n − 1 of a mask stands for port n is the model's choice (log 49). -/
def Obligations.PortRights : Prop :=
  ∀ (s : State) (c : HallConfig) (p : Fin 16) (x : Txn),
    let base := s.cfgBase.toNat * 2 ^ 24
    let formed : Prop := x.start % 8 = 0 ∧ 1 ≤ x.length ∧ x.start % 128 + 8 * x.length ≤ 128
    let outside : Prop := x.start < base ∨ base + 16384 ≤ x.start
    (¬ formed ∨ ¬ outside ∨ c.windowAt x.start = none → s.portTreatment c p x = .denied) ∧
    (∀ i, formed → outside → c.windowAt x.start = some i →
      let w := c.windows.get i
      let own : Prop := ∃ u, unitNumber w.unit = some u ∧ c.portOf u = some p
      let record : Prop := w.kind = .status ∨ w.kind = .verdict ∨ w.kind = .timeFrame
      (w.kind = .plain → x.isWrite = true →
        s.portTreatment c p x = if w.writers.getLsbD p.val then .plain else .denied) ∧
      (w.kind = .plain → x.isWrite = false →
        s.portTreatment c p x = if w.readers.getLsbD p.val then .plain else .denied) ∧
      (w.kind = .command → own → x.isWrite = false → s.portTreatment c p x = .substituted i w) ∧
      (record → own → x.isWrite = true → s.portTreatment c p x = .observed i w) ∧
      (w.kind = .command → (¬ own ∨ x.isWrite = true) → s.portTreatment c p x = .denied) ∧
      (record → (¬ own ∨ x.isWrite = false) → s.portTreatment c p x = .denied) ∧
      (w.kind ≠ .plain → w.kind ≠ .command → ¬ record → s.portTreatment c p x = .denied))

/-- UPSTREAM_TRANSACTION of a switch port. A write is refused out of ACTIVE (R132); without rights it is a violation (R134), in
enforcement LISTEN or LOCKED at the limit (R137); with them it is forwarded within the budget, and past it refused with LISTEN or
LOCKED, or forwarded in observation (R135, R139); a forwarded record write that leaves a touched slot uncovered is counted as a
fragment (R148). A read is served in every port state (R132), and without rights refused as a violation (R134). Each change of
state and each WOULD_QUARANTINE has its notice (R131, R139); whether a violation short of the limit gives the latter is left open
(log 17). -/
def Obligations.PortWriteJudged : Prop :=
  (∀ (x : Txn) (observeAll : Bool) (s : State) (c : HallConfig) (p : Fin 16),
    s.config = some c → x.tag.val = p.val + 1 → x.isWrite = true → s.path.Ordered →
    let r := s.ports.get p
    let now := s.time.localTime
    let how := s.portTreatment c p x
    let observing := ((c.ports.get p).observe || observeAll) = true
    let history := (if r.history.length < 3 then r.history else r.history.drop (r.history.length - 2)) ++ [now]
    let locks : Prop := history.length = 3 ∧ ∀ b, history.head? = some b → now ≤ b + 60000000000
    let sat16 : Nat → Nat := fun n => min 65535 n
    ∃ t, exec (.upstreamTransaction x observeAll) s = .next t ∧ t.observeAll = observeAll ∧
      (∀ q, q ≠ p → t.ports.get q = s.ports.get q) ∧ s.Handed t ∧
      { t.unhanded s with observeAll := s.observeAll, ports := s.ports, path := s.path } = s ∧
      let r' := t.ports.get p
      let path := { t.path with ownQueue := s.path.ownQueue }
      let off := x.start % 128
      let uncovered : Prop := (∃ i w, how = .observed i w) ∧
        ∃ o, (o = 0 ∨ o = 64) ∧ off < o + 64 ∧ o < off + 8 * x.length ∧ writtenBlock x.written off o 8 = none
      s.Gives t
        ((if r'.wouldQuarantine && !r.wouldQuarantine then
          [{ s.note .wouldQuarantine with
             subject := p.val + 1, code := (if how = .denied then PortReason.violation else .budget).code
             detail := detailNat r'.intervalWords }]
        else []) ++ s.portNotices t) ∧
      let refused : Prop :=
        path =
          if s.path.oldest x.tag = none then
            { s.path with
              responses := s.path.responses ++ [{ tag := x.tag, response := .denied, data := [] }] }
          else { s.path with flights := s.path.flights ++ [{ txn := x, treatment := .denied, stage := .held }] }
      let denied := { r with denied := sat16 (r.denied + 1) }
      let forwarded : Port → Prop := fun k =>
        path = { s.path with flights := s.path.flights ++ [{ txn := x, treatment := how, stage := .waiting }] } ∧
        (uncovered → r' = { k with fragments := sat16 (k.fragments + 1) }) ∧ (¬ uncovered → r' = k)
      let quarantined : Port → PortReason → Prop := fun k reason =>
        (locks → r' = { k with history := history, state := .locked, reason := .lockout, silence := none }) ∧
        (¬ locks → r' = { k with history := history, state := .listen, reason := reason, silence := some now })
      let violating := { denied with
        violations := min 255 (r.violations + 1), intervalViolations := min 255 (r.intervalViolations + 1) }
      let reaches : Prop := (c.ports.get p).limit ≤ min 255 (r.intervalViolations + 1)
      let charged := { r with intervalWords := sat16 (r.intervalWords + x.length) }
      let within : Prop := r.intervalWords + x.length ≤ (c.ports.get p).budget
      (r.state = .listen → refused ∧ r' = { denied with silence := some now }) ∧
      (r.state = .down ∨ r.state = .locked → refused ∧ r' = denied) ∧
      (r.state = .active → how = .denied → refused ∧
        (observing → { r' with wouldQuarantine := r.wouldQuarantine } = violating ∧
          (r.wouldQuarantine = true ∨ reaches → r'.wouldQuarantine = true)) ∧
        (¬ observing → ¬ reaches → r' = violating) ∧
        (¬ observing → reaches → quarantined violating .violation)) ∧
      (r.state = .active → how ≠ .denied → within → forwarded charged) ∧
      (r.state = .active → how ≠ .denied → ¬ within → ¬ observing →
        refused ∧ quarantined { denied with overruns := sat16 (r.overruns + 1) } .budget) ∧
      (r.state = .active → how ≠ .denied → ¬ within → observing →
        forwarded { charged with overruns := sat16 (r.overruns + 1), wouldQuarantine := true })) ∧
  (∀ (x : Txn) (observeAll : Bool) (s : State) (c : HallConfig) (p : Fin 16),
    s.config = some c → x.tag.val = p.val + 1 → x.isWrite = false → s.path.Ordered →
    let r := s.ports.get p
    let now := s.time.localTime
    let how := s.portTreatment c p x
    let observing := ((c.ports.get p).observe || observeAll) = true
    let history := (if r.history.length < 3 then r.history else r.history.drop (r.history.length - 2)) ++ [now]
    let locks : Prop := history.length = 3 ∧ ∀ b, history.head? = some b → now ≤ b + 60000000000
    let reaches : Prop := (c.ports.get p).limit ≤ min 255 (r.intervalViolations + 1)
    let zeros : Reply := { tag := x.tag, response := .denied, data := List.replicate x.length 0 }
    ∃ t, exec (.upstreamTransaction x observeAll) s = .next t ∧ t.observeAll = observeAll ∧
      (∀ q, q ≠ p → t.ports.get q = s.ports.get q) ∧ s.Handed t ∧
      { t.unhanded s with observeAll := s.observeAll, ports := s.ports, path := s.path } = s ∧
      let r' := t.ports.get p
      let path := { t.path with ownQueue := s.path.ownQueue }
      let counted := { r with denied := min 65535 (r.denied + 1), violations := min 255 (r.violations + 1) }
      let counting := { counted with intervalViolations := min 255 (r.intervalViolations + 1) }
      s.Gives t
        ((if r'.wouldQuarantine && !r.wouldQuarantine then
          [{ s.note .wouldQuarantine with
             subject := p.val + 1, code := PortReason.violation.code, detail := detailNat r.intervalWords }]
        else []) ++ s.portNotices t) ∧
      (how ≠ .denied → r' = r ∧ t.robots = s.robots ∧ t.lineHold = s.lineHold ∧
        path = { s.path with flights := s.path.flights ++ [{ txn := x, treatment := how, stage := .waiting }] }) ∧
      (how = .denied →
        path =
          (if s.path.oldest x.tag = none then { s.path with responses := s.path.responses ++ [zeros] }
          else { s.path with flights := s.path.flights ++ [{ txn := x, treatment := .denied, stage := .held }] }) ∧
        (r.state ≠ .active → r' = counted) ∧
        (r.state = .active → observing → { r' with wouldQuarantine := r.wouldQuarantine } = counting ∧
          (r.wouldQuarantine = true ∨ reaches → r'.wouldQuarantine = true)) ∧
        (r.state = .active → ¬ observing → ¬ reaches → r' = counting) ∧
        (r.state = .active → ¬ observing → reaches → locks →
          r' = { counting with history := history, state := .locked, reason := .lockout, silence := none }) ∧
        (r.state = .active → ¬ observing → reaches → ¬ locks →
          r' = { counting with history := history, state := .listen, reason := .violation, silence := some now })))

/-- UPSTREAM_TRANSACTION of the other sources: the management agent has the SWITCHTABLE window alone, tags 18 to 31 nothing
(R145, R147); while UNCONFIGURED every source but the processor is refused (R153). A write of part of the table is counted when
it is forwarded (R148), whatever memory answers later (the model's choice against R128, log 54). -/
def Obligations.OtherSourcesTreated : Prop :=
  ∀ (x : Txn) (observeAll : Bool) (s : State), s.path.Ordered →
    let base := s.cfgBase.toNat * 2 ^ 24
    let inImage : Prop := base ≤ x.start ∧ x.start < base + 16384
    let formed : Prop := x.start % 8 = 0 ∧ 1 ≤ x.length ∧ x.start % 128 + 8 * x.length ≤ 128
    ∃ t, exec (.upstreamTransaction x observeAll) s = .next t ∧ (x.tag = processorTag ∨ 17 ≤ x.tag.val → s.GivesOnly t []) ∧
      let counted := { s.path with otherDenied := min 65535 (s.path.otherDenied + 1) }
      let refused : Prop :=
        { t.unsettled s with observeAll := s.observeAll, path := s.path } = s ∧
        { t.path with ownQueue := s.path.ownQueue } =
          if s.path.oldest x.tag = none then
            { counted with
              responses := s.path.responses ++
                [{ tag := x.tag, response := .denied, data := if x.isWrite then [] else List.replicate x.length 0 }] }
          else
            { counted with flights := s.path.flights ++ [{ txn := x, treatment := .denied, stage := .held }] }
      let joins : Treatment → Prop := fun how =>
        { t.path with ownQueue := s.path.ownQueue } =
          { s.path with flights := s.path.flights ++ [{ txn := x, treatment := how, stage := .waiting }] }
      (s.config = none → x.tag ≠ processorTag → refused) ∧
      (s.config = none → x.tag = processorTag → formed →
        joins (if inImage ∧ x.isWrite = true then .image else .plain) ∧
          { t.unsettled s with observeAll := s.observeAll, path := s.path } = s) ∧
      (∀ c, s.config = some c → 18 ≤ x.tag.val → refused) ∧
      (∀ c, s.config = some c → x.tag.val = 17 →
        (∀ i, formed → ¬ inImage → c.windowAt x.start = some i → (c.windows.get i).kind = .switchTable →
          joins (if x.isWrite then .observed i (c.windows.get i) else .plain) ∧
          t.table.fragments =
            (if x.isWrite = true ∧ writtenBlock x.written (x.start % 128) 0 16 = none then
              min 65535 (s.table.fragments + 1)
            else s.table.fragments) ∧
          { t.unsettled s with
            observeAll := s.observeAll, path := s.path
            table := { t.table with fragments := s.table.fragments } } = s) ∧
        ((∀ i, c.windowAt x.start = some i → (c.windows.get i).kind ≠ .switchTable) → refused))

/-- FORWARDED_RESPONSE (R144): memory's FAULT is passed up whatever the treatment (R102, R148, R150; for a substituted read whose
window was replaced it is the model's choice, log 50), its OKAY with its data for a plain transaction; with the answer go the
refused ones next in line of its tag, in order. An observed write hands over, at memory's OKAY, the slots and watched words that
it covers whole (R148, R149), one after the other (log 4), and is answered OKAY with the last, or at once when there is none; so
is one whose window a FULL load replaced, while such a substituted read is DENIED and counted (R154). That the fragment count of a
partial table write stands at a FAULT is the model's choice (log 54). -/
def Obligations.MemoryAnswersPassedUp : Prop :=
  (∀ (tag : Fin 32) (data : List Word) (s : State) (f : Flight),
    s.path.oldest tag = some f → f.stage = .atMemory →
    let passed : List Word := if f.txn.isWrite then [] else fitWords f.txn.length data
    exec (.forwardedResponse tag false data) s =
      .next { s with path := s.path.answer { tag := tag, response := .fault, data := passed } } ∧
    (f.treatment = .plain →
      exec (.forwardedResponse tag true data) s =
        .next { s with path := s.path.answer { tag := tag, response := .okay, data := passed } })) ∧
  (∀ (p : Path) (r : Reply) (f : Flight), p.oldest r.tag = some f →
    let mine : Flight → Bool := fun f => decide (f.txn.tag = r.tag)
    let refused : Flight → Bool := fun f => decide (f.treatment = .denied)
    let behind := (p.flights.filter mine).tail
    (p.answer r).flights.filter (fun f => !mine f) = p.flights.filter (fun f => !mine f) ∧
    (p.answer r).flights.filter mine = behind.dropWhile refused ∧
    (p.answer r).responses = p.responses ++ r :: (behind.takeWhile refused).map (fun f =>
      { tag := r.tag, response := .denied, data := if f.txn.isWrite then [] else List.replicate f.txn.length 0 })) ∧
  (∀ (tag : Fin 32) (data : List Word) (s : State) (c : HallConfig) (f : Flight) (i : Fin 32) (w : Window),
    s.path.oldest tag = some f → f.stage = .atMemory → s.config = some c →
    let now := c.windows.get i
    let named : Prop := w.kind = .command ∨ w.kind = .status ∨ w.kind = .verdict ∨ w.kind = .timeFrame
    let stands : Prop := now.kind = w.kind ∧ (named → now.unit = w.unit)
    let answered : State :=
      { s with
        path := s.path.answer
          { tag := tag, response := .okay, data := if f.txn.isWrite then [] else fitWords f.txn.length data } }
    let denied : Reply :=
      { tag := tag, response := .denied, data := if f.txn.isWrite then [] else List.replicate f.txn.length 0 }
    (f.treatment = .observed i w → ¬ stands → s.toHand f = []) ∧
    (f.treatment = .observed i w → stands → s.toHand f = c.observe w f.txn) ∧
    (f.treatment = .observed i w → s.toHand f = [] → exec (.forwardedResponse tag true data) s = .next answered) ∧
    (f.treatment = .substituted i w → ¬ stands →
      ∃ t, exec (.forwardedResponse tag true data) s = .next t ∧ { t with ports := s.ports, path := s.path } = s ∧
        (∀ p : Fin 16, tag.val = p.val + 1 →
          t.ports.get p = { s.ports.get p with denied := min 65535 ((s.ports.get p).denied + 1) } ∧
          (∀ q, q ≠ p → t.ports.get q = s.ports.get q) ∧ t.path = s.path.answer denied) ∧
        (tag = processorTag → t.ports = s.ports ∧
          t.path = { s.path with otherDenied := min 65535 (s.path.otherDenied + 1) }.answer denied))) ∧
  (∀ (s : State) (f : Flight), f.treatment = .image → f.stage = .atMemory →
    (∀ v, writtenWord f.txn.written (f.txn.start % 16384) 0 = some v →
      s.toHand f = if loadKindByte v = 0 then [] else [.control v]) ∧
    (writtenWord f.txn.written (f.txn.start % 16384) 0 = none → s.toHand f = [])) ∧
  (∀ (c : HallConfig) (w : Window) (x : Txn),
    let off := x.start % 128
    let slots := [0, 64].filterMap fun o => writtenBlock x.written off o 8
    let words := fun o => writtenWord x.written (x.start % 512) o
    (∀ u, unitNumber w.unit = some u →
      (w.kind = .status → c.kindOf u = .filler → c.observe w x = slots.map (.robotStatus u)) ∧
      (∀ g, w.kind = .status → c.kindOf u ≠ .filler → c.gateOfUnit u = some g →
        c.observe w x = slots.map (.gateStatus g)) ∧
      (∀ n, w.kind = .verdict → c.cameraOfUnit u = some n → c.observe w x = slots.map (.verdict n)) ∧
      (w.kind = .timeFrame → c.observe w x = slots.map (.timeFrame u)) ∧
      (w.kind = .command → c.kindOf u = .filler →
        c.observe w x = ((writtenLow x.written off 0).map (.sequence u)).toList)) ∧
    (w.kind = .switchTable → c.observe w x = ((writtenBlock x.written off 0 16).map .switchTable).toList) ∧
    (w.kind = .mailbox → c.observe w x =
      ((List.finRange 8).filterMap fun z => (words (32 * z.val)).map (.zoneWord z)) ++
        ((words 256).map .generalWord).toList ++ ((words 288).map .consumer).toList)) ∧
  (∀ (ws : List WriteWord) (off o : Nat),
    (∀ v, writtenWord ws off o = some v ↔
      off ≤ o ∧ ∃ x, ws[(o - off) / 8]? = some x ∧ x.enables = BitVec.allOnes 8 ∧ x.data = v) ∧
    (∀ n b, writtenBlock ws off o n = some b ↔
      ∃ vs : List Word, vs.length = n ∧ b = vs.flatMap wordBytes ∧
        ∀ i v, vs[i]? = some v → writtenWord ws off (o + 8 * i) = some v)) ∧
  (∀ (α : Type) (sel : Handover → Option α) (s : State) (tag : Fin 32) (f : Flight) (pre post : List Handover)
    (h : Handover) (a : α),
    s.path.oldest tag = some f → s.toHand f = pre ++ h :: post → (∀ x ∈ pre, sel x = none) → sel h = some a →
    ∃ s1, s.take tag sel = some (a, s1) ∧ { s1 with path := s.path } = s ∧
      (pre ++ post = [] → s1.path = s.path.answer { tag := tag, response := .okay, data := [] }) ∧
      (pre ++ post ≠ [] → ∃ before after, s.path.flights = before ++ f :: after ∧
        (∀ e ∈ before, e.txn.tag ≠ tag) ∧
        s1.path = { s.path with flights := before ++ { f with stage := .handing (pre ++ post) } :: after }))

/-- VIEW_READ answers the view read at the head of the processor's transactions from the part's state (R151, R170), also when a
FULL load has replaced its window since (the model's reading, log 23), and MAILBOX_READ rewrites the reply words of the mailbox
in memory's data (R112, R165). The fields of the view are those of 11.5, and the fields rewritten those of 11.3, with the codes
of 11.1; no two of either share a byte. How a part of a ms counts is left open (log 42). That bits which 11 does not name in a
listed byte are 0, and byte 7 of a reply word memory's (log 44), and that fields a unit's kind does not list are 0 (log 40), are
the model's readings. -/
def Obligations.ViewAndMailboxAnswered : Prop :=
  (∀ (s : State) (c : HallConfig), s.config = some c →
    (∀ (observeAll : Bool) (f : Flight), s.path.oldest processorTag = some f → f.treatment = .view →
      let seen := { s with observeAll := observeAll }
      exec (.viewRead observeAll) s = .next { seen with
        path := seen.path.answer
          { tag := processorTag, response := .okay
            data := recordWords (seen.viewFields c) (f.txn.start % 4096) f.txn.length } }) ∧
    (∀ (data : List Word) (w : Window) (x : Txn), s.substituting processorTag = some (c, w, x) → w.kind = .mailbox →
      exec (.mailboxRead data) s = .next { s with
        path := s.path.answer
          { tag := processorTag, response := .okay
            data := overlay s.replyFields (x.start % 512) (fitWords x.length data) } }) ∧
    (∀ f, f ∈ s.viewFields c ↔
      f ∈ s.headerLayout ∨ (∃ p : Fin 16, f ∈ moved (512 + 64 * p.val) (s.portLayout c p)) ∨
        (∃ (u : Fin 24) (g : Field), s.UnitShows c u g ∧ f = ⟨1536 + 64 * u.val + g.off, g.size, g.value⟩) ∨
        ∃ z : Fin 8, f ∈ moved (3072 + 64 * z.val) (s.zoneLayout z)) ∧
    disjointFields (s.viewFields c)) ∧
  (∀ s : State,
    (∀ f, f ∈ s.replyFields ↔
      (∃ z : Fin 8, f ∈ moved (32 * z.val + 24) (s.zones.get z).replyLayout) ∨ f ∈ moved 280 s.report.replyLayout) ∧
    disjointFields s.replyFields) ∧
  (∀ ns : Nat,
    (Config.msRoundsUp = false → ns / 1000000 < 2 ^ 32 → viewMs ns = ns / 1000000) ∧
    (Config.msRoundsUp = true → (ns + 999999) / 1000000 < 2 ^ 32 → viewMs ns = (ns + 999999) / 1000000)) ∧
  [MachineState.offline, .idle, .running, .safe, .fault, .lost].map MachineState.code = List.range 6 ∧
  [GateState.held, .arming, .released].map GateState.code = List.range 3 ∧
  [ZoneState.start, .run, .requested, .breakpoint, .opened, .clearing, .held, .forced].map ZoneState.code = List.range 8 ∧
  [PortState.down, .active, .listen, .locked].map PortState.code = List.range 4 ∧
  [PortReason.load, .link, .tableStale, .violation, .budget, .silence, .lockout, .clear].map PortReason.code = List.range 8 ∧
  [ClockState.none, .locked, .holdover].map ClockState.code = List.range 3 ∧
  [SlotState.idle, .inProgress, .complete].map SlotState.code = List.range 3 ∧
  [Completion.normal, .normalBreak, .normalClear, .abnormalTimeout, .abnormalChanged, .abnormalGuard, .abnormalCancelled,
    .abnormalUnverifiable, .abnormalRemaining, .invalid, .busy].map Completion.code = List.range' 1 11 ∧
  [LoadCode.none, .applied, .busy, .readError, .version, .range, .consistency, .lineActive, .mismatch, .zoneOpen].map
    LoadCode.code = List.range 10 ∧
  [LoadKind.full, .parameter, .changeover].map LoadKind.code = [1, 2, 3] ∧
  [UnitKind.absent, .filler, .camera, .gate, .clock].map UnitKind.code = List.range 5

/-- ARBITER_GRANT (R152): the oldest waiting forwarded transaction is granted, but for the own head where none waits or where
it has let eight pass. -/
def Obligations.ArbiterGrants : Prop :=
  ∀ s : State, ∃ t, exec .arbiterGrant s = .next t ∧ { t with path := s.path } = s ∧
    { t.path with
      flights := s.path.flights, ownQueue := s.path.ownQueue, ownWait := s.path.ownWait,
      ownAtMemory := s.path.ownAtMemory } = s.path ∧
    let granted (pre post : List Flight) (f : Flight) : Prop :=
      s.path.flights = pre ++ f :: post ∧ f.stage = .waiting ∧ ∀ e ∈ pre, e.stage ≠ .waiting
    let ownGranted (o : OwnTxn) (os : List OwnTxn) : Prop :=
      t.path.flights = s.path.flights ∧ t.path.ownQueue = os ∧ t.path.ownWait = 0 ∧
        t.path.ownAtMemory = s.path.ownAtMemory ++ [o]
    (∀ pre post f, granted pre post f → s.path.ownQueue = [] ∨ s.path.ownWait < 8 →
      t.path.flights = pre ++ { f with stage := .atMemory } :: post ∧ t.path.ownQueue = s.path.ownQueue ∧
        t.path.ownAtMemory = s.path.ownAtMemory ∧
        t.path.ownWait = (if s.path.ownQueue = [] then s.path.ownWait else s.path.ownWait + 1)) ∧
    (∀ pre post f o os, granted pre post f → s.path.ownQueue = o :: os → 8 ≤ s.path.ownWait → ownGranted o os) ∧
    (∀ o os, (∀ e ∈ s.path.flights, e.stage ≠ .waiting) → s.path.ownQueue = o :: os → ownGranted o os) ∧
    ((∀ e ∈ s.path.flights, e.stage ≠ .waiting) → s.path.ownQueue = [] → t.path = s.path)

/-! ## Ports -/

/-- SWITCH_TABLE (R128, R129): the table timer restarts and the stale flag clears; each port takes its entry's speed and
errors, and its link goes UP at the second entry UP in a row, DOWN at the first that is not, with the change of state of R131;
SWITCH_TABLE_RESUMED is given out of stale, and PORT_STATE for each change. -/
def Obligations.SwitchTableTaken : Prop :=
  ∀ (s s1 : State) (c : HallConfig) (b : List Byte), s.take agentTag selTable = some (b, s1) → s.config = some c →
    ∃ t, exec .switchTable s = .next t ∧
      t.table = { s.table with timer := some s.time.localTime, stale := false } ∧
      (∀ p : Fin 16,
        let e := readTableEntry b p
        let r := { s.ports.get p with speed := e.speed, rxErrors := e.rxErrors }
        (e.up = true → r.linkUp = true → t.ports.get p = r) ∧
        (e.up = true → r.linkUp = false → r.upRun = 0 → t.ports.get p = { r with upRun := 1 }) ∧
        (e.up = true → r.linkUp = false → 1 ≤ r.upRun → r.state ≠ .down →
          t.ports.get p = { r with linkUp := true, upRun := 0 }) ∧
        (e.up = true → r.linkUp = false → 1 ≤ r.upRun → r.state = .down →
          t.ports.get p = { r with
            linkUp := true, upRun := 0, state := .active, reason := .link, silence := none, intervalViolations := 0,
            intervalWords := 0, wouldQuarantine := false }) ∧
        (e.up = false → r.linkUp = false → t.ports.get p = { r with upRun := 0 }) ∧
        (e.up = false → r.linkUp = true → r.state = .down ∨ r.state = .locked →
          t.ports.get p = { r with linkUp := false, upRun := 0 }) ∧
        (e.up = false → r.linkUp = true → r.state = .active ∨ r.state = .listen →
          t.ports.get p = { r with
            linkUp := false, upRun := 0, state := .down, reason := .link, silence := none, violations := 0, denied := 0,
            fragments := 0 })) ∧
      State.SequencesDiscarded c s t ∧
      s.Gives t ((if s.table.stale then [s.note .switchTableResumed] else []) ++ s.portNotices t) ∧
      { t.unhanded s1 with
        table := s.table, ports := s.ports, gates := s.gates
        grading := { t.grading with cameras := s.grading.cameras } } = s1

/-- TABLE_TIMER_EXPIRY 1 s after the last table: every accepted link goes DOWN (R130). INTERVAL_BOUNDARY each 10 ms: the
interval counts are cleared (R133). SILENCE_EXPIRY: a LISTEN port silent for its silence time returns to ACTIVE (R136).
SWITCH_TABLE_STALE and the PORT_STATE of each change are given (R130, R131). -/
def Obligations.PortTimersExpire : Prop :=
  ∀ (s : State) (c : HallConfig) (b : Nat), s.config = some c →
    (s.table.timer = some b → b + 1000000000 ≤ s.time.localTime →
      ∃ t, exec .tableTimerExpiry s = .next t ∧ t.table = { s.table with timer := none, stale := true } ∧
        (∀ p : Fin 16,
          let r := s.ports.get p
          t.ports.get p =
            if r.linkUp = false then { r with upRun := 0 }
            else if r.state = .active ∨ r.state = .listen then
              { r with
                linkUp := false, upRun := 0, state := .down, reason := .tableStale, silence := none, violations := 0,
                denied := 0, fragments := 0 }
            else { r with linkUp := false, upRun := 0 }) ∧
        State.SequencesDiscarded c s t ∧ s.Gives t (s.note .switchTableStale :: s.portNotices t) ∧
        { t.unhanded s with
          table := s.table, ports := s.ports, gates := s.gates
          grading := { t.grading with cameras := s.grading.cameras } } = s) ∧
    (s.table.intervalStart + 10000000 ≤ s.time.localTime →
      ∃ t, exec .intervalBoundary s = .next t ∧
        t.table = { s.table with intervalStart := s.table.intervalStart + 10000000 } ∧
        (∀ p, t.ports.get p =
          { s.ports.get p with intervalViolations := 0, intervalWords := 0, wouldQuarantine := false }) ∧
        { t with table := s.table, ports := s.ports } = s) ∧
    (∀ p : Fin 16, (s.ports.get p).state = .listen → (s.ports.get p).silence = some b →
      b + (c.ports.get p).silence * 1000000 ≤ s.time.localTime →
      ∃ t, exec (.silenceExpiry p) s = .next t ∧
        t.ports.get p = { s.ports.get p with
          state := .active, reason := .silence, silence := none, intervalViolations := 0, intervalWords := 0,
          wouldQuarantine := false } ∧
        (∀ q, q ≠ p → t.ports.get q = s.ports.get q) ∧ s.Handed t ∧ s.Gives t (s.portNotices t) ∧
        { t.unhanded s with ports := s.ports } = s)

/-! ## Reports -/

/-- RELEASE of an ARMING robot (R91), CLEAR_SUSPECT of a robot (R87) and ACCOUNT_CLEAR of a unit (R17), each completing
NORMAL with COMMAND_COMPLETION (R164); RELEASE gives ROBOT_RELEASED. -/
def Obligations.UnitCommandsTaken : Prop :=
  ∀ (w : Word) (s s1 : State) (c : HallConfig) (u : Fin 24),
    s.config = some c → s.report.lastSeq ≠ some (wordSeq w) → s.report.slot ≠ .inProgress →
    unitNumber (wordArg w) = some u →
    (∀ r, s.take processorTag (selGeneral .release) = some (w, s1) → c.kindOf u = .filler →
      s.robots.get u = some r → r.gate = .arming →
      ∃ t, exec .release s = .next t ∧ t.robots.get u = some { r with gate := .released, confirm := false } ∧
        (∀ v, v ≠ u → t.robots.get v = s.robots.get v) ∧ s.GeneralDone t w .normal [] ∧
        s.GivesOnly t [{ s.note .robotReleased with subject := u.val }, s.commandNotice w .normal] ∧
        { t.unsettled s1 with robots := s.robots, report := s.report } = s1) ∧
    (∀ r, s.take processorTag (selGeneral .clearSuspect) = some (w, s1) → c.kindOf u = .filler →
      s.robots.get u = some r →
      ∃ t r', exec .clearSuspect s = .next t ∧ t.robots.get u = some r' ∧
        r'.own = { r.own with suspect := false, ring := [] } ∧ r'.has .suspect = false ∧ s.HandedBut t u ∧
        s.GeneralDone t w .normal [] ∧ { t.unhanded s1 with report := s.report } = s1) ∧
    (s.take processorTag (selGeneral .accountClear) = some (w, s1) →
      ∃ t, exec .accountClear s = .next t ∧
        t.time.accounts.get u = { seconds := 0, remainder := 0, due := false } ∧
        (∀ v, v ≠ u → t.time.accounts.get v = s.time.accounts.get v) ∧ s.GeneralDone t w .normal [] ∧
        { t.time with accounts := s.time.accounts } = s.time ∧
        { t.unsettled s1 with time := s.time, report := s.report } = s1)

/-- PORT_CLEAR: history and violations cleared and LOCKED left (R138); PURGE: every slot marked purged (R42); LINE_RESUME: the
latched causes of the available gates removed, NORMAL when the set is then empty (R76); each with COMMAND_COMPLETION (R164),
PORT_CLEAR with PORT_STATE (R131). -/
def Obligations.LineCommandsTaken : Prop :=
  ∀ (w : Word) (s s1 : State) (c : HallConfig),
    s.config = some c → s.report.lastSeq ≠ some (wordSeq w) → s.report.slot ≠ .inProgress →
    (∀ p, s.take processorTag (selGeneral .portClear) = some (w, s1) → portNumber (wordArg w) = some p →
      let r := { s.ports.get p with history := [], violations := 0 }
      ∃ t, exec .portClear s = .next t ∧
        (r.state ≠ .locked → t.ports.get p = r) ∧
        (r.state = .locked → r.linkUp = true →
          t.ports.get p = { r with
            state := .active, reason := .clear, silence := none, intervalViolations := 0, intervalWords := 0,
            wouldQuarantine := false }) ∧
        (r.state = .locked → r.linkUp = false →
          t.ports.get p =
            { r with state := .down, reason := .clear, silence := none, denied := 0, fragments := 0 }) ∧
        (∀ q, q ≠ p → t.ports.get q = s.ports.get q) ∧ State.SequencesDiscarded c s t ∧
        s.GeneralDone t w .normal (s.portNotices t) ∧
        { t.unhanded s1 with
          ports := s.ports, report := s.report, gates := s.gates
          grading := { t.grading with cameras := s.grading.cameras } } = s1) ∧
    (s.take processorTag (selGeneral .purge) = some (w, s1) →
      ∃ t, exec .purge s = .next t ∧ t.queue = s.queue.map (fun q => { q with purged := true }) ∧
        s.GeneralDone t w .normal [] ∧
        { t.unsettled s1 with queue := s.queue, report := s.report } = s1) ∧
    (s.take processorTag (selGeneral .lineResume) = some (w, s1) →
      ∃ t, exec .lineResume s = .next t ∧
        (∀ g k, k = .missed ∨ k = .mismatch ∨ k = .unconfirmed →
          t.holds g k = (s.holds g k && !(s.available c g))) ∧
        s.GeneralDone t w (if t.lineHold = 0 then .normal else .abnormalRemaining) [] ∧
        (∀ u, (t.robots.get u).map Robot.own = (s.robots.get u).map Robot.own) ∧
        { t.unhanded s1 with report := s.report } = s1)

/-- SNAPSHOT of a camera copies its statistics, clears them with the clear flag, and presents the first line (R61, R62);
SNAPSHOT_WRITE_ANSWERED presents the second line, then completes NORMAL with COMMAND_COMPLETION, and
SNAPSHOT_FAULT after a FAULT (R62, R63, R164). Each line is a part of the record of 11.4, with 0 in every unlisted byte (R172), and
after each step the oldest notice is presented behind it if it may be (R167). -/
def Obligations.SnapshotTakenAndWritten : Prop :=
  ∀ (s : State) (c : HallConfig), s.config = some c →
    (∀ (w : Word) (s1 : State) (n : Fin 6), s.take processorTag (selGeneral .snapshot) = some (w, s1) →
      s.report.lastSeq ≠ some (wordSeq w) → s.report.slot ≠ .inProgress →
      (c.cameras.get n).present = true → wordArg w % 256 = n.val →
      let k := c.cameras.get n
      let before := s.grading.cameras.get n
      let clears := (wordArg w).testBit 8
      let q := s.report.snapshotSeq + 1
      ∃ t copy, exec .snapshot s = .next t ∧
        copy = { camera := n, unit := k.unit, clear := clears, time := s.time.hall, lastSeq := before.lastSeq,
                 counts := before.counts, generation := s.grading.generation, changeover := s.grading.changeover,
                 sequence := q } ∧
        { t.report with notices := s.report.notices, dropped := s.report.dropped } =
          { s.report with
            lastSeq := some (wordSeq w), slot := .inProgress, snapshotSeq := q,
            snapshot := some
              { copy := copy, addr := k.snapshotAddr, unanswered := 2, faulted := false, command := wordSeq w } } ∧
        t.Presents
          (s.path.ownQueue ++
            [{ requester := .snapshot, addr := k.snapshotAddr, data := recordWords copy.layout 0 16, oldRing := false }]) ∧
        t.grading.cameras.get n = (if clears then { before with counts := CameraCounts.zero } else before) ∧
        (∀ m, m ≠ n → t.grading.cameras.get m = s.grading.cameras.get m) ∧ s.GivesOnly t [] ∧
        { t.unsettled s1 with report := s.report, grading := { t.grading with cameras := s.grading.cameras } } = s1) ∧
    (∀ (ok : Bool) (o : OwnTxn) (rest : List OwnTxn) (k : Snapshot),
      s.path.ownAtMemory = o :: rest → o.requester = .snapshot → s.report.snapshot = some k →
      ∃ t, exec (.snapshotWriteAnswered ok) s = .next t ∧ t.path.ownAtMemory = rest ∧
        (k.unanswered = 2 → s.GivesOnly t [] ∧
          { t.report with notices := s.report.notices, dropped := s.report.dropped } =
            { s.report with snapshot := some { k with unanswered := 1, faulted := k.faulted || !ok } } ∧
          t.Presents
            (s.path.ownQueue ++
              [{ requester := .snapshot, addr := k.addr + 128, data := recordWords k.copy.layout 128 16,
                 oldRing := false }])) ∧
        (k.unanswered ≠ 2 → t.Presents s.path.ownQueue ∧
          s.GivesOnly t
            ({ s.note .commandCompletion with
               subject := 8, code := Completion.normal.code
               detail := BitVec.ofNat 32 (GeneralCommand.snapshot.code + 256 * k.command.toNat) } ::
              if k.faulted || !ok then
                [{ s.note .snapshotFault with subject := k.copy.unit, detail := k.copy.sequence }]
              else []) ∧
          { t.report with notices := s.report.notices, dropped := s.report.dropped } =
            { s.report with snapshot := none, slot := .complete, reply := some (k.command, .normal) }) ∧
        { t.unsettled s with
          report := s.report, path := { t.path with ownQueue := s.path.ownQueue, ownAtMemory := s.path.ownAtMemory } } = s)

/-- What the general slot refuses (R164): a repeated sequence is ignored, a word while a snapshot is in flight completes BUSY,
OTHER_COMMAND_CODE and an argument that names no such unit, port or camera complete INVALID. -/
def Obligations.GeneralSlotRefuses : Prop :=
  ∀ (i : Instr) (sel : Handover → Option Word) (w : Word) (s s1 : State) (c : HallConfig),
    s.take processorTag sel = some (w, s1) → s.config = some c →
    let q := wordSeq w
    let robot : Prop := ∃ u, unitNumber (wordArg w) = some u ∧ c.kindOf u = .filler
    let arming : Prop := ∃ u r, unitNumber (wordArg w) = some u ∧ s.robots.get u = some r ∧ r.gate = .arming
    let invalid : Prop :=
      (i = .release ∧ ¬ (robot ∧ arming)) ∨ (i = .clearSuspect ∧ ¬ robot) ∨
        (i = .accountClear ∧ 24 ≤ wordArg w) ∨ (i = .portClear ∧ (wordArg w = 0 ∨ 17 ≤ wordArg w)) ∨
        (i = .snapshot ∧ ∀ n : Fin 6, n.val = wordArg w % 256 → (c.cameras.get n).present = false) ∨
        i = .otherCommandCode 8
    ((i = .release ∧ sel = selGeneral .release) ∨ (i = .clearSuspect ∧ sel = selGeneral .clearSuspect) ∨
      (i = .accountClear ∧ sel = selGeneral .accountClear) ∨ (i = .portClear ∧ sel = selGeneral .portClear) ∨
      (i = .snapshot ∧ sel = selGeneral .snapshot) ∨ (i = .purge ∧ sel = selGeneral .purge) ∨
      (i = .lineResume ∧ sel = selGeneral .lineResume) ∨ (i = .otherCommandCode 8 ∧ sel = selGeneralOther)) →
    ∃ t, exec i s = .next t ∧
      (s.report.lastSeq = some q → s.GivesOnly t [] ∧ t.unsettled s1 = s1) ∧
      (s.report.lastSeq ≠ some q → s.report.slot = .inProgress →
        { t.report with notices := s.report.notices, dropped := s.report.dropped } =
            { s.report with lastSeq := some q, reply := some (q, .busy) } ∧
          s.GivesOnly t [s.commandNotice w .busy] ∧
          { t.unsettled s1 with report := s.report } = s1) ∧
      (s.report.lastSeq ≠ some q → s.report.slot ≠ .inProgress → invalid →
        s.GeneralDone t w .invalid [] ∧ { t.unsettled s1 with report := s.report } = s1)

/-- CONSUMER_WRITE between consumer and producer sets the consumer, any other is counted as an error (R168);
NOTICE_WRITE_ANSWERED removes the oldest notice and advances the producer, or at FAULT counts it dropped (R167); an answer
into the ring of before a FULL load leaves it (R169). After either, the oldest notice is presented at the entry that the producer
names, in the form of 11.4 with the kind codes of 11.1, while the ring has room and no notice write is outstanding (R167). -/
def Obligations.NoticeRingMoves : Prop :=
  (∀ s : State, s.given = [] →
    (∀ (v : BitVec 32) (s1 : State), s.take processorTag selConsumer = some (v, s1) →
      let within : Prop := (s.report.producer - v).toNat ≤ (s.report.producer - s.report.consumer).toNat
      ∃ t, exec .consumerWrite s = .next t ∧ t.Presents s.path.ownQueue ∧
        (within → t.report = { s.report with consumer := v }) ∧
        (¬ within → t.report = { s.report with consumerErrors := min 65535 (s.report.consumerErrors + 1) }) ∧
        { t.unsettled s1 with report := s.report } = s1) ∧
    (∀ (ok : Bool) (o : OwnTxn) (rest : List OwnTxn),
      s.path.ownAtMemory = o :: rest → o.requester = .notice →
      ∃ t, exec (.noticeWriteAnswered ok) s = .next t ∧ t.path.ownAtMemory = rest ∧ t.Presents s.path.ownQueue ∧
        (o.oldRing = true → t.report = s.report) ∧
        (o.oldRing = false → ok = true →
          t.report = { s.report with notices := s.report.notices.tail, producer := s.report.producer + 1 }) ∧
        (o.oldRing = false → ok = false →
          t.report =
            { s.report with notices := s.report.notices.tail, dropped := min 65535 (s.report.dropped + 1) }) ∧
        { t.unsettled s with
          report := s.report, path := { t.path with ownQueue := s.path.ownQueue, ownAtMemory := s.path.ownAtMemory } } = s)) ∧
  [ NoticeKind.clockStep, .clockBackslew, .clockLocked, .clockHoldover, .clockNone, .lineRunning, .lineStopped, .maintDue,
    .verdictUnplaced, .verdictLate, .verdictGap, .changeoverApplied, .snapshotFault, .lineHold, .robotSuspect, .robotFault,
    .robotLost, .robotHeld, .robotArming, .robotReleased, .zoneCompletion, .portState, .wouldQuarantine, .switchTableStale,
    .switchTableResumed, .loadOutcome, .commandCompletion ].map NoticeKind.code = List.range' 1 27

/-! ## Loads -/

/-- FULL_LOAD, PARAMETER_LOAD, CHANGEOVER_LOAD and OTHER_LOAD_KIND (R156): each request is counted; while READING it is
refused BUSY, another kind RANGE, a FULL load of a line in production LINE_ACTIVE, the others while UNCONFIGURED MISMATCH; an
accepted one reads line 0 of the image (R155, R157). A refusal has its LOAD_OUTCOME (R163). -/
def Obligations.LoadRequestsJudged : Prop :=
  ∀ (i : Instr) (sel : Handover → Option Word) (w : Word) (s s1 : State),
    s.take processorTag sel = some (w, s1) →
    let kind := loadKindByte w
    let lineActive : Prop := s.config ≠ none ∧
      (s.time.running = true ∨ ∃ u r, s.robots.get u = some r ∧ r.gate = .released)
    ((i = .fullLoad ∧ sel = selLoad .full) ∨ (i = .parameterLoad ∧ sel = selLoad .parameter) ∨
      (i = .changeoverLoad ∧ sel = selLoad .changeover) ∨ (i = .otherLoadKind ∧ sel = selLoadOther)) →
    ∃ t, exec i s = .next t ∧ { t.unsettled s1 with loader := s.loader } = s1 ∧
      let refused : LoadCode → Prop := fun code =>
        s.GivesOnly t [s.outcomeNotice { code := code, kind := kind, part := 0, entry := 0 }] ∧
        t.Presents s.path.ownQueue ∧
        t.loader = { s.loader with
          requests := s.loader.requests + 1, outcome := { code := code, kind := kind, part := 0, entry := 0 } }
      let accepted : LoadKind → Prop := fun k =>
        s.GivesOnly t [] ∧ t.loader = { s.loader with requests := s.loader.requests + 1, kind := some k, staged := [] } ∧
          t.Presents
            (s.path.ownQueue ++
              [{ requester := .config, addr := s.cfgBase.toNat * 2 ^ 24, data := [], oldRing := false }])
      (s.loader.kind ≠ none → refused .busy) ∧
      (s.loader.kind = none →
        (i = .otherLoadKind → refused .range) ∧
        (i = .fullLoad → lineActive → refused .lineActive) ∧
        (i = .fullLoad → ¬ lineActive → accepted .full) ∧
        (i = .parameterLoad → s.config = none → refused .mismatch) ∧
        (i = .parameterLoad → s.config ≠ none → accepted .parameter) ∧
        (i = .changeoverLoad → s.config = none → refused .mismatch) ∧
        (i = .changeoverLoad → s.config ≠ none → accepted .changeover))

/-- CONFIG_READ_ANSWERED (R157): a FAULT ends the load READ_ERROR with the section of its line; an OKAY stages the line and
reads the next. After the last line the image is validated (R158) and meets the tests of its kind (R159): no zone OPEN for
PARAMETER and CHANGEOVER, no differing item but those R161 replaces for PARAMETER, no slot of the other bank generation for
CHANGEOVER. What fails first refuses the load and changes nothing else; else the load is applied: FULL (R160), PARAMETER (R161),
or CHANGEOVER, which fills STAGING (R162). Each end has its LOAD_OUTCOME (R163). The image is read as 11.6 lays it out and a
refusal shows the first check that fails (R158, R65, R173); `RefusesFirst`, `Image.Reads`, `Image.Fails` and `Differs` say how.
Not the rules' words but the model's: the subject of CLOCK_NONE at a FULL load (log 12); which checks reach a field without
meaning, the entry of a check that relates several entries or none, that of one relating gates 0 and 1, that of a unit standing
twice or a window of the wrong kind (logs 15, 16, 52, 34); that the CONSISTENCY checks pass over absent gates and cameras and
unused fill positions (log 55); the code of a header that fails both its tests (log 51); fields of an entry without a gap (log
45); the words that answer a read (log 39); that a notice write presented and not yet granted belongs to the old ring too (log
29); that a cancelled ENTER's notice shows START (log 35); the order of a PARAMETER load's re-tests (log 33) and that the zone
tests the loss a changed status timeout brings (log 48). -/
def Obligations.ConfigReadAnswered : Prop :=
  (∀ (s : State) (k : LoadKind) (o : OwnTxn) (rest : List OwnTxn) (data : List Word),
    s.path.ownAtMemory = o :: rest → o.requester = .config → s.loader.kind = some k →
    let staged := s.loader.staged ++ [fitWords 16 data]
    let image := imageOf k staged
    let ended (t : State) (code : LoadCode) (part entry : Nat) : Prop :=
      t.loader = { s.loader with
        kind := none, staged := [], outcome := { code := code, kind := k.code, part := part, entry := entry } }
    let pathFrame (t : State) (waiting : List OwnTxn) : Prop :=
      t.path.ownAtMemory = rest ∧ t.Presents waiting ∧
        { t.path with ownQueue := s.path.ownQueue, ownAtMemory := s.path.ownAtMemory } = s.path
    let refused (ok : Bool) (code : LoadCode) (part entry : Nat) : Prop :=
      ∃ t, exec (.configReadAnswered ok data) s = .next t ∧ pathFrame t s.path.ownQueue ∧ ended t code part entry ∧
        s.GivesOnly t [s.outcomeNotice { code := code, kind := k.code, part := part, entry := entry }] ∧
        { t.unsettled s with loader := s.loader, path := s.path } = s
    let closed : Prop := ∀ z, (s.zones.get z).state ≠ .opened
    let firstOpen (z : Fin 8) : Prop := (s.zones.get z).state = .opened ∧ ∀ y, y < z → (s.zones.get y).state ≠ .opened
    (∀ n, k.lines[s.loader.staged.length]? = some n → refused false .readError (partOfLine n) 0) ∧
    (∀ n, k.lines[staged.length]? = some n →
      ∃ t, exec (.configReadAnswered true data) s = .next t ∧ s.GivesOnly t [] ∧
        pathFrame t
          (s.path.ownQueue ++
            [{ requester := .config, addr := s.cfgBase.toNat * 2 ^ 24 + 128 * n, data := [], oldRing := false }]) ∧
        t.loader = { s.loader with staged := staged } ∧
        { t.unsettled s with loader := s.loader, path := s.path } = s) ∧
    (k = .changeover → staged.length = 17 →
      (∀ r, Image.validateTemplates image = some r → refused true r.code r.part r.entry) ∧
      (Image.validateTemplates image = none →
        (∀ z, firstOpen z → refused true .zoneOpen 3 z.val) ∧
        (closed → (∃ q ∈ s.queue, q.generation ≠ s.grading.generation) → refused true .busy 8 0) ∧
        (closed → (∀ q ∈ s.queue, q.generation = s.grading.generation) →
          ∃ t, exec (.configReadAnswered true data) s = .next t ∧ pathFrame t s.path.ownQueue ∧ ended t .applied 0 0 ∧
            s.GivesOnly t [s.outcomeNotice { code := .applied, kind := 3, part := 0, entry := 0 }] ∧
            t.grading = { s.grading with staging := some (Image.bank image) } ∧
            { t.unsettled s with loader := s.loader, path := s.path, grading := s.grading } = s))) ∧
    (∀ c, k = .parameter → staged.length = 128 → s.config = some c →
      let new := Image.config image
      (∀ r, Image.validateWhole image = some r → refused true r.code r.part r.entry) ∧
      (Image.validateWhole image = none →
        (∀ z, firstOpen z → refused true .zoneOpen 3 z.val) ∧
        (∀ r, closed → mismatch c new s.grading.current (Image.bank image) = some r →
          refused true r.code r.part r.entry) ∧
        (closed → mismatch c new s.grading.current (Image.bank image) = none →
          ∃ t, exec (.configReadAnswered true data) s = .next t ∧ pathFrame t s.path.ownQueue ∧ ended t .applied 0 0 ∧
            s.ParameterApplied t c new))) ∧
    (k = .full → staged.length = 128 →
      (∀ r, Image.validateWhole image = some r → refused true r.code r.part r.entry) ∧
      (Image.validateWhole image = none →
        ∃ t, exec (.configReadAnswered true data) s = .next t ∧ ended t .applied 0 0 ∧
          s.FullApplied t (Image.config image) (Image.bank image) ∧
          let old : OwnTxn → OwnTxn := fun o => if o.requester = .notice then { o with oldRing := true } else o
          t.path.ownAtMemory = rest.map old ∧ t.Presents (s.path.ownQueue.map old)))) ∧
  (∀ (c new : HallConfig) (b image : Bank), mismatch c new b image = none ↔
    (∀ i, new.windows.get i = c.windows.get i) ∧
    (∀ u, { new.units.get u with safeCount := 0, statusTimeout := 0, staleLimit := 0, vmin := 0, vmax := 0, slew := 0 } =
      { c.units.get u with safeCount := 0, statusTimeout := 0, staleLimit := 0, vmin := 0, vmax := 0, slew := 0 }) ∧
    (∀ z, new.zones.get z = c.zones.get z) ∧
    (∀ g, { new.gates.get g with statusTimeout := 0 } = { c.gates.get g with statusTimeout := 0 }) ∧
    new.fillCount = c.fillCount ∧ (∀ i, new.fillUnits.get i = c.fillUnits.get i) ∧
    (∀ n, { new.cameras.get n with halfWindow := 0, verbose := false } =
      { c.cameras.get n with halfWindow := 0, verbose := false }) ∧
    (∀ i j, (image.get i).get j = (b.get i).get j) ∧ new.ringSize = c.ringSize) ∧
  (∀ (c new : HallConfig) (b image : Bank),
    RefusesFirst (fun part entry code => code = .mismatch ∧ Differs c new b image part entry) (mismatch c new b image)) ∧
  (∀ m : Image, Image.Reads m (Image.config m) (Image.bank m) ∧
    RefusesFirst (Image.Fails m) (Image.validateWhole m) ∧
    RefusesFirst (fun part entry code => (part = 0 ∨ part = 8) ∧ Image.Fails m part entry code)
      (Image.validateTemplates m)) ∧
  (∀ (k : LoadKind) (head : List Word) (staged : List (List Word)) (n : Nat),
    let line : List Word → List Byte := fun ws =>
      ws.flatMap fun w => (List.range 8).map fun i => BitVec.ofNat 8 (w.toNat / 256 ^ i)
    (k ≠ .changeover → (imageOf k staged)[n]? = staged[n]?.map line) ∧
      (k = .changeover →
        (imageOf k (head :: staged))[0]? = some (line head) ∧ (imageOf k (head :: staged))[17 + n]? = staged[n]?.map line)) ∧
  (∀ data : List Word, data.length = 16 → fitWords 16 data = data) ∧
  LoadKind.full.lines = List.range 128 ∧ LoadKind.parameter.lines = List.range 128 ∧
  LoadKind.changeover.lines = 0 :: List.range' 17 16 ∧ (∀ n, 35 ≤ n → partOfLine n = 255) ∧
  (List.range 35).map partOfLine =
    [0] ++ List.replicate 4 1 ++ List.replicate 6 2 ++ [3, 4, 5, 6] ++ List.replicate 2 7 ++ List.replicate 16 8 ++ [9, 10]
end

