-- ==== Sys2Proof/Laws/Table.lean ====
section
/-! SUPPORT. What each operation of a fixed-size table reads as. -/

namespace Sys2Proof

variable {α β : Type} {n : Nat}

/-- Two tables with the same entries are the same. -/
theorem Table.ext_get (s t : Table α n) (h : ∀ i, s.get i = t.get i) : s = t := by
  obtain ⟨l, hl⟩ := s
  obtain ⟨m, hm⟩ := t
  simp only [Table.mk.injEq]
  apply List.ext_get (hl.trans hm.symm)
  intro i h1 h2
  have := h ⟨i, hl ▸ h1⟩
  simpa [Table.get] using this

/-- Entry `i` of a table made by a function. -/
@[simp] theorem Table.get_ofFn (f : Fin n → α) (i : Fin n) : (Table.ofFn f).get i = f i := by
  simp only [Table.get, Table.ofFn, List.get_eq_getElem, List.getElem_ofFn]
  rfl

/-- Entry `i` of a table of equal entries. -/
@[simp] theorem Table.get_replicate (a : α) (i : Fin n) : (Table.replicate n a).get i = a := by
  simp [Table.get, Table.replicate]

/-- Entry `i` of a table changed entry by entry. -/
@[simp] theorem Table.get_mapFin (t : Table α n) (f : Fin n → α → β) (i : Fin n) : (t.mapFin f).get i = f i (t.get i) := by
  simp [Table.mapFin]

/-- The entry just written. -/
@[simp] theorem Table.get_set_self (t : Table α n) (i : Fin n) (a : α) : (t.set i a).get i = a := by
  exact List.getElem_set_self _

/-- Every other entry stands. -/
theorem Table.get_set_ne (t : Table α n) {i j : Fin n} (a : α) (h : j ≠ i) : (t.set i a).get j = t.get j := by
  have : i.val ≠ j.val := fun e => h (Fin.ext e.symm)
  exact List.getElem_set_ne this _

/-- Any entry after a write. -/
theorem Table.get_set (t : Table α n) (i j : Fin n) (a : α) : (t.set i a).get j = if j = i then a else t.get j := by
  by_cases h : j = i
  · subst h; simp
  · simp [h, Table.get_set_ne t a h]

/-- The entry just changed. -/
@[simp] theorem Table.get_modify_self (t : Table α n) (i : Fin n) (f : α → α) : (t.modify i f).get i = f (t.get i) := by
  simp [Table.modify]

/-- Every other entry stands. -/
theorem Table.get_modify_ne (t : Table α n) {i j : Fin n} (f : α → α) (h : j ≠ i) : (t.modify i f).get j = t.get j := by
  simp [Table.modify, Table.get_set_ne t _ h]

/-- Any entry after a change of one. -/
theorem Table.get_modify (t : Table α n) (i j : Fin n) (f : α → α) :
    (t.modify i f).get j = if j = i then f (t.get j) else t.get j := by
  by_cases h : j = i
  · subst h; simp
  · simp [h, Table.get_modify_ne t f h]

/-- Writing back what stands there changes nothing. -/
@[simp] theorem Table.set_get (t : Table α n) (i : Fin n) : t.set i (t.get i) = t := by
  apply Table.ext_get
  intro j
  rw [Table.get_set]
  split
  · next h => rw [h]
  · rfl

/-- Two changes of one entry are one. -/
@[simp] theorem Table.modify_modify (t : Table α n) (i : Fin n) (f g : α → α) :
    (t.modify i f).modify i g = t.modify i fun a => g (f a) := by
  apply Table.ext_get
  intro j
  simp only [Table.get_modify]
  split <;> rfl

/-- A change that changes nothing. -/
@[simp] theorem Table.modify_id (t : Table α n) (i : Fin n) : (t.modify i fun a => a) = t := by
  simp [Table.modify]

end Sys2Proof
end

