-- ==== Sys2Proof/Laws/Formats.lean ====
section
/-! SUPPORT. What the statements' formats (Sys2Proof/Formats.lean) come down to: the presenting of the oldest notice at the end of a
step, the records the part writes, the numbers in an image's bytes, and the first of the checks that fail. -/

namespace Sys2Proof.Machine

/-! ## Records -/

/-- A notice entry is that of 11.4. -/
theorem Notice.fields_eq_layout (n : Notice) : n.fields = n.layout := by
  unfold Notice.fields Notice.layout
  cases n.bottle <;> rfl

/-- The fifteen counts of a snapshot record stand at 32 to 91 (11.4). -/
theorem CameraCounts.inOrder_fields (k : CameraCounts) :
    k.inOrder.mapIdx (fun i n => (⟨32 + 4 * i, 4, n⟩ : Field)) =
      [ ⟨32, 4, k.taken⟩, ⟨36, 4, k.placed⟩, ⟨40, 4, k.unplaced⟩, ⟨44, 4, k.tooOld⟩, ⟨48, 4, k.future⟩, ⟨52, 4, k.stalled⟩,
        ⟨56, 4, k.ambiguous⟩, ⟨60, 4, k.outOfRange⟩, ⟨64, 4, k.late⟩, ⟨68, 4, k.pass⟩, ⟨72, 4, k.minor⟩, ⟨76, 4, k.major⟩,
        ⟨80, 4, k.stale⟩, ⟨84, 4, k.missed⟩, ⟨88, 4, k.double⟩ ] := by
  simp [CameraCounts.inOrder]

/-- A snapshot record is that of 11.4. -/
theorem SnapshotCopy.fields_eq_layout (k : SnapshotCopy) : k.fields = k.layout := by
  unfold SnapshotCopy.fields SnapshotCopy.layout
  rw [CameraCounts.inOrder_fields]
  cases k.lastSeq <;> cases k.changeover <;> rfl

/-! ## The presenting of notices -/

/-- Window `i` is the NOTICE window when no entry before it is one. -/
theorem HallConfig.noticeWindow_first {c : HallConfig} {i : Fin 32} (hi : (c.windows.get i).kind = .notice)
    (hj : ∀ j, j < i → (c.windows.get j).kind ≠ .notice) : c.noticeWindow = some (c.windows.get i) := by
  have found : (List.finRange 32).find? (fun i => decide ((c.windows.get i).kind = .notice)) = some i := by
    rw [List.find?_eq_some_iff_append]
    refine ⟨by simpa using hi, (List.finRange 32).take i.val, (List.finRange 32).drop (i.val + 1), ?_, ?_⟩
    · have at_i : (List.finRange 32)[i.val]'(by simp) = i := by simp
      conv_lhs => rw [← List.take_append_drop i.val (List.finRange 32), List.drop_eq_getElem_cons (by simp), at_i]
    · intro a ha
      obtain ⟨k, hk, rfl⟩ := List.mem_iff_getElem.1 ha
      simp only [List.length_take, List.length_finRange] at hk
      have := hj ((List.take i.val (List.finRange 32))[k]) (by simp [Fin.lt_def]; omega)
      simp at this ⊢
      exact this
  simp [HallConfig.noticeWindow, found]

/-- The end of a step presents the oldest notice behind what waits in the own queue, if it may be presented, and nothing else
(R167). -/
theorem State.settle_presents (s : State) : s.settle.Presents s.path.ownQueue := by
  have out : s.joinGiven.path.noticeOut = true ↔ ∃ o ∈ s.path.ownQueue ++ s.path.ownAtMemory, o.requester = .notice := by
    show (s.path.ownQueue ++ s.path.ownAtMemory).any (fun o => decide (o.requester = .notice)) = true ↔ _
    rw [List.any_eq_true]
    simp only [decide_eq_true_eq]
  unfold State.Presents
  rw [show s.settle.config = s.config from rfl, show s.settle.path.ownAtMemory = s.path.ownAtMemory from rfl,
    show s.settle.report = s.joinGiven.report from rfl,
    show s.settle.path.ownQueue = s.path.ownQueue ++ s.joinGiven.noticeToPresent.toList from rfl]
  constructor
  · intro c i n hc hi hj hn free room
    have write : s.joinGiven.noticeToPresent =
        some (noticeWrite (c.windows.get i) c.ringSize s.joinGiven.report.producer n) := by
      unfold State.noticeToPresent
      cases hl : s.joinGiven.report.notices with
      | nil => simp [hl] at hn
      | cons a as =>
        obtain rfl : a = n := by simpa [hl] using hn
        rw [show s.joinGiven.config = some c from hc]
        simp only [HallConfig.noticeWindow_first hi hj]
        rw [if_pos]
        rw [show s.joinGiven.path.noticeOut = false by rw [← Bool.not_eq_true, out]; exact free]
        simpa only [Report.room, Bool.not_false, Bool.and_true, decide_eq_true_eq] using room
    rw [write]
    simp [noticeWrite, Notice.fields_eq_layout]
  · intro h
    have kept : s.joinGiven.noticeToPresent = none := by
      unfold State.noticeToPresent
      split
      · next c n ns hc hl =>
        split
        · next w hw =>
          rw [if_neg]
          intro may
          simp only [Bool.and_eq_true, Bool.not_eq_true', Report.room, decide_eq_true_eq] at may
          rcases h with h | h | h
          · simp [hl] at h
          · exact absurd (out.2 h) (by simp [may.2])
          · rcases h c hc with h | h
            · exact h may.1
            · unfold HallConfig.noticeWindow at hw
              obtain ⟨a, ha, _⟩ := Option.map_eq_some_iff.1 hw
              exact h a (by simpa using List.find?_some ha)
        · rfl
      · rfl
    rw [kept]
    simp

/-! ## Numbers in an image -/

/-- The number in the first `n` bytes, byte by byte. -/
theorem leNat_take (l : List Byte) (n : Nat) :
    leNat (l.take n) = ((List.range n).map fun j => (l.getD j 0).toNat * 256 ^ j).sum := by
  have scale : ∀ (l : List Nat) (f : Nat → Nat), (l.map fun j => 256 * f j).sum = 256 * (l.map f).sum := by
    intro l f
    induction l <;> simp_all [Nat.mul_add]
  induction n generalizing l with
  | zero => simp [leNat]
  | succ n ih =>
    rw [List.range_succ_eq_map]
    cases l with
    | nil =>
      simp only [List.take_nil, leNat]
      symm
      apply List.sum_eq_zero
      intro x hx
      simp at hx
      omega
    | cons b bs =>
      simp only [List.take_succ_cons, leNat, ih, List.map_cons, List.sum_cons, List.map_map, pow_zero, mul_one,
        List.getD_cons_zero]
      congr 1
      rw [← scale]
      congr 1
      apply List.map_congr_left
      intro j _
      simp [pow_succ]
      ring

/-- A field of a line. -/
theorem Image.fieldAt_line (m : Image) (l off size : Nat) : fieldAt (m.getD l []) off size = m.num l off size := by
  simp [fieldAt, leNat_take, Image.num, List.getD_eq_getElem?_getD, List.getElem?_drop]

/-- A byte of an entry. -/
theorem Image.getD_entry (m : Image) (first size i o : Nat) (h : o < size) :
    (Image.entry m first size i).getD o 0 = (m.getD (first + size * i / 128) []).getD (size * i % 128 + o) 0 := by
  rw [Image.entry, List.getD_eq_getElem?_getD, List.getElem?_take_of_lt h, List.getElem?_drop, ← List.getD_eq_getElem?_getD]

/-- A field of an entry stands on the entry's line, at the entry's offset (11.6). -/
theorem Image.fieldAt_entry (m : Image) (first size i off n : Nat) (h : off + n ≤ size) :
    fieldAt (Image.entry m first size i) off n = m.num (first + size * i / 128) (size * i % 128 + off) n := by
  simp only [fieldAt, leNat_take, Image.num]
  congr 1
  apply List.map_congr_left
  intro j hj
  have hj := List.mem_range.1 hj
  congr 2
  rw [show ((Image.entry m first size i).drop off).getD j 0 = (Image.entry m first size i).getD (off + j) 0 by
    simp [List.getD_eq_getElem?_getD, List.getElem?_drop], Image.getD_entry _ _ _ _ _ (by omega), Nat.add_assoc]

/-- A flag of an entry is bit 0 of its byte (R173). -/
theorem Image.flagAt_entry (m : Image) (first size i off : Nat) (h : off + 1 ≤ size) :
    flagAt (Image.entry m first size i) off 0 = true ↔
      m.num (first + size * i / 128) (size * i % 128 + off) 1 % 2 = 1 := by
  rw [flagAt, Image.getD_entry _ _ _ _ _ (by omega), BitVec.getLsbD, Nat.testBit_zero]
  simp [Image.num]

/-- A number of `size` bytes is below 256^`size`. -/
theorem Image.num_lt (m : Image) (l off size : Nat) : m.num l off size < 256 ^ size := by
  unfold Image.num
  induction size with
  | zero => simp
  | succ n ih =>
    rw [List.range_succ, List.map_append, List.sum_append]
    simp only [List.map_cons, List.map_nil, List.sum_cons, List.sum_nil]
    have byte : ((m.getD l []).getD (off + n) 0).toNat < 256 := BitVec.isLt _
    have top := Nat.mul_le_mul_right (256 ^ n) (Nat.le_of_lt_succ byte)
    have : 255 * 256 ^ n + 256 ^ n = 256 ^ n * 256 := by ring
    rw [pow_succ]
    simp only [Nat.add_zero]
    omega

/-! ## The first check that fails -/

/-- In a section's list of failures nothing but CONSISTENCY of an entry stands after a CONSISTENCY of it (log 16). -/
def RangeFirst (fs : List Failure) : Prop :=
  fs.Pairwise fun a b => a.1 = b.1 → a.2 = .consistency → b.2 = .consistency

/-- No failure is reported only of an empty list. -/
theorem firstFailure_eq_none (fs : List Failure) : firstFailure fs = none ↔ fs = [] := by
  cases fs with
  | nil => simp [firstFailure]
  | cons f fs =>
    simp only [firstFailure]
    split <;> simp
    split <;> simp

/-- The failure reported is one of the list, of the lowest entry, RANGE before CONSISTENCY. -/
theorem firstFailure_eq_some (fs : List Failure) (h : RangeFirst fs) (f : Failure) (hf : firstFailure fs = some f) :
    f ∈ fs ∧ ∀ g ∈ fs, f.1 < g.1 ∨ (f.1 = g.1 ∧ (f.2 = .consistency → g.2 = .consistency)) := by
  induction fs generalizing f with
  | nil => simp [firstFailure] at hf
  | cons a fs ih =>
    have ho := List.pairwise_cons.1 h
    simp only [firstFailure] at hf
    cases hg : firstFailure fs with
    | none =>
      rw [hg] at hf
      obtain rfl := (firstFailure_eq_none fs).1 hg
      obtain rfl : a = f := by simpa using hf
      simp
    | some g =>
      obtain ⟨gm, gl⟩ := ih ho.2 g hg
      rw [hg] at hf
      simp only [] at hf
      split at hf
      · next lt =>
        obtain rfl : g = f := by simpa using hf
        refine ⟨List.mem_cons_of_mem _ gm, fun x hx => ?_⟩
        rcases List.mem_cons.1 hx with rfl | hx
        · exact .inl lt
        · exact gl x hx
      · next lt =>
        obtain rfl : a = f := by simpa using hf
        refine ⟨List.mem_cons_self, fun x hx => ?_⟩
        rcases List.mem_cons.1 hx with rfl | hx
        · exact .inr ⟨rfl, id⟩
        · by_cases e : a.1 = x.1
          · exact .inr ⟨e, ho.1 x hx e⟩
          · rcases gl x hx with h1 | h1 <;> exact .inl (by omega)

/-- The refusal of a whole image is the first of its sections' failures, when each section reports what fails in it. -/
theorem firstRefusal_refusesFirst (fails : Nat → Nat → LoadCode → Prop) (sections : List (Nat × List Failure))
    (ascending : sections.Pairwise fun a b => a.1 < b.1)
    (clean : ∀ a ∈ sections, firstFailure a.2 = none → ∀ e k, ¬ fails a.1 e k)
    (first : ∀ a ∈ sections, ∀ f, firstFailure a.2 = some f → fails a.1 f.1 f.2 ∧
      ∀ e k, fails a.1 e k → f.1 < e ∨ (f.1 = e ∧ (f.2 = .consistency → k = .consistency)))
    (all : ∀ p e k, fails p e k → p ∈ sections.map Prod.fst) :
    RefusesFirst fails (firstRefusal (sections.map fun a => refusal a.1 a.2)) := by
  induction sections with
  | nil =>
    refine ⟨?_, by simp [firstRefusal], by simp [firstRefusal]⟩
    simp only [firstRefusal, List.map_nil, List.findSome?_nil, true_iff]
    intro p e k h
    simpa using all p e k h
  | cons a rest ih =>
    have before := List.pairwise_cons.1 ascending
    have part : ∀ p e k, fails p e k → p = a.1 ∨ p ∈ rest.map Prod.fst := fun p e k h => by simpa using all p e k h
    cases hf : firstFailure a.2 with
    | none =>
      have here := clean a (by simp) hf
      rw [show firstRefusal ((a :: rest).map fun a => refusal a.1 a.2) =
          firstRefusal (rest.map fun a => refusal a.1 a.2) by simp [firstRefusal, refusal, hf]]
      refine ih before.2 (fun b hb => clean b (by simp [hb])) (fun b hb => first b (by simp [hb])) fun p e k h => ?_
      rcases part p e k h with rfl | h1
      · exact absurd h (here e k)
      · exact h1
    | some f =>
      obtain ⟨shown, least⟩ := first a (by simp) f hf
      rw [show firstRefusal ((a :: rest).map fun a => refusal a.1 a.2) =
          some { code := f.2, part := a.1, entry := f.1 } by simp [firstRefusal, refusal, hf]]
      refine ⟨?_, ?_, ?_⟩
      · simp only [reduceCtorEq, false_iff, not_forall, not_not]
        exact ⟨_, _, _, shown⟩
      · rintro r ⟨⟩
        exact shown
      · rintro r ⟨⟩ p e k h
        rcases part p e k h with rfl | h1
        · exact .inr ⟨rfl, least e k h⟩
        · obtain ⟨b, hb, rfl⟩ := List.mem_map.1 h1
          exact .inl (before.1 b hb)

/-- A failure stands in a list of one check when that check fails. -/
theorem mem_fails (bad : Bool) (entry : Nat) (code : LoadCode) (f : Failure) :
    f ∈ fails bad entry code ↔ bad = true ∧ f = (entry, code) := by
  cases bad <;> simp [fails]

/-- The failures of a section whose entries are checked one by one. -/
theorem mem_each {n : Nat} (range consistent : Fin n → Bool) (number : Fin n → Nat) (e : Nat) (k : LoadCode) :
    (e, k) ∈ each range consistent number ↔
      (k = .range ∧ ∃ i, e = number i ∧ range i = true) ∨
        (k = .consistency ∧ ∃ i, e = number i ∧ consistent i = true) := by
  simp only [each, List.mem_flatMap, List.mem_finRange, true_and, List.mem_append, mem_fails, Prod.mk.injEq]
  constructor
  · rintro ⟨i, ⟨h, rfl, rfl⟩ | ⟨h, rfl, rfl⟩⟩
    · exact .inl ⟨rfl, i, rfl, h⟩
    · exact .inr ⟨rfl, i, rfl, h⟩
  · rintro (⟨rfl, i, rfl, h⟩ | ⟨rfl, i, rfl, h⟩)
    · exact ⟨i, .inl ⟨h, rfl, rfl⟩⟩
    · exact ⟨i, .inr ⟨h, rfl, rfl⟩⟩

/-- Such a section lists RANGE before CONSISTENCY. -/
theorem rangeFirst_each {n : Nat} (range consistent : Fin n → Bool) (number : Fin n → Nat)
    (distinct : ∀ i j, number i = number j → i = j) : RangeFirst (each range consistent number) := by
  unfold each RangeFirst
  rw [List.pairwise_flatMap]
  constructor
  · intro i _
    cases hr : range i <;> cases hc : consistent i <;> simp [fails]
  · refine (List.nodup_finRange n).imp fun {i j} ne x hx y hy e => absurd (distinct i j ?_) ne
    simp only [List.mem_append, mem_fails] at hx hy
    rcases hx with ⟨_, rfl⟩ | ⟨_, rfl⟩ <;> rcases hy with ⟨_, rfl⟩ | ⟨_, rfl⟩ <;> exact e

end Sys2Proof.Machine
end

