-- ==== Sys2Proof/Laws/State.lean ====
section
/-! SUPPORT. Every field of the state after each of the small updates of Machine/Ops.lean. -/

namespace Sys2Proof.Machine

variable (s : State)

/-! ## onTime -/

@[simp] theorem State.onTime_pending (f : TimeUnit → TimeUnit) : (s.onTime f).pending = s.pending := rfl
@[simp] theorem State.onTime_given (f : TimeUnit → TimeUnit) : (s.onTime f).given = s.given := rfl
@[simp] theorem State.onTime_freeIndex (f : TimeUnit → TimeUnit) : (s.onTime f).freeIndex = s.freeIndex := rfl
@[simp] theorem State.onTime_cfgBase (f : TimeUnit → TimeUnit) : (s.onTime f).cfgBase = s.cfgBase := rfl
@[simp] theorem State.onTime_observeAll (f : TimeUnit → TimeUnit) : (s.onTime f).observeAll = s.observeAll := rfl
@[simp] theorem State.onTime_guards (f : TimeUnit → TimeUnit) : (s.onTime f).guards = s.guards := rfl
@[simp] theorem State.onTime_config (f : TimeUnit → TimeUnit) : (s.onTime f).config = s.config := rfl
@[simp] theorem State.onTime_time (f : TimeUnit → TimeUnit) : (s.onTime f).time = f s.time := rfl
@[simp] theorem State.onTime_queue (f : TimeUnit → TimeUnit) : (s.onTime f).queue = s.queue := rfl
@[simp] theorem State.onTime_grading (f : TimeUnit → TimeUnit) : (s.onTime f).grading = s.grading := rfl
@[simp] theorem State.onTime_gates (f : TimeUnit → TimeUnit) : (s.onTime f).gates = s.gates := rfl
@[simp] theorem State.onTime_lineHold (f : TimeUnit → TimeUnit) : (s.onTime f).lineHold = s.lineHold := rfl
@[simp] theorem State.onTime_robots (f : TimeUnit → TimeUnit) : (s.onTime f).robots = s.robots := rfl
@[simp] theorem State.onTime_zones (f : TimeUnit → TimeUnit) : (s.onTime f).zones = s.zones := rfl
@[simp] theorem State.onTime_ports (f : TimeUnit → TimeUnit) : (s.onTime f).ports = s.ports := rfl
@[simp] theorem State.onTime_table (f : TimeUnit → TimeUnit) : (s.onTime f).table = s.table := rfl
@[simp] theorem State.onTime_path (f : TimeUnit → TimeUnit) : (s.onTime f).path = s.path := rfl
@[simp] theorem State.onTime_loader (f : TimeUnit → TimeUnit) : (s.onTime f).loader = s.loader := rfl
@[simp] theorem State.onTime_report (f : TimeUnit → TimeUnit) : (s.onTime f).report = s.report := rfl

/-! ## onGrading -/

@[simp] theorem State.onGrading_pending (f : Grading → Grading) : (s.onGrading f).pending = s.pending := rfl
@[simp] theorem State.onGrading_given (f : Grading → Grading) : (s.onGrading f).given = s.given := rfl
@[simp] theorem State.onGrading_freeIndex (f : Grading → Grading) : (s.onGrading f).freeIndex = s.freeIndex := rfl
@[simp] theorem State.onGrading_cfgBase (f : Grading → Grading) : (s.onGrading f).cfgBase = s.cfgBase := rfl
@[simp] theorem State.onGrading_observeAll (f : Grading → Grading) : (s.onGrading f).observeAll = s.observeAll := rfl
@[simp] theorem State.onGrading_guards (f : Grading → Grading) : (s.onGrading f).guards = s.guards := rfl
@[simp] theorem State.onGrading_config (f : Grading → Grading) : (s.onGrading f).config = s.config := rfl
@[simp] theorem State.onGrading_time (f : Grading → Grading) : (s.onGrading f).time = s.time := rfl
@[simp] theorem State.onGrading_queue (f : Grading → Grading) : (s.onGrading f).queue = s.queue := rfl
@[simp] theorem State.onGrading_grading (f : Grading → Grading) : (s.onGrading f).grading = f s.grading := rfl
@[simp] theorem State.onGrading_gates (f : Grading → Grading) : (s.onGrading f).gates = s.gates := rfl
@[simp] theorem State.onGrading_lineHold (f : Grading → Grading) : (s.onGrading f).lineHold = s.lineHold := rfl
@[simp] theorem State.onGrading_robots (f : Grading → Grading) : (s.onGrading f).robots = s.robots := rfl
@[simp] theorem State.onGrading_zones (f : Grading → Grading) : (s.onGrading f).zones = s.zones := rfl
@[simp] theorem State.onGrading_ports (f : Grading → Grading) : (s.onGrading f).ports = s.ports := rfl
@[simp] theorem State.onGrading_table (f : Grading → Grading) : (s.onGrading f).table = s.table := rfl
@[simp] theorem State.onGrading_path (f : Grading → Grading) : (s.onGrading f).path = s.path := rfl
@[simp] theorem State.onGrading_loader (f : Grading → Grading) : (s.onGrading f).loader = s.loader := rfl
@[simp] theorem State.onGrading_report (f : Grading → Grading) : (s.onGrading f).report = s.report := rfl

/-! ## onReport -/

@[simp] theorem State.onReport_pending (f : Report → Report) : (s.onReport f).pending = s.pending := rfl
@[simp] theorem State.onReport_given (f : Report → Report) : (s.onReport f).given = s.given := rfl
@[simp] theorem State.onReport_freeIndex (f : Report → Report) : (s.onReport f).freeIndex = s.freeIndex := rfl
@[simp] theorem State.onReport_cfgBase (f : Report → Report) : (s.onReport f).cfgBase = s.cfgBase := rfl
@[simp] theorem State.onReport_observeAll (f : Report → Report) : (s.onReport f).observeAll = s.observeAll := rfl
@[simp] theorem State.onReport_guards (f : Report → Report) : (s.onReport f).guards = s.guards := rfl
@[simp] theorem State.onReport_config (f : Report → Report) : (s.onReport f).config = s.config := rfl
@[simp] theorem State.onReport_time (f : Report → Report) : (s.onReport f).time = s.time := rfl
@[simp] theorem State.onReport_queue (f : Report → Report) : (s.onReport f).queue = s.queue := rfl
@[simp] theorem State.onReport_grading (f : Report → Report) : (s.onReport f).grading = s.grading := rfl
@[simp] theorem State.onReport_gates (f : Report → Report) : (s.onReport f).gates = s.gates := rfl
@[simp] theorem State.onReport_lineHold (f : Report → Report) : (s.onReport f).lineHold = s.lineHold := rfl
@[simp] theorem State.onReport_robots (f : Report → Report) : (s.onReport f).robots = s.robots := rfl
@[simp] theorem State.onReport_zones (f : Report → Report) : (s.onReport f).zones = s.zones := rfl
@[simp] theorem State.onReport_ports (f : Report → Report) : (s.onReport f).ports = s.ports := rfl
@[simp] theorem State.onReport_table (f : Report → Report) : (s.onReport f).table = s.table := rfl
@[simp] theorem State.onReport_path (f : Report → Report) : (s.onReport f).path = s.path := rfl
@[simp] theorem State.onReport_loader (f : Report → Report) : (s.onReport f).loader = s.loader := rfl
@[simp] theorem State.onReport_report (f : Report → Report) : (s.onReport f).report = f s.report := rfl

/-! ## onLoader -/

@[simp] theorem State.onLoader_pending (f : Loader → Loader) : (s.onLoader f).pending = s.pending := rfl
@[simp] theorem State.onLoader_given (f : Loader → Loader) : (s.onLoader f).given = s.given := rfl
@[simp] theorem State.onLoader_freeIndex (f : Loader → Loader) : (s.onLoader f).freeIndex = s.freeIndex := rfl
@[simp] theorem State.onLoader_cfgBase (f : Loader → Loader) : (s.onLoader f).cfgBase = s.cfgBase := rfl
@[simp] theorem State.onLoader_observeAll (f : Loader → Loader) : (s.onLoader f).observeAll = s.observeAll := rfl
@[simp] theorem State.onLoader_guards (f : Loader → Loader) : (s.onLoader f).guards = s.guards := rfl
@[simp] theorem State.onLoader_config (f : Loader → Loader) : (s.onLoader f).config = s.config := rfl
@[simp] theorem State.onLoader_time (f : Loader → Loader) : (s.onLoader f).time = s.time := rfl
@[simp] theorem State.onLoader_queue (f : Loader → Loader) : (s.onLoader f).queue = s.queue := rfl
@[simp] theorem State.onLoader_grading (f : Loader → Loader) : (s.onLoader f).grading = s.grading := rfl
@[simp] theorem State.onLoader_gates (f : Loader → Loader) : (s.onLoader f).gates = s.gates := rfl
@[simp] theorem State.onLoader_lineHold (f : Loader → Loader) : (s.onLoader f).lineHold = s.lineHold := rfl
@[simp] theorem State.onLoader_robots (f : Loader → Loader) : (s.onLoader f).robots = s.robots := rfl
@[simp] theorem State.onLoader_zones (f : Loader → Loader) : (s.onLoader f).zones = s.zones := rfl
@[simp] theorem State.onLoader_ports (f : Loader → Loader) : (s.onLoader f).ports = s.ports := rfl
@[simp] theorem State.onLoader_table (f : Loader → Loader) : (s.onLoader f).table = s.table := rfl
@[simp] theorem State.onLoader_path (f : Loader → Loader) : (s.onLoader f).path = s.path := rfl
@[simp] theorem State.onLoader_loader (f : Loader → Loader) : (s.onLoader f).loader = f s.loader := rfl
@[simp] theorem State.onLoader_report (f : Loader → Loader) : (s.onLoader f).report = s.report := rfl

/-! ## onPath -/

@[simp] theorem State.onPath_pending (f : Path → Path) : (s.onPath f).pending = s.pending := rfl
@[simp] theorem State.onPath_given (f : Path → Path) : (s.onPath f).given = s.given := rfl
@[simp] theorem State.onPath_freeIndex (f : Path → Path) : (s.onPath f).freeIndex = s.freeIndex := rfl
@[simp] theorem State.onPath_cfgBase (f : Path → Path) : (s.onPath f).cfgBase = s.cfgBase := rfl
@[simp] theorem State.onPath_observeAll (f : Path → Path) : (s.onPath f).observeAll = s.observeAll := rfl
@[simp] theorem State.onPath_guards (f : Path → Path) : (s.onPath f).guards = s.guards := rfl
@[simp] theorem State.onPath_config (f : Path → Path) : (s.onPath f).config = s.config := rfl
@[simp] theorem State.onPath_time (f : Path → Path) : (s.onPath f).time = s.time := rfl
@[simp] theorem State.onPath_queue (f : Path → Path) : (s.onPath f).queue = s.queue := rfl
@[simp] theorem State.onPath_grading (f : Path → Path) : (s.onPath f).grading = s.grading := rfl
@[simp] theorem State.onPath_gates (f : Path → Path) : (s.onPath f).gates = s.gates := rfl
@[simp] theorem State.onPath_lineHold (f : Path → Path) : (s.onPath f).lineHold = s.lineHold := rfl
@[simp] theorem State.onPath_robots (f : Path → Path) : (s.onPath f).robots = s.robots := rfl
@[simp] theorem State.onPath_zones (f : Path → Path) : (s.onPath f).zones = s.zones := rfl
@[simp] theorem State.onPath_ports (f : Path → Path) : (s.onPath f).ports = s.ports := rfl
@[simp] theorem State.onPath_table (f : Path → Path) : (s.onPath f).table = s.table := rfl
@[simp] theorem State.onPath_path (f : Path → Path) : (s.onPath f).path = f s.path := rfl
@[simp] theorem State.onPath_loader (f : Path → Path) : (s.onPath f).loader = s.loader := rfl
@[simp] theorem State.onPath_report (f : Path → Path) : (s.onPath f).report = s.report := rfl

/-! ## onTable -/

@[simp] theorem State.onTable_pending (f : TableState → TableState) : (s.onTable f).pending = s.pending := rfl
@[simp] theorem State.onTable_given (f : TableState → TableState) : (s.onTable f).given = s.given := rfl
@[simp] theorem State.onTable_freeIndex (f : TableState → TableState) : (s.onTable f).freeIndex = s.freeIndex := rfl
@[simp] theorem State.onTable_cfgBase (f : TableState → TableState) : (s.onTable f).cfgBase = s.cfgBase := rfl
@[simp] theorem State.onTable_observeAll (f : TableState → TableState) : (s.onTable f).observeAll = s.observeAll := rfl
@[simp] theorem State.onTable_guards (f : TableState → TableState) : (s.onTable f).guards = s.guards := rfl
@[simp] theorem State.onTable_config (f : TableState → TableState) : (s.onTable f).config = s.config := rfl
@[simp] theorem State.onTable_time (f : TableState → TableState) : (s.onTable f).time = s.time := rfl
@[simp] theorem State.onTable_queue (f : TableState → TableState) : (s.onTable f).queue = s.queue := rfl
@[simp] theorem State.onTable_grading (f : TableState → TableState) : (s.onTable f).grading = s.grading := rfl
@[simp] theorem State.onTable_gates (f : TableState → TableState) : (s.onTable f).gates = s.gates := rfl
@[simp] theorem State.onTable_lineHold (f : TableState → TableState) : (s.onTable f).lineHold = s.lineHold := rfl
@[simp] theorem State.onTable_robots (f : TableState → TableState) : (s.onTable f).robots = s.robots := rfl
@[simp] theorem State.onTable_zones (f : TableState → TableState) : (s.onTable f).zones = s.zones := rfl
@[simp] theorem State.onTable_ports (f : TableState → TableState) : (s.onTable f).ports = s.ports := rfl
@[simp] theorem State.onTable_table (f : TableState → TableState) : (s.onTable f).table = f s.table := rfl
@[simp] theorem State.onTable_path (f : TableState → TableState) : (s.onTable f).path = s.path := rfl
@[simp] theorem State.onTable_loader (f : TableState → TableState) : (s.onTable f).loader = s.loader := rfl
@[simp] theorem State.onTable_report (f : TableState → TableState) : (s.onTable f).report = s.report := rfl

/-! ## onRobot -/

@[simp] theorem State.onRobot_pending (u : Fin 24) (f : Robot → Robot) : (s.onRobot u f).pending = s.pending := rfl
@[simp] theorem State.onRobot_given (u : Fin 24) (f : Robot → Robot) : (s.onRobot u f).given = s.given := rfl
@[simp] theorem State.onRobot_freeIndex (u : Fin 24) (f : Robot → Robot) : (s.onRobot u f).freeIndex = s.freeIndex := rfl
@[simp] theorem State.onRobot_cfgBase (u : Fin 24) (f : Robot → Robot) : (s.onRobot u f).cfgBase = s.cfgBase := rfl
@[simp] theorem State.onRobot_observeAll (u : Fin 24) (f : Robot → Robot) : (s.onRobot u f).observeAll = s.observeAll := rfl
@[simp] theorem State.onRobot_guards (u : Fin 24) (f : Robot → Robot) : (s.onRobot u f).guards = s.guards := rfl
@[simp] theorem State.onRobot_config (u : Fin 24) (f : Robot → Robot) : (s.onRobot u f).config = s.config := rfl
@[simp] theorem State.onRobot_time (u : Fin 24) (f : Robot → Robot) : (s.onRobot u f).time = s.time := rfl
@[simp] theorem State.onRobot_queue (u : Fin 24) (f : Robot → Robot) : (s.onRobot u f).queue = s.queue := rfl
@[simp] theorem State.onRobot_grading (u : Fin 24) (f : Robot → Robot) : (s.onRobot u f).grading = s.grading := rfl
@[simp] theorem State.onRobot_gates (u : Fin 24) (f : Robot → Robot) : (s.onRobot u f).gates = s.gates := rfl
@[simp] theorem State.onRobot_lineHold (u : Fin 24) (f : Robot → Robot) : (s.onRobot u f).lineHold = s.lineHold := rfl
@[simp] theorem State.onRobot_robots (u : Fin 24) (f : Robot → Robot) : (s.onRobot u f).robots = s.robots.modify u (Option.map f) := rfl
@[simp] theorem State.onRobot_zones (u : Fin 24) (f : Robot → Robot) : (s.onRobot u f).zones = s.zones := rfl
@[simp] theorem State.onRobot_ports (u : Fin 24) (f : Robot → Robot) : (s.onRobot u f).ports = s.ports := rfl
@[simp] theorem State.onRobot_table (u : Fin 24) (f : Robot → Robot) : (s.onRobot u f).table = s.table := rfl
@[simp] theorem State.onRobot_path (u : Fin 24) (f : Robot → Robot) : (s.onRobot u f).path = s.path := rfl
@[simp] theorem State.onRobot_loader (u : Fin 24) (f : Robot → Robot) : (s.onRobot u f).loader = s.loader := rfl
@[simp] theorem State.onRobot_report (u : Fin 24) (f : Robot → Robot) : (s.onRobot u f).report = s.report := rfl

/-! ## onGate -/

@[simp] theorem State.onGate_pending (g : Fin 2) (f : GateRec → GateRec) : (s.onGate g f).pending = s.pending := rfl
@[simp] theorem State.onGate_given (g : Fin 2) (f : GateRec → GateRec) : (s.onGate g f).given = s.given := rfl
@[simp] theorem State.onGate_freeIndex (g : Fin 2) (f : GateRec → GateRec) : (s.onGate g f).freeIndex = s.freeIndex := rfl
@[simp] theorem State.onGate_cfgBase (g : Fin 2) (f : GateRec → GateRec) : (s.onGate g f).cfgBase = s.cfgBase := rfl
@[simp] theorem State.onGate_observeAll (g : Fin 2) (f : GateRec → GateRec) : (s.onGate g f).observeAll = s.observeAll := rfl
@[simp] theorem State.onGate_guards (g : Fin 2) (f : GateRec → GateRec) : (s.onGate g f).guards = s.guards := rfl
@[simp] theorem State.onGate_config (g : Fin 2) (f : GateRec → GateRec) : (s.onGate g f).config = s.config := rfl
@[simp] theorem State.onGate_time (g : Fin 2) (f : GateRec → GateRec) : (s.onGate g f).time = s.time := rfl
@[simp] theorem State.onGate_queue (g : Fin 2) (f : GateRec → GateRec) : (s.onGate g f).queue = s.queue := rfl
@[simp] theorem State.onGate_grading (g : Fin 2) (f : GateRec → GateRec) : (s.onGate g f).grading = s.grading := rfl
@[simp] theorem State.onGate_gates (g : Fin 2) (f : GateRec → GateRec) : (s.onGate g f).gates = s.gates.modify g (Option.map f) := rfl
@[simp] theorem State.onGate_lineHold (g : Fin 2) (f : GateRec → GateRec) : (s.onGate g f).lineHold = s.lineHold := rfl
@[simp] theorem State.onGate_robots (g : Fin 2) (f : GateRec → GateRec) : (s.onGate g f).robots = s.robots := rfl
@[simp] theorem State.onGate_zones (g : Fin 2) (f : GateRec → GateRec) : (s.onGate g f).zones = s.zones := rfl
@[simp] theorem State.onGate_ports (g : Fin 2) (f : GateRec → GateRec) : (s.onGate g f).ports = s.ports := rfl
@[simp] theorem State.onGate_table (g : Fin 2) (f : GateRec → GateRec) : (s.onGate g f).table = s.table := rfl
@[simp] theorem State.onGate_path (g : Fin 2) (f : GateRec → GateRec) : (s.onGate g f).path = s.path := rfl
@[simp] theorem State.onGate_loader (g : Fin 2) (f : GateRec → GateRec) : (s.onGate g f).loader = s.loader := rfl
@[simp] theorem State.onGate_report (g : Fin 2) (f : GateRec → GateRec) : (s.onGate g f).report = s.report := rfl

/-! ## onZone -/

@[simp] theorem State.onZone_pending (z : Fin 8) (f : Zone → Zone) : (s.onZone z f).pending = s.pending := rfl
@[simp] theorem State.onZone_given (z : Fin 8) (f : Zone → Zone) : (s.onZone z f).given = s.given := rfl
@[simp] theorem State.onZone_freeIndex (z : Fin 8) (f : Zone → Zone) : (s.onZone z f).freeIndex = s.freeIndex := rfl
@[simp] theorem State.onZone_cfgBase (z : Fin 8) (f : Zone → Zone) : (s.onZone z f).cfgBase = s.cfgBase := rfl
@[simp] theorem State.onZone_observeAll (z : Fin 8) (f : Zone → Zone) : (s.onZone z f).observeAll = s.observeAll := rfl
@[simp] theorem State.onZone_guards (z : Fin 8) (f : Zone → Zone) : (s.onZone z f).guards = s.guards := rfl
@[simp] theorem State.onZone_config (z : Fin 8) (f : Zone → Zone) : (s.onZone z f).config = s.config := rfl
@[simp] theorem State.onZone_time (z : Fin 8) (f : Zone → Zone) : (s.onZone z f).time = s.time := rfl
@[simp] theorem State.onZone_queue (z : Fin 8) (f : Zone → Zone) : (s.onZone z f).queue = s.queue := rfl
@[simp] theorem State.onZone_grading (z : Fin 8) (f : Zone → Zone) : (s.onZone z f).grading = s.grading := rfl
@[simp] theorem State.onZone_gates (z : Fin 8) (f : Zone → Zone) : (s.onZone z f).gates = s.gates := rfl
@[simp] theorem State.onZone_lineHold (z : Fin 8) (f : Zone → Zone) : (s.onZone z f).lineHold = s.lineHold := rfl
@[simp] theorem State.onZone_robots (z : Fin 8) (f : Zone → Zone) : (s.onZone z f).robots = s.robots := rfl
@[simp] theorem State.onZone_zones (z : Fin 8) (f : Zone → Zone) : (s.onZone z f).zones = s.zones.modify z f := rfl
@[simp] theorem State.onZone_ports (z : Fin 8) (f : Zone → Zone) : (s.onZone z f).ports = s.ports := rfl
@[simp] theorem State.onZone_table (z : Fin 8) (f : Zone → Zone) : (s.onZone z f).table = s.table := rfl
@[simp] theorem State.onZone_path (z : Fin 8) (f : Zone → Zone) : (s.onZone z f).path = s.path := rfl
@[simp] theorem State.onZone_loader (z : Fin 8) (f : Zone → Zone) : (s.onZone z f).loader = s.loader := rfl
@[simp] theorem State.onZone_report (z : Fin 8) (f : Zone → Zone) : (s.onZone z f).report = s.report := rfl

/-! ## onPort -/

@[simp] theorem State.onPort_pending (p : Fin 16) (f : Port → Port) : (s.onPort p f).pending = s.pending := rfl
@[simp] theorem State.onPort_given (p : Fin 16) (f : Port → Port) : (s.onPort p f).given = s.given := rfl
@[simp] theorem State.onPort_freeIndex (p : Fin 16) (f : Port → Port) : (s.onPort p f).freeIndex = s.freeIndex := rfl
@[simp] theorem State.onPort_cfgBase (p : Fin 16) (f : Port → Port) : (s.onPort p f).cfgBase = s.cfgBase := rfl
@[simp] theorem State.onPort_observeAll (p : Fin 16) (f : Port → Port) : (s.onPort p f).observeAll = s.observeAll := rfl
@[simp] theorem State.onPort_guards (p : Fin 16) (f : Port → Port) : (s.onPort p f).guards = s.guards := rfl
@[simp] theorem State.onPort_config (p : Fin 16) (f : Port → Port) : (s.onPort p f).config = s.config := rfl
@[simp] theorem State.onPort_time (p : Fin 16) (f : Port → Port) : (s.onPort p f).time = s.time := rfl
@[simp] theorem State.onPort_queue (p : Fin 16) (f : Port → Port) : (s.onPort p f).queue = s.queue := rfl
@[simp] theorem State.onPort_grading (p : Fin 16) (f : Port → Port) : (s.onPort p f).grading = s.grading := rfl
@[simp] theorem State.onPort_gates (p : Fin 16) (f : Port → Port) : (s.onPort p f).gates = s.gates := rfl
@[simp] theorem State.onPort_lineHold (p : Fin 16) (f : Port → Port) : (s.onPort p f).lineHold = s.lineHold := rfl
@[simp] theorem State.onPort_robots (p : Fin 16) (f : Port → Port) : (s.onPort p f).robots = s.robots := rfl
@[simp] theorem State.onPort_zones (p : Fin 16) (f : Port → Port) : (s.onPort p f).zones = s.zones := rfl
@[simp] theorem State.onPort_ports (p : Fin 16) (f : Port → Port) : (s.onPort p f).ports = s.ports.modify p f := rfl
@[simp] theorem State.onPort_table (p : Fin 16) (f : Port → Port) : (s.onPort p f).table = s.table := rfl
@[simp] theorem State.onPort_path (p : Fin 16) (f : Port → Port) : (s.onPort p f).path = s.path := rfl
@[simp] theorem State.onPort_loader (p : Fin 16) (f : Port → Port) : (s.onPort p f).loader = s.loader := rfl
@[simp] theorem State.onPort_report (p : Fin 16) (f : Port → Port) : (s.onPort p f).report = s.report := rfl

/-! ## onCamera -/

@[simp] theorem State.onCamera_pending (n : Fin 6) (f : CameraRec → CameraRec) : (s.onCamera n f).pending = s.pending := rfl
@[simp] theorem State.onCamera_given (n : Fin 6) (f : CameraRec → CameraRec) : (s.onCamera n f).given = s.given := rfl
@[simp] theorem State.onCamera_freeIndex (n : Fin 6) (f : CameraRec → CameraRec) : (s.onCamera n f).freeIndex = s.freeIndex := rfl
@[simp] theorem State.onCamera_cfgBase (n : Fin 6) (f : CameraRec → CameraRec) : (s.onCamera n f).cfgBase = s.cfgBase := rfl
@[simp] theorem State.onCamera_observeAll (n : Fin 6) (f : CameraRec → CameraRec) : (s.onCamera n f).observeAll = s.observeAll := rfl
@[simp] theorem State.onCamera_guards (n : Fin 6) (f : CameraRec → CameraRec) : (s.onCamera n f).guards = s.guards := rfl
@[simp] theorem State.onCamera_config (n : Fin 6) (f : CameraRec → CameraRec) : (s.onCamera n f).config = s.config := rfl
@[simp] theorem State.onCamera_time (n : Fin 6) (f : CameraRec → CameraRec) : (s.onCamera n f).time = s.time := rfl
@[simp] theorem State.onCamera_queue (n : Fin 6) (f : CameraRec → CameraRec) : (s.onCamera n f).queue = s.queue := rfl
@[simp] theorem State.onCamera_grading (n : Fin 6) (f : CameraRec → CameraRec) : (s.onCamera n f).grading = { s.grading with cameras := s.grading.cameras.modify n f } := rfl
@[simp] theorem State.onCamera_gates (n : Fin 6) (f : CameraRec → CameraRec) : (s.onCamera n f).gates = s.gates := rfl
@[simp] theorem State.onCamera_lineHold (n : Fin 6) (f : CameraRec → CameraRec) : (s.onCamera n f).lineHold = s.lineHold := rfl
@[simp] theorem State.onCamera_robots (n : Fin 6) (f : CameraRec → CameraRec) : (s.onCamera n f).robots = s.robots := rfl
@[simp] theorem State.onCamera_zones (n : Fin 6) (f : CameraRec → CameraRec) : (s.onCamera n f).zones = s.zones := rfl
@[simp] theorem State.onCamera_ports (n : Fin 6) (f : CameraRec → CameraRec) : (s.onCamera n f).ports = s.ports := rfl
@[simp] theorem State.onCamera_table (n : Fin 6) (f : CameraRec → CameraRec) : (s.onCamera n f).table = s.table := rfl
@[simp] theorem State.onCamera_path (n : Fin 6) (f : CameraRec → CameraRec) : (s.onCamera n f).path = s.path := rfl
@[simp] theorem State.onCamera_loader (n : Fin 6) (f : CameraRec → CameraRec) : (s.onCamera n f).loader = s.loader := rfl
@[simp] theorem State.onCamera_report (n : Fin 6) (f : CameraRec → CameraRec) : (s.onCamera n f).report = s.report := rfl

/-! ## onAccount -/

@[simp] theorem State.onAccount_pending (u : Fin 24) (f : Account → Account) : (s.onAccount u f).pending = s.pending := rfl
@[simp] theorem State.onAccount_given (u : Fin 24) (f : Account → Account) : (s.onAccount u f).given = s.given := rfl
@[simp] theorem State.onAccount_freeIndex (u : Fin 24) (f : Account → Account) : (s.onAccount u f).freeIndex = s.freeIndex := rfl
@[simp] theorem State.onAccount_cfgBase (u : Fin 24) (f : Account → Account) : (s.onAccount u f).cfgBase = s.cfgBase := rfl
@[simp] theorem State.onAccount_observeAll (u : Fin 24) (f : Account → Account) : (s.onAccount u f).observeAll = s.observeAll := rfl
@[simp] theorem State.onAccount_guards (u : Fin 24) (f : Account → Account) : (s.onAccount u f).guards = s.guards := rfl
@[simp] theorem State.onAccount_config (u : Fin 24) (f : Account → Account) : (s.onAccount u f).config = s.config := rfl
@[simp] theorem State.onAccount_time (u : Fin 24) (f : Account → Account) : (s.onAccount u f).time = { s.time with accounts := s.time.accounts.modify u f } := rfl
@[simp] theorem State.onAccount_queue (u : Fin 24) (f : Account → Account) : (s.onAccount u f).queue = s.queue := rfl
@[simp] theorem State.onAccount_grading (u : Fin 24) (f : Account → Account) : (s.onAccount u f).grading = s.grading := rfl
@[simp] theorem State.onAccount_gates (u : Fin 24) (f : Account → Account) : (s.onAccount u f).gates = s.gates := rfl
@[simp] theorem State.onAccount_lineHold (u : Fin 24) (f : Account → Account) : (s.onAccount u f).lineHold = s.lineHold := rfl
@[simp] theorem State.onAccount_robots (u : Fin 24) (f : Account → Account) : (s.onAccount u f).robots = s.robots := rfl
@[simp] theorem State.onAccount_zones (u : Fin 24) (f : Account → Account) : (s.onAccount u f).zones = s.zones := rfl
@[simp] theorem State.onAccount_ports (u : Fin 24) (f : Account → Account) : (s.onAccount u f).ports = s.ports := rfl
@[simp] theorem State.onAccount_table (u : Fin 24) (f : Account → Account) : (s.onAccount u f).table = s.table := rfl
@[simp] theorem State.onAccount_path (u : Fin 24) (f : Account → Account) : (s.onAccount u f).path = s.path := rfl
@[simp] theorem State.onAccount_loader (u : Fin 24) (f : Account → Account) : (s.onAccount u f).loader = s.loader := rfl
@[simp] theorem State.onAccount_report (u : Fin 24) (f : Account → Account) : (s.onAccount u f).report = s.report := rfl

/-! ## onSlot -/

@[simp] theorem State.onSlot_pending (b : Bottle) (f : Slot → Slot) : (s.onSlot b f).pending = s.pending := rfl
@[simp] theorem State.onSlot_given (b : Bottle) (f : Slot → Slot) : (s.onSlot b f).given = s.given := rfl
@[simp] theorem State.onSlot_freeIndex (b : Bottle) (f : Slot → Slot) : (s.onSlot b f).freeIndex = s.freeIndex := rfl
@[simp] theorem State.onSlot_cfgBase (b : Bottle) (f : Slot → Slot) : (s.onSlot b f).cfgBase = s.cfgBase := rfl
@[simp] theorem State.onSlot_observeAll (b : Bottle) (f : Slot → Slot) : (s.onSlot b f).observeAll = s.observeAll := rfl
@[simp] theorem State.onSlot_guards (b : Bottle) (f : Slot → Slot) : (s.onSlot b f).guards = s.guards := rfl
@[simp] theorem State.onSlot_config (b : Bottle) (f : Slot → Slot) : (s.onSlot b f).config = s.config := rfl
@[simp] theorem State.onSlot_time (b : Bottle) (f : Slot → Slot) : (s.onSlot b f).time = s.time := rfl
@[simp] theorem State.onSlot_queue (b : Bottle) (f : Slot → Slot) : (s.onSlot b f).queue = s.queue.map fun q => if q.bottle = b then f q else q := rfl
@[simp] theorem State.onSlot_grading (b : Bottle) (f : Slot → Slot) : (s.onSlot b f).grading = s.grading := rfl
@[simp] theorem State.onSlot_gates (b : Bottle) (f : Slot → Slot) : (s.onSlot b f).gates = s.gates := rfl
@[simp] theorem State.onSlot_lineHold (b : Bottle) (f : Slot → Slot) : (s.onSlot b f).lineHold = s.lineHold := rfl
@[simp] theorem State.onSlot_robots (b : Bottle) (f : Slot → Slot) : (s.onSlot b f).robots = s.robots := rfl
@[simp] theorem State.onSlot_zones (b : Bottle) (f : Slot → Slot) : (s.onSlot b f).zones = s.zones := rfl
@[simp] theorem State.onSlot_ports (b : Bottle) (f : Slot → Slot) : (s.onSlot b f).ports = s.ports := rfl
@[simp] theorem State.onSlot_table (b : Bottle) (f : Slot → Slot) : (s.onSlot b f).table = s.table := rfl
@[simp] theorem State.onSlot_path (b : Bottle) (f : Slot → Slot) : (s.onSlot b f).path = s.path := rfl
@[simp] theorem State.onSlot_loader (b : Bottle) (f : Slot → Slot) : (s.onSlot b f).loader = s.loader := rfl
@[simp] theorem State.onSlot_report (b : Bottle) (f : Slot → Slot) : (s.onSlot b f).report = s.report := rfl

/-! ## give -/

@[simp] theorem State.give_pending (n : Notice) : (s.give n).pending = s.pending := rfl
@[simp] theorem State.give_given (n : Notice) : (s.give n).given = s.given ++ [n] := rfl
@[simp] theorem State.give_freeIndex (n : Notice) : (s.give n).freeIndex = s.freeIndex := rfl
@[simp] theorem State.give_cfgBase (n : Notice) : (s.give n).cfgBase = s.cfgBase := rfl
@[simp] theorem State.give_observeAll (n : Notice) : (s.give n).observeAll = s.observeAll := rfl
@[simp] theorem State.give_guards (n : Notice) : (s.give n).guards = s.guards := rfl
@[simp] theorem State.give_config (n : Notice) : (s.give n).config = s.config := rfl
@[simp] theorem State.give_time (n : Notice) : (s.give n).time = s.time := rfl
@[simp] theorem State.give_queue (n : Notice) : (s.give n).queue = s.queue := rfl
@[simp] theorem State.give_grading (n : Notice) : (s.give n).grading = s.grading := rfl
@[simp] theorem State.give_gates (n : Notice) : (s.give n).gates = s.gates := rfl
@[simp] theorem State.give_lineHold (n : Notice) : (s.give n).lineHold = s.lineHold := rfl
@[simp] theorem State.give_robots (n : Notice) : (s.give n).robots = s.robots := rfl
@[simp] theorem State.give_zones (n : Notice) : (s.give n).zones = s.zones := rfl
@[simp] theorem State.give_ports (n : Notice) : (s.give n).ports = s.ports := rfl
@[simp] theorem State.give_table (n : Notice) : (s.give n).table = s.table := rfl
@[simp] theorem State.give_path (n : Notice) : (s.give n).path = s.path := rfl
@[simp] theorem State.give_loader (n : Notice) : (s.give n).loader = s.loader := rfl
@[simp] theorem State.give_report (n : Notice) : (s.give n).report = s.report := rfl

/-! ## present -/

@[simp] theorem State.present_pending (o : OwnTxn) : (s.present o).pending = s.pending := rfl
@[simp] theorem State.present_given (o : OwnTxn) : (s.present o).given = s.given := rfl
@[simp] theorem State.present_freeIndex (o : OwnTxn) : (s.present o).freeIndex = s.freeIndex := rfl
@[simp] theorem State.present_cfgBase (o : OwnTxn) : (s.present o).cfgBase = s.cfgBase := rfl
@[simp] theorem State.present_observeAll (o : OwnTxn) : (s.present o).observeAll = s.observeAll := rfl
@[simp] theorem State.present_guards (o : OwnTxn) : (s.present o).guards = s.guards := rfl
@[simp] theorem State.present_config (o : OwnTxn) : (s.present o).config = s.config := rfl
@[simp] theorem State.present_time (o : OwnTxn) : (s.present o).time = s.time := rfl
@[simp] theorem State.present_queue (o : OwnTxn) : (s.present o).queue = s.queue := rfl
@[simp] theorem State.present_grading (o : OwnTxn) : (s.present o).grading = s.grading := rfl
@[simp] theorem State.present_gates (o : OwnTxn) : (s.present o).gates = s.gates := rfl
@[simp] theorem State.present_lineHold (o : OwnTxn) : (s.present o).lineHold = s.lineHold := rfl
@[simp] theorem State.present_robots (o : OwnTxn) : (s.present o).robots = s.robots := rfl
@[simp] theorem State.present_zones (o : OwnTxn) : (s.present o).zones = s.zones := rfl
@[simp] theorem State.present_ports (o : OwnTxn) : (s.present o).ports = s.ports := rfl
@[simp] theorem State.present_table (o : OwnTxn) : (s.present o).table = s.table := rfl
@[simp] theorem State.present_path (o : OwnTxn) : (s.present o).path = { s.path with ownQueue := s.path.ownQueue ++ [o] } := rfl
@[simp] theorem State.present_loader (o : OwnTxn) : (s.present o).loader = s.loader := rfl
@[simp] theorem State.present_report (o : OwnTxn) : (s.present o).report = s.report := rfl

end Sys2Proof.Machine
end

