-- ==== Sys2Proof/Laws/Frames.lean ====
section
/-! SUPPORT. The frames of the shared operations of Machine/Ops.lean: every field that an operation leaves as it stands. -/

namespace Sys2Proof.Machine

variable (s : State)

/-! ## joinGiven -/

@[simp] theorem State.joinGiven_pending : (s.joinGiven).pending = s.pending := rfl
@[simp] theorem State.joinGiven_cfgBase : (s.joinGiven).cfgBase = s.cfgBase := rfl
@[simp] theorem State.joinGiven_observeAll : (s.joinGiven).observeAll = s.observeAll := rfl
@[simp] theorem State.joinGiven_guards : (s.joinGiven).guards = s.guards := rfl
@[simp] theorem State.joinGiven_config : (s.joinGiven).config = s.config := rfl
@[simp] theorem State.joinGiven_time : (s.joinGiven).time = s.time := rfl
@[simp] theorem State.joinGiven_queue : (s.joinGiven).queue = s.queue := rfl
@[simp] theorem State.joinGiven_grading : (s.joinGiven).grading = s.grading := rfl
@[simp] theorem State.joinGiven_gates : (s.joinGiven).gates = s.gates := rfl
@[simp] theorem State.joinGiven_lineHold : (s.joinGiven).lineHold = s.lineHold := rfl
@[simp] theorem State.joinGiven_robots : (s.joinGiven).robots = s.robots := rfl
@[simp] theorem State.joinGiven_zones : (s.joinGiven).zones = s.zones := rfl
@[simp] theorem State.joinGiven_ports : (s.joinGiven).ports = s.ports := rfl
@[simp] theorem State.joinGiven_table : (s.joinGiven).table = s.table := rfl
@[simp] theorem State.joinGiven_path : (s.joinGiven).path = s.path := rfl
@[simp] theorem State.joinGiven_loader : (s.joinGiven).loader = s.loader := rfl

/-! ## presentNotice -/

@[simp] theorem State.presentNotice_pending : (s.presentNotice).pending = s.pending := rfl
@[simp] theorem State.presentNotice_given : (s.presentNotice).given = s.given := rfl
@[simp] theorem State.presentNotice_freeIndex : (s.presentNotice).freeIndex = s.freeIndex := rfl
@[simp] theorem State.presentNotice_cfgBase : (s.presentNotice).cfgBase = s.cfgBase := rfl
@[simp] theorem State.presentNotice_observeAll : (s.presentNotice).observeAll = s.observeAll := rfl
@[simp] theorem State.presentNotice_guards : (s.presentNotice).guards = s.guards := rfl
@[simp] theorem State.presentNotice_config : (s.presentNotice).config = s.config := rfl
@[simp] theorem State.presentNotice_time : (s.presentNotice).time = s.time := rfl
@[simp] theorem State.presentNotice_queue : (s.presentNotice).queue = s.queue := rfl
@[simp] theorem State.presentNotice_grading : (s.presentNotice).grading = s.grading := rfl
@[simp] theorem State.presentNotice_gates : (s.presentNotice).gates = s.gates := rfl
@[simp] theorem State.presentNotice_lineHold : (s.presentNotice).lineHold = s.lineHold := rfl
@[simp] theorem State.presentNotice_robots : (s.presentNotice).robots = s.robots := rfl
@[simp] theorem State.presentNotice_zones : (s.presentNotice).zones = s.zones := rfl
@[simp] theorem State.presentNotice_ports : (s.presentNotice).ports = s.ports := rfl
@[simp] theorem State.presentNotice_table : (s.presentNotice).table = s.table := rfl
@[simp] theorem State.presentNotice_loader : (s.presentNotice).loader = s.loader := rfl
@[simp] theorem State.presentNotice_report : (s.presentNotice).report = s.report := rfl

/-! ## settle -/

@[simp] theorem State.settle_pending : (s.settle).pending = s.pending := by simp [State.settle]
@[simp] theorem State.settle_cfgBase : (s.settle).cfgBase = s.cfgBase := by simp [State.settle]
@[simp] theorem State.settle_observeAll : (s.settle).observeAll = s.observeAll := by simp [State.settle]
@[simp] theorem State.settle_guards : (s.settle).guards = s.guards := by simp [State.settle]
@[simp] theorem State.settle_config : (s.settle).config = s.config := by simp [State.settle]
@[simp] theorem State.settle_time : (s.settle).time = s.time := by simp [State.settle]
@[simp] theorem State.settle_queue : (s.settle).queue = s.queue := by simp [State.settle]
@[simp] theorem State.settle_grading : (s.settle).grading = s.grading := by simp [State.settle]
@[simp] theorem State.settle_gates : (s.settle).gates = s.gates := by simp [State.settle]
@[simp] theorem State.settle_lineHold : (s.settle).lineHold = s.lineHold := by simp [State.settle]
@[simp] theorem State.settle_robots : (s.settle).robots = s.robots := by simp [State.settle]
@[simp] theorem State.settle_zones : (s.settle).zones = s.zones := by simp [State.settle]
@[simp] theorem State.settle_ports : (s.settle).ports = s.ports := by simp [State.settle]
@[simp] theorem State.settle_table : (s.settle).table = s.table := by simp [State.settle]
@[simp] theorem State.settle_loader : (s.settle).loader = s.loader := by simp [State.settle]

/-! ## addHold -/

@[simp] theorem State.addHold_pending (g : Fin 2) (k : LineCause) (b : Option Bottle) : (s.addHold g k b).pending = s.pending := by unfold State.addHold; (repeat' split) <;> simp
@[simp] theorem State.addHold_freeIndex (g : Fin 2) (k : LineCause) (b : Option Bottle) : (s.addHold g k b).freeIndex = s.freeIndex := by unfold State.addHold; (repeat' split) <;> simp
@[simp] theorem State.addHold_cfgBase (g : Fin 2) (k : LineCause) (b : Option Bottle) : (s.addHold g k b).cfgBase = s.cfgBase := by unfold State.addHold; (repeat' split) <;> simp
@[simp] theorem State.addHold_observeAll (g : Fin 2) (k : LineCause) (b : Option Bottle) : (s.addHold g k b).observeAll = s.observeAll := by unfold State.addHold; (repeat' split) <;> simp
@[simp] theorem State.addHold_guards (g : Fin 2) (k : LineCause) (b : Option Bottle) : (s.addHold g k b).guards = s.guards := by unfold State.addHold; (repeat' split) <;> simp
@[simp] theorem State.addHold_config (g : Fin 2) (k : LineCause) (b : Option Bottle) : (s.addHold g k b).config = s.config := by unfold State.addHold; (repeat' split) <;> simp
@[simp] theorem State.addHold_time (g : Fin 2) (k : LineCause) (b : Option Bottle) : (s.addHold g k b).time = s.time := by unfold State.addHold; (repeat' split) <;> simp
@[simp] theorem State.addHold_queue (g : Fin 2) (k : LineCause) (b : Option Bottle) : (s.addHold g k b).queue = s.queue := by unfold State.addHold; (repeat' split) <;> simp
@[simp] theorem State.addHold_grading (g : Fin 2) (k : LineCause) (b : Option Bottle) : (s.addHold g k b).grading = s.grading := by unfold State.addHold; (repeat' split) <;> simp
@[simp] theorem State.addHold_gates (g : Fin 2) (k : LineCause) (b : Option Bottle) : (s.addHold g k b).gates = s.gates := by unfold State.addHold; (repeat' split) <;> simp
@[simp] theorem State.addHold_robots (g : Fin 2) (k : LineCause) (b : Option Bottle) : (s.addHold g k b).robots = s.robots := by unfold State.addHold; (repeat' split) <;> simp
@[simp] theorem State.addHold_zones (g : Fin 2) (k : LineCause) (b : Option Bottle) : (s.addHold g k b).zones = s.zones := by unfold State.addHold; (repeat' split) <;> simp
@[simp] theorem State.addHold_ports (g : Fin 2) (k : LineCause) (b : Option Bottle) : (s.addHold g k b).ports = s.ports := by unfold State.addHold; (repeat' split) <;> simp
@[simp] theorem State.addHold_table (g : Fin 2) (k : LineCause) (b : Option Bottle) : (s.addHold g k b).table = s.table := by unfold State.addHold; (repeat' split) <;> simp
@[simp] theorem State.addHold_path (g : Fin 2) (k : LineCause) (b : Option Bottle) : (s.addHold g k b).path = s.path := by unfold State.addHold; (repeat' split) <;> simp
@[simp] theorem State.addHold_loader (g : Fin 2) (k : LineCause) (b : Option Bottle) : (s.addHold g k b).loader = s.loader := by unfold State.addHold; (repeat' split) <;> simp
@[simp] theorem State.addHold_report (g : Fin 2) (k : LineCause) (b : Option Bottle) : (s.addHold g k b).report = s.report := by unfold State.addHold; (repeat' split) <;> simp

/-! ## dropHold -/

@[simp] theorem State.dropHold_pending (g : Fin 2) (k : LineCause) : (s.dropHold g k).pending = s.pending := rfl
@[simp] theorem State.dropHold_given (g : Fin 2) (k : LineCause) : (s.dropHold g k).given = s.given := rfl
@[simp] theorem State.dropHold_freeIndex (g : Fin 2) (k : LineCause) : (s.dropHold g k).freeIndex = s.freeIndex := rfl
@[simp] theorem State.dropHold_cfgBase (g : Fin 2) (k : LineCause) : (s.dropHold g k).cfgBase = s.cfgBase := rfl
@[simp] theorem State.dropHold_observeAll (g : Fin 2) (k : LineCause) : (s.dropHold g k).observeAll = s.observeAll := rfl
@[simp] theorem State.dropHold_guards (g : Fin 2) (k : LineCause) : (s.dropHold g k).guards = s.guards := rfl
@[simp] theorem State.dropHold_config (g : Fin 2) (k : LineCause) : (s.dropHold g k).config = s.config := rfl
@[simp] theorem State.dropHold_time (g : Fin 2) (k : LineCause) : (s.dropHold g k).time = s.time := rfl
@[simp] theorem State.dropHold_queue (g : Fin 2) (k : LineCause) : (s.dropHold g k).queue = s.queue := rfl
@[simp] theorem State.dropHold_grading (g : Fin 2) (k : LineCause) : (s.dropHold g k).grading = s.grading := rfl
@[simp] theorem State.dropHold_gates (g : Fin 2) (k : LineCause) : (s.dropHold g k).gates = s.gates := rfl
@[simp] theorem State.dropHold_robots (g : Fin 2) (k : LineCause) : (s.dropHold g k).robots = s.robots := rfl
@[simp] theorem State.dropHold_zones (g : Fin 2) (k : LineCause) : (s.dropHold g k).zones = s.zones := rfl
@[simp] theorem State.dropHold_ports (g : Fin 2) (k : LineCause) : (s.dropHold g k).ports = s.ports := rfl
@[simp] theorem State.dropHold_table (g : Fin 2) (k : LineCause) : (s.dropHold g k).table = s.table := rfl
@[simp] theorem State.dropHold_path (g : Fin 2) (k : LineCause) : (s.dropHold g k).path = s.path := rfl
@[simp] theorem State.dropHold_loader (g : Fin 2) (k : LineCause) : (s.dropHold g k).loader = s.loader := rfl
@[simp] theorem State.dropHold_report (g : Fin 2) (k : LineCause) : (s.dropHold g k).report = s.report := rfl

/-! ## followHold -/

@[simp] theorem State.followHold_pending (g : Fin 2) (k : LineCause) (on : Bool) : (s.followHold g k on).pending = s.pending := by unfold State.followHold; (repeat' split) <;> simp
@[simp] theorem State.followHold_freeIndex (g : Fin 2) (k : LineCause) (on : Bool) : (s.followHold g k on).freeIndex = s.freeIndex := by unfold State.followHold; (repeat' split) <;> simp
@[simp] theorem State.followHold_cfgBase (g : Fin 2) (k : LineCause) (on : Bool) : (s.followHold g k on).cfgBase = s.cfgBase := by unfold State.followHold; (repeat' split) <;> simp
@[simp] theorem State.followHold_observeAll (g : Fin 2) (k : LineCause) (on : Bool) : (s.followHold g k on).observeAll = s.observeAll := by unfold State.followHold; (repeat' split) <;> simp
@[simp] theorem State.followHold_guards (g : Fin 2) (k : LineCause) (on : Bool) : (s.followHold g k on).guards = s.guards := by unfold State.followHold; (repeat' split) <;> simp
@[simp] theorem State.followHold_config (g : Fin 2) (k : LineCause) (on : Bool) : (s.followHold g k on).config = s.config := by unfold State.followHold; (repeat' split) <;> simp
@[simp] theorem State.followHold_time (g : Fin 2) (k : LineCause) (on : Bool) : (s.followHold g k on).time = s.time := by unfold State.followHold; (repeat' split) <;> simp
@[simp] theorem State.followHold_queue (g : Fin 2) (k : LineCause) (on : Bool) : (s.followHold g k on).queue = s.queue := by unfold State.followHold; (repeat' split) <;> simp
@[simp] theorem State.followHold_grading (g : Fin 2) (k : LineCause) (on : Bool) : (s.followHold g k on).grading = s.grading := by unfold State.followHold; (repeat' split) <;> simp
@[simp] theorem State.followHold_gates (g : Fin 2) (k : LineCause) (on : Bool) : (s.followHold g k on).gates = s.gates := by unfold State.followHold; (repeat' split) <;> simp
@[simp] theorem State.followHold_robots (g : Fin 2) (k : LineCause) (on : Bool) : (s.followHold g k on).robots = s.robots := by unfold State.followHold; (repeat' split) <;> simp
@[simp] theorem State.followHold_zones (g : Fin 2) (k : LineCause) (on : Bool) : (s.followHold g k on).zones = s.zones := by unfold State.followHold; (repeat' split) <;> simp
@[simp] theorem State.followHold_ports (g : Fin 2) (k : LineCause) (on : Bool) : (s.followHold g k on).ports = s.ports := by unfold State.followHold; (repeat' split) <;> simp
@[simp] theorem State.followHold_table (g : Fin 2) (k : LineCause) (on : Bool) : (s.followHold g k on).table = s.table := by unfold State.followHold; (repeat' split) <;> simp
@[simp] theorem State.followHold_path (g : Fin 2) (k : LineCause) (on : Bool) : (s.followHold g k on).path = s.path := by unfold State.followHold; (repeat' split) <;> simp
@[simp] theorem State.followHold_loader (g : Fin 2) (k : LineCause) (on : Bool) : (s.followHold g k on).loader = s.loader := by unfold State.followHold; (repeat' split) <;> simp
@[simp] theorem State.followHold_report (g : Fin 2) (k : LineCause) (on : Bool) : (s.followHold g k on).report = s.report := by unfold State.followHold; (repeat' split) <;> simp

/-! ## followGate -/

@[simp] theorem State.followGate_pending (c : HallConfig) (g : Fin 2) : (s.followGate c g).pending = s.pending := by unfold State.followGate; (repeat' split) <;> simp
@[simp] theorem State.followGate_freeIndex (c : HallConfig) (g : Fin 2) : (s.followGate c g).freeIndex = s.freeIndex := by unfold State.followGate; (repeat' split) <;> simp
@[simp] theorem State.followGate_cfgBase (c : HallConfig) (g : Fin 2) : (s.followGate c g).cfgBase = s.cfgBase := by unfold State.followGate; (repeat' split) <;> simp
@[simp] theorem State.followGate_observeAll (c : HallConfig) (g : Fin 2) : (s.followGate c g).observeAll = s.observeAll := by unfold State.followGate; (repeat' split) <;> simp
@[simp] theorem State.followGate_guards (c : HallConfig) (g : Fin 2) : (s.followGate c g).guards = s.guards := by unfold State.followGate; (repeat' split) <;> simp
@[simp] theorem State.followGate_config (c : HallConfig) (g : Fin 2) : (s.followGate c g).config = s.config := by unfold State.followGate; (repeat' split) <;> simp
@[simp] theorem State.followGate_time (c : HallConfig) (g : Fin 2) : (s.followGate c g).time = s.time := by unfold State.followGate; (repeat' split) <;> simp
@[simp] theorem State.followGate_queue (c : HallConfig) (g : Fin 2) : (s.followGate c g).queue = s.queue := by unfold State.followGate; (repeat' split) <;> simp
@[simp] theorem State.followGate_grading (c : HallConfig) (g : Fin 2) : (s.followGate c g).grading = s.grading := by unfold State.followGate; (repeat' split) <;> simp
@[simp] theorem State.followGate_gates (c : HallConfig) (g : Fin 2) : (s.followGate c g).gates = s.gates := by unfold State.followGate; (repeat' split) <;> simp
@[simp] theorem State.followGate_robots (c : HallConfig) (g : Fin 2) : (s.followGate c g).robots = s.robots := by unfold State.followGate; (repeat' split) <;> simp
@[simp] theorem State.followGate_zones (c : HallConfig) (g : Fin 2) : (s.followGate c g).zones = s.zones := by unfold State.followGate; (repeat' split) <;> simp
@[simp] theorem State.followGate_ports (c : HallConfig) (g : Fin 2) : (s.followGate c g).ports = s.ports := by unfold State.followGate; (repeat' split) <;> simp
@[simp] theorem State.followGate_table (c : HallConfig) (g : Fin 2) : (s.followGate c g).table = s.table := by unfold State.followGate; (repeat' split) <;> simp
@[simp] theorem State.followGate_path (c : HallConfig) (g : Fin 2) : (s.followGate c g).path = s.path := by unfold State.followGate; (repeat' split) <;> simp
@[simp] theorem State.followGate_loader (c : HallConfig) (g : Fin 2) : (s.followGate c g).loader = s.loader := by unfold State.followGate; (repeat' split) <;> simp
@[simp] theorem State.followGate_report (c : HallConfig) (g : Fin 2) : (s.followGate c g).report = s.report := by unfold State.followGate; (repeat' split) <;> simp

/-! ## dropLatched -/

@[simp] theorem State.dropLatched_pending (g : Fin 2) : (s.dropLatched g).pending = s.pending := rfl
@[simp] theorem State.dropLatched_given (g : Fin 2) : (s.dropLatched g).given = s.given := rfl
@[simp] theorem State.dropLatched_freeIndex (g : Fin 2) : (s.dropLatched g).freeIndex = s.freeIndex := rfl
@[simp] theorem State.dropLatched_cfgBase (g : Fin 2) : (s.dropLatched g).cfgBase = s.cfgBase := rfl
@[simp] theorem State.dropLatched_observeAll (g : Fin 2) : (s.dropLatched g).observeAll = s.observeAll := rfl
@[simp] theorem State.dropLatched_guards (g : Fin 2) : (s.dropLatched g).guards = s.guards := rfl
@[simp] theorem State.dropLatched_config (g : Fin 2) : (s.dropLatched g).config = s.config := rfl
@[simp] theorem State.dropLatched_time (g : Fin 2) : (s.dropLatched g).time = s.time := rfl
@[simp] theorem State.dropLatched_queue (g : Fin 2) : (s.dropLatched g).queue = s.queue := rfl
@[simp] theorem State.dropLatched_grading (g : Fin 2) : (s.dropLatched g).grading = s.grading := rfl
@[simp] theorem State.dropLatched_gates (g : Fin 2) : (s.dropLatched g).gates = s.gates := rfl
@[simp] theorem State.dropLatched_robots (g : Fin 2) : (s.dropLatched g).robots = s.robots := rfl
@[simp] theorem State.dropLatched_zones (g : Fin 2) : (s.dropLatched g).zones = s.zones := rfl
@[simp] theorem State.dropLatched_ports (g : Fin 2) : (s.dropLatched g).ports = s.ports := rfl
@[simp] theorem State.dropLatched_table (g : Fin 2) : (s.dropLatched g).table = s.table := rfl
@[simp] theorem State.dropLatched_path (g : Fin 2) : (s.dropLatched g).path = s.path := rfl
@[simp] theorem State.dropLatched_loader (g : Fin 2) : (s.dropLatched g).loader = s.loader := rfl
@[simp] theorem State.dropLatched_report (g : Fin 2) : (s.dropLatched g).report = s.report := rfl

/-! ## followRobots -/

@[simp] theorem State.followRobots_pending (c : HallConfig) : (s.followRobots c).pending = s.pending := rfl
@[simp] theorem State.followRobots_freeIndex (c : HallConfig) : (s.followRobots c).freeIndex = s.freeIndex := rfl
@[simp] theorem State.followRobots_cfgBase (c : HallConfig) : (s.followRobots c).cfgBase = s.cfgBase := rfl
@[simp] theorem State.followRobots_observeAll (c : HallConfig) : (s.followRobots c).observeAll = s.observeAll := rfl
@[simp] theorem State.followRobots_guards (c : HallConfig) : (s.followRobots c).guards = s.guards := rfl
@[simp] theorem State.followRobots_config (c : HallConfig) : (s.followRobots c).config = s.config := rfl
@[simp] theorem State.followRobots_time (c : HallConfig) : (s.followRobots c).time = s.time := rfl
@[simp] theorem State.followRobots_queue (c : HallConfig) : (s.followRobots c).queue = s.queue := rfl
@[simp] theorem State.followRobots_grading (c : HallConfig) : (s.followRobots c).grading = s.grading := rfl
@[simp] theorem State.followRobots_gates (c : HallConfig) : (s.followRobots c).gates = s.gates := rfl
@[simp] theorem State.followRobots_lineHold (c : HallConfig) : (s.followRobots c).lineHold = s.lineHold := rfl
@[simp] theorem State.followRobots_zones (c : HallConfig) : (s.followRobots c).zones = s.zones := rfl
@[simp] theorem State.followRobots_ports (c : HallConfig) : (s.followRobots c).ports = s.ports := rfl
@[simp] theorem State.followRobots_table (c : HallConfig) : (s.followRobots c).table = s.table := rfl
@[simp] theorem State.followRobots_path (c : HallConfig) : (s.followRobots c).path = s.path := rfl
@[simp] theorem State.followRobots_loader (c : HallConfig) : (s.followRobots c).loader = s.loader := rfl
@[simp] theorem State.followRobots_report (c : HallConfig) : (s.followRobots c).report = s.report := rfl

/-! ## handOn -/

@[simp] theorem State.handOn_pending : (s.handOn).pending = s.pending := by unfold State.handOn; (repeat' split) <;> simp
@[simp] theorem State.handOn_freeIndex : (s.handOn).freeIndex = s.freeIndex := by unfold State.handOn; (repeat' split) <;> simp
@[simp] theorem State.handOn_cfgBase : (s.handOn).cfgBase = s.cfgBase := by unfold State.handOn; (repeat' split) <;> simp
@[simp] theorem State.handOn_observeAll : (s.handOn).observeAll = s.observeAll := by unfold State.handOn; (repeat' split) <;> simp
@[simp] theorem State.handOn_guards : (s.handOn).guards = s.guards := by unfold State.handOn; (repeat' split) <;> simp
@[simp] theorem State.handOn_config : (s.handOn).config = s.config := by unfold State.handOn; (repeat' split) <;> simp
@[simp] theorem State.handOn_time : (s.handOn).time = s.time := by unfold State.handOn; (repeat' split) <;> simp
@[simp] theorem State.handOn_queue : (s.handOn).queue = s.queue := by unfold State.handOn; (repeat' split) <;> simp
@[simp] theorem State.handOn_grading : (s.handOn).grading = s.grading := by unfold State.handOn; (repeat' split) <;> simp
@[simp] theorem State.handOn_gates : (s.handOn).gates = s.gates := by unfold State.handOn; (repeat' split) <;> simp
@[simp] theorem State.handOn_zones : (s.handOn).zones = s.zones := by unfold State.handOn; (repeat' split) <;> simp
@[simp] theorem State.handOn_ports : (s.handOn).ports = s.ports := by unfold State.handOn; (repeat' split) <;> simp
@[simp] theorem State.handOn_table : (s.handOn).table = s.table := by unfold State.handOn; (repeat' split) <;> simp
@[simp] theorem State.handOn_path : (s.handOn).path = s.path := by unfold State.handOn; (repeat' split) <;> simp
@[simp] theorem State.handOn_loader : (s.handOn).loader = s.loader := by unfold State.handOn; (repeat' split) <;> simp
@[simp] theorem State.handOn_report : (s.handOn).report = s.report := by unfold State.handOn; (repeat' split) <;> simp

/-! ## discardSequences -/

@[simp] theorem State.discardSequences_pending (c : HallConfig) (p : Fin 16) : (s.discardSequences c p).pending = s.pending := rfl
@[simp] theorem State.discardSequences_given (c : HallConfig) (p : Fin 16) : (s.discardSequences c p).given = s.given := rfl
@[simp] theorem State.discardSequences_freeIndex (c : HallConfig) (p : Fin 16) : (s.discardSequences c p).freeIndex = s.freeIndex := rfl
@[simp] theorem State.discardSequences_cfgBase (c : HallConfig) (p : Fin 16) : (s.discardSequences c p).cfgBase = s.cfgBase := rfl
@[simp] theorem State.discardSequences_observeAll (c : HallConfig) (p : Fin 16) : (s.discardSequences c p).observeAll = s.observeAll := rfl
@[simp] theorem State.discardSequences_guards (c : HallConfig) (p : Fin 16) : (s.discardSequences c p).guards = s.guards := rfl
@[simp] theorem State.discardSequences_config (c : HallConfig) (p : Fin 16) : (s.discardSequences c p).config = s.config := rfl
@[simp] theorem State.discardSequences_time (c : HallConfig) (p : Fin 16) : (s.discardSequences c p).time = s.time := rfl
@[simp] theorem State.discardSequences_queue (c : HallConfig) (p : Fin 16) : (s.discardSequences c p).queue = s.queue := rfl
@[simp] theorem State.discardSequences_lineHold (c : HallConfig) (p : Fin 16) : (s.discardSequences c p).lineHold = s.lineHold := rfl
@[simp] theorem State.discardSequences_zones (c : HallConfig) (p : Fin 16) : (s.discardSequences c p).zones = s.zones := rfl
@[simp] theorem State.discardSequences_ports (c : HallConfig) (p : Fin 16) : (s.discardSequences c p).ports = s.ports := rfl
@[simp] theorem State.discardSequences_table (c : HallConfig) (p : Fin 16) : (s.discardSequences c p).table = s.table := rfl
@[simp] theorem State.discardSequences_path (c : HallConfig) (p : Fin 16) : (s.discardSequences c p).path = s.path := rfl
@[simp] theorem State.discardSequences_loader (c : HallConfig) (p : Fin 16) : (s.discardSequences c p).loader = s.loader := rfl
@[simp] theorem State.discardSequences_report (c : HallConfig) (p : Fin 16) : (s.discardSequences c p).report = s.report := rfl

/-! ## movePort -/

@[simp] theorem State.movePort_pending (c : HallConfig) (p : Fin 16) (new : PortState) (reason : PortReason) : (s.movePort c p new reason).pending = s.pending := by simp only [State.movePort]; (repeat' split) <;> simp
@[simp] theorem State.movePort_freeIndex (c : HallConfig) (p : Fin 16) (new : PortState) (reason : PortReason) : (s.movePort c p new reason).freeIndex = s.freeIndex := by simp only [State.movePort]; (repeat' split) <;> simp
@[simp] theorem State.movePort_cfgBase (c : HallConfig) (p : Fin 16) (new : PortState) (reason : PortReason) : (s.movePort c p new reason).cfgBase = s.cfgBase := by simp only [State.movePort]; (repeat' split) <;> simp
@[simp] theorem State.movePort_observeAll (c : HallConfig) (p : Fin 16) (new : PortState) (reason : PortReason) : (s.movePort c p new reason).observeAll = s.observeAll := by simp only [State.movePort]; (repeat' split) <;> simp
@[simp] theorem State.movePort_guards (c : HallConfig) (p : Fin 16) (new : PortState) (reason : PortReason) : (s.movePort c p new reason).guards = s.guards := by simp only [State.movePort]; (repeat' split) <;> simp
@[simp] theorem State.movePort_config (c : HallConfig) (p : Fin 16) (new : PortState) (reason : PortReason) : (s.movePort c p new reason).config = s.config := by simp only [State.movePort]; (repeat' split) <;> simp
@[simp] theorem State.movePort_time (c : HallConfig) (p : Fin 16) (new : PortState) (reason : PortReason) : (s.movePort c p new reason).time = s.time := by simp only [State.movePort]; (repeat' split) <;> simp
@[simp] theorem State.movePort_queue (c : HallConfig) (p : Fin 16) (new : PortState) (reason : PortReason) : (s.movePort c p new reason).queue = s.queue := by simp only [State.movePort]; (repeat' split) <;> simp
@[simp] theorem State.movePort_lineHold (c : HallConfig) (p : Fin 16) (new : PortState) (reason : PortReason) : (s.movePort c p new reason).lineHold = s.lineHold := by simp only [State.movePort]; (repeat' split) <;> simp
@[simp] theorem State.movePort_zones (c : HallConfig) (p : Fin 16) (new : PortState) (reason : PortReason) : (s.movePort c p new reason).zones = s.zones := by simp only [State.movePort]; (repeat' split) <;> simp
@[simp] theorem State.movePort_table (c : HallConfig) (p : Fin 16) (new : PortState) (reason : PortReason) : (s.movePort c p new reason).table = s.table := by simp only [State.movePort]; (repeat' split) <;> simp
@[simp] theorem State.movePort_path (c : HallConfig) (p : Fin 16) (new : PortState) (reason : PortReason) : (s.movePort c p new reason).path = s.path := by simp only [State.movePort]; (repeat' split) <;> simp
@[simp] theorem State.movePort_loader (c : HallConfig) (p : Fin 16) (new : PortState) (reason : PortReason) : (s.movePort c p new reason).loader = s.loader := by simp only [State.movePort]; (repeat' split) <;> simp
@[simp] theorem State.movePort_report (c : HallConfig) (p : Fin 16) (new : PortState) (reason : PortReason) : (s.movePort c p new reason).report = s.report := by simp only [State.movePort]; (repeat' split) <;> simp

/-! ## countDenied -/

@[simp] theorem State.countDenied_pending (p : Fin 16) : (s.countDenied p).pending = s.pending := rfl
@[simp] theorem State.countDenied_given (p : Fin 16) : (s.countDenied p).given = s.given := rfl
@[simp] theorem State.countDenied_freeIndex (p : Fin 16) : (s.countDenied p).freeIndex = s.freeIndex := rfl
@[simp] theorem State.countDenied_cfgBase (p : Fin 16) : (s.countDenied p).cfgBase = s.cfgBase := rfl
@[simp] theorem State.countDenied_observeAll (p : Fin 16) : (s.countDenied p).observeAll = s.observeAll := rfl
@[simp] theorem State.countDenied_guards (p : Fin 16) : (s.countDenied p).guards = s.guards := rfl
@[simp] theorem State.countDenied_config (p : Fin 16) : (s.countDenied p).config = s.config := rfl
@[simp] theorem State.countDenied_time (p : Fin 16) : (s.countDenied p).time = s.time := rfl
@[simp] theorem State.countDenied_queue (p : Fin 16) : (s.countDenied p).queue = s.queue := rfl
@[simp] theorem State.countDenied_grading (p : Fin 16) : (s.countDenied p).grading = s.grading := rfl
@[simp] theorem State.countDenied_gates (p : Fin 16) : (s.countDenied p).gates = s.gates := rfl
@[simp] theorem State.countDenied_lineHold (p : Fin 16) : (s.countDenied p).lineHold = s.lineHold := rfl
@[simp] theorem State.countDenied_robots (p : Fin 16) : (s.countDenied p).robots = s.robots := rfl
@[simp] theorem State.countDenied_zones (p : Fin 16) : (s.countDenied p).zones = s.zones := rfl
@[simp] theorem State.countDenied_table (p : Fin 16) : (s.countDenied p).table = s.table := rfl
@[simp] theorem State.countDenied_path (p : Fin 16) : (s.countDenied p).path = s.path := rfl
@[simp] theorem State.countDenied_loader (p : Fin 16) : (s.countDenied p).loader = s.loader := rfl
@[simp] theorem State.countDenied_report (p : Fin 16) : (s.countDenied p).report = s.report := rfl

/-! ## countDenial -/

@[simp] theorem State.countDenial_pending (tag : Fin 32) : (s.countDenial tag).pending = s.pending := by unfold State.countDenial; (repeat' split) <;> simp
@[simp] theorem State.countDenial_given (tag : Fin 32) : (s.countDenial tag).given = s.given := by unfold State.countDenial; (repeat' split) <;> simp
@[simp] theorem State.countDenial_freeIndex (tag : Fin 32) : (s.countDenial tag).freeIndex = s.freeIndex := by unfold State.countDenial; (repeat' split) <;> simp
@[simp] theorem State.countDenial_cfgBase (tag : Fin 32) : (s.countDenial tag).cfgBase = s.cfgBase := by unfold State.countDenial; (repeat' split) <;> simp
@[simp] theorem State.countDenial_observeAll (tag : Fin 32) : (s.countDenial tag).observeAll = s.observeAll := by unfold State.countDenial; (repeat' split) <;> simp
@[simp] theorem State.countDenial_guards (tag : Fin 32) : (s.countDenial tag).guards = s.guards := by unfold State.countDenial; (repeat' split) <;> simp
@[simp] theorem State.countDenial_config (tag : Fin 32) : (s.countDenial tag).config = s.config := by unfold State.countDenial; (repeat' split) <;> simp
@[simp] theorem State.countDenial_time (tag : Fin 32) : (s.countDenial tag).time = s.time := by unfold State.countDenial; (repeat' split) <;> simp
@[simp] theorem State.countDenial_queue (tag : Fin 32) : (s.countDenial tag).queue = s.queue := by unfold State.countDenial; (repeat' split) <;> simp
@[simp] theorem State.countDenial_grading (tag : Fin 32) : (s.countDenial tag).grading = s.grading := by unfold State.countDenial; (repeat' split) <;> simp
@[simp] theorem State.countDenial_gates (tag : Fin 32) : (s.countDenial tag).gates = s.gates := by unfold State.countDenial; (repeat' split) <;> simp
@[simp] theorem State.countDenial_lineHold (tag : Fin 32) : (s.countDenial tag).lineHold = s.lineHold := by unfold State.countDenial; (repeat' split) <;> simp
@[simp] theorem State.countDenial_robots (tag : Fin 32) : (s.countDenial tag).robots = s.robots := by unfold State.countDenial; (repeat' split) <;> simp
@[simp] theorem State.countDenial_zones (tag : Fin 32) : (s.countDenial tag).zones = s.zones := by unfold State.countDenial; (repeat' split) <;> simp
@[simp] theorem State.countDenial_table (tag : Fin 32) : (s.countDenial tag).table = s.table := by unfold State.countDenial; (repeat' split) <;> simp
@[simp] theorem State.countDenial_loader (tag : Fin 32) : (s.countDenial tag).loader = s.loader := by unfold State.countDenial; (repeat' split) <;> simp
@[simp] theorem State.countDenial_report (tag : Fin 32) : (s.countDenial tag).report = s.report := by unfold State.countDenial; (repeat' split) <;> simp

/-! ## markSpan -/

@[simp] theorem State.markSpan_pending (c : HallConfig) (z : Fin 8) : (s.markSpan c z).pending = s.pending := by simp only [State.markSpan]; (repeat' split) <;> simp
@[simp] theorem State.markSpan_given (c : HallConfig) (z : Fin 8) : (s.markSpan c z).given = s.given := by simp only [State.markSpan]; (repeat' split) <;> simp
@[simp] theorem State.markSpan_freeIndex (c : HallConfig) (z : Fin 8) : (s.markSpan c z).freeIndex = s.freeIndex := by simp only [State.markSpan]; (repeat' split) <;> simp
@[simp] theorem State.markSpan_cfgBase (c : HallConfig) (z : Fin 8) : (s.markSpan c z).cfgBase = s.cfgBase := by simp only [State.markSpan]; (repeat' split) <;> simp
@[simp] theorem State.markSpan_observeAll (c : HallConfig) (z : Fin 8) : (s.markSpan c z).observeAll = s.observeAll := by simp only [State.markSpan]; (repeat' split) <;> simp
@[simp] theorem State.markSpan_guards (c : HallConfig) (z : Fin 8) : (s.markSpan c z).guards = s.guards := by simp only [State.markSpan]; (repeat' split) <;> simp
@[simp] theorem State.markSpan_config (c : HallConfig) (z : Fin 8) : (s.markSpan c z).config = s.config := by simp only [State.markSpan]; (repeat' split) <;> simp
@[simp] theorem State.markSpan_time (c : HallConfig) (z : Fin 8) : (s.markSpan c z).time = s.time := by simp only [State.markSpan]; (repeat' split) <;> simp
@[simp] theorem State.markSpan_grading (c : HallConfig) (z : Fin 8) : (s.markSpan c z).grading = s.grading := by simp only [State.markSpan]; (repeat' split) <;> simp
@[simp] theorem State.markSpan_gates (c : HallConfig) (z : Fin 8) : (s.markSpan c z).gates = s.gates := by simp only [State.markSpan]; (repeat' split) <;> simp
@[simp] theorem State.markSpan_lineHold (c : HallConfig) (z : Fin 8) : (s.markSpan c z).lineHold = s.lineHold := by simp only [State.markSpan]; (repeat' split) <;> simp
@[simp] theorem State.markSpan_robots (c : HallConfig) (z : Fin 8) : (s.markSpan c z).robots = s.robots := by simp only [State.markSpan]; (repeat' split) <;> simp
@[simp] theorem State.markSpan_zones (c : HallConfig) (z : Fin 8) : (s.markSpan c z).zones = s.zones := by simp only [State.markSpan]; (repeat' split) <;> simp
@[simp] theorem State.markSpan_ports (c : HallConfig) (z : Fin 8) : (s.markSpan c z).ports = s.ports := by simp only [State.markSpan]; (repeat' split) <;> simp
@[simp] theorem State.markSpan_table (c : HallConfig) (z : Fin 8) : (s.markSpan c z).table = s.table := by simp only [State.markSpan]; (repeat' split) <;> simp
@[simp] theorem State.markSpan_path (c : HallConfig) (z : Fin 8) : (s.markSpan c z).path = s.path := by simp only [State.markSpan]; (repeat' split) <;> simp
@[simp] theorem State.markSpan_loader (c : HallConfig) (z : Fin 8) : (s.markSpan c z).loader = s.loader := by simp only [State.markSpan]; (repeat' split) <;> simp
@[simp] theorem State.markSpan_report (c : HallConfig) (z : Fin 8) : (s.markSpan c z).report = s.report := by simp only [State.markSpan]; (repeat' split) <;> simp

/-! ## moveZone -/

@[simp] theorem State.moveZone_pending (c : HallConfig) (z : Fin 8) (new : ZoneState) : (s.moveZone c z new).pending = s.pending := by simp only [State.moveZone]; (repeat' split) <;> simp
@[simp] theorem State.moveZone_given (c : HallConfig) (z : Fin 8) (new : ZoneState) : (s.moveZone c z new).given = s.given := by simp only [State.moveZone]; (repeat' split) <;> simp
@[simp] theorem State.moveZone_freeIndex (c : HallConfig) (z : Fin 8) (new : ZoneState) : (s.moveZone c z new).freeIndex = s.freeIndex := by simp only [State.moveZone]; (repeat' split) <;> simp
@[simp] theorem State.moveZone_cfgBase (c : HallConfig) (z : Fin 8) (new : ZoneState) : (s.moveZone c z new).cfgBase = s.cfgBase := by simp only [State.moveZone]; (repeat' split) <;> simp
@[simp] theorem State.moveZone_observeAll (c : HallConfig) (z : Fin 8) (new : ZoneState) : (s.moveZone c z new).observeAll = s.observeAll := by simp only [State.moveZone]; (repeat' split) <;> simp
@[simp] theorem State.moveZone_guards (c : HallConfig) (z : Fin 8) (new : ZoneState) : (s.moveZone c z new).guards = s.guards := by simp only [State.moveZone]; (repeat' split) <;> simp
@[simp] theorem State.moveZone_config (c : HallConfig) (z : Fin 8) (new : ZoneState) : (s.moveZone c z new).config = s.config := by simp only [State.moveZone]; (repeat' split) <;> simp
@[simp] theorem State.moveZone_time (c : HallConfig) (z : Fin 8) (new : ZoneState) : (s.moveZone c z new).time = s.time := by simp only [State.moveZone]; (repeat' split) <;> simp
@[simp] theorem State.moveZone_grading (c : HallConfig) (z : Fin 8) (new : ZoneState) : (s.moveZone c z new).grading = s.grading := by simp only [State.moveZone]; (repeat' split) <;> simp
@[simp] theorem State.moveZone_gates (c : HallConfig) (z : Fin 8) (new : ZoneState) : (s.moveZone c z new).gates = s.gates := by simp only [State.moveZone]; (repeat' split) <;> simp
@[simp] theorem State.moveZone_lineHold (c : HallConfig) (z : Fin 8) (new : ZoneState) : (s.moveZone c z new).lineHold = s.lineHold := by simp only [State.moveZone]; (repeat' split) <;> simp
@[simp] theorem State.moveZone_robots (c : HallConfig) (z : Fin 8) (new : ZoneState) : (s.moveZone c z new).robots = s.robots := by simp only [State.moveZone]; (repeat' split) <;> simp
@[simp] theorem State.moveZone_ports (c : HallConfig) (z : Fin 8) (new : ZoneState) : (s.moveZone c z new).ports = s.ports := by simp only [State.moveZone]; (repeat' split) <;> simp
@[simp] theorem State.moveZone_table (c : HallConfig) (z : Fin 8) (new : ZoneState) : (s.moveZone c z new).table = s.table := by simp only [State.moveZone]; (repeat' split) <;> simp
@[simp] theorem State.moveZone_path (c : HallConfig) (z : Fin 8) (new : ZoneState) : (s.moveZone c z new).path = s.path := by simp only [State.moveZone]; (repeat' split) <;> simp
@[simp] theorem State.moveZone_loader (c : HallConfig) (z : Fin 8) (new : ZoneState) : (s.moveZone c z new).loader = s.loader := by simp only [State.moveZone]; (repeat' split) <;> simp
@[simp] theorem State.moveZone_report (c : HallConfig) (z : Fin 8) (new : ZoneState) : (s.moveZone c z new).report = s.report := by simp only [State.moveZone]; (repeat' split) <;> simp

/-! ## confirmMembers -/

@[simp] theorem State.confirmMembers_pending (c : HallConfig) (z : Fin 8) : (s.confirmMembers c z).pending = s.pending := rfl
@[simp] theorem State.confirmMembers_given (c : HallConfig) (z : Fin 8) : (s.confirmMembers c z).given = s.given := rfl
@[simp] theorem State.confirmMembers_freeIndex (c : HallConfig) (z : Fin 8) : (s.confirmMembers c z).freeIndex = s.freeIndex := rfl
@[simp] theorem State.confirmMembers_cfgBase (c : HallConfig) (z : Fin 8) : (s.confirmMembers c z).cfgBase = s.cfgBase := rfl
@[simp] theorem State.confirmMembers_observeAll (c : HallConfig) (z : Fin 8) : (s.confirmMembers c z).observeAll = s.observeAll := rfl
@[simp] theorem State.confirmMembers_guards (c : HallConfig) (z : Fin 8) : (s.confirmMembers c z).guards = s.guards := rfl
@[simp] theorem State.confirmMembers_config (c : HallConfig) (z : Fin 8) : (s.confirmMembers c z).config = s.config := rfl
@[simp] theorem State.confirmMembers_time (c : HallConfig) (z : Fin 8) : (s.confirmMembers c z).time = s.time := rfl
@[simp] theorem State.confirmMembers_queue (c : HallConfig) (z : Fin 8) : (s.confirmMembers c z).queue = s.queue := rfl
@[simp] theorem State.confirmMembers_grading (c : HallConfig) (z : Fin 8) : (s.confirmMembers c z).grading = s.grading := rfl
@[simp] theorem State.confirmMembers_gates (c : HallConfig) (z : Fin 8) : (s.confirmMembers c z).gates = s.gates := rfl
@[simp] theorem State.confirmMembers_lineHold (c : HallConfig) (z : Fin 8) : (s.confirmMembers c z).lineHold = s.lineHold := rfl
@[simp] theorem State.confirmMembers_zones (c : HallConfig) (z : Fin 8) : (s.confirmMembers c z).zones = s.zones := rfl
@[simp] theorem State.confirmMembers_ports (c : HallConfig) (z : Fin 8) : (s.confirmMembers c z).ports = s.ports := rfl
@[simp] theorem State.confirmMembers_table (c : HallConfig) (z : Fin 8) : (s.confirmMembers c z).table = s.table := rfl
@[simp] theorem State.confirmMembers_path (c : HallConfig) (z : Fin 8) : (s.confirmMembers c z).path = s.path := rfl
@[simp] theorem State.confirmMembers_loader (c : HallConfig) (z : Fin 8) : (s.confirmMembers c z).loader = s.loader := rfl
@[simp] theorem State.confirmMembers_report (c : HallConfig) (z : Fin 8) : (s.confirmMembers c z).report = s.report := rfl

/-! ## giveZoneCompletion -/

@[simp] theorem State.giveZoneCompletion_pending (z : Fin 8) (code : Completion) (o : Origin) : (s.giveZoneCompletion z code o).pending = s.pending := rfl
@[simp] theorem State.giveZoneCompletion_freeIndex (z : Fin 8) (code : Completion) (o : Origin) : (s.giveZoneCompletion z code o).freeIndex = s.freeIndex := rfl
@[simp] theorem State.giveZoneCompletion_cfgBase (z : Fin 8) (code : Completion) (o : Origin) : (s.giveZoneCompletion z code o).cfgBase = s.cfgBase := rfl
@[simp] theorem State.giveZoneCompletion_observeAll (z : Fin 8) (code : Completion) (o : Origin) : (s.giveZoneCompletion z code o).observeAll = s.observeAll := rfl
@[simp] theorem State.giveZoneCompletion_guards (z : Fin 8) (code : Completion) (o : Origin) : (s.giveZoneCompletion z code o).guards = s.guards := rfl
@[simp] theorem State.giveZoneCompletion_config (z : Fin 8) (code : Completion) (o : Origin) : (s.giveZoneCompletion z code o).config = s.config := rfl
@[simp] theorem State.giveZoneCompletion_time (z : Fin 8) (code : Completion) (o : Origin) : (s.giveZoneCompletion z code o).time = s.time := rfl
@[simp] theorem State.giveZoneCompletion_queue (z : Fin 8) (code : Completion) (o : Origin) : (s.giveZoneCompletion z code o).queue = s.queue := rfl
@[simp] theorem State.giveZoneCompletion_grading (z : Fin 8) (code : Completion) (o : Origin) : (s.giveZoneCompletion z code o).grading = s.grading := rfl
@[simp] theorem State.giveZoneCompletion_gates (z : Fin 8) (code : Completion) (o : Origin) : (s.giveZoneCompletion z code o).gates = s.gates := rfl
@[simp] theorem State.giveZoneCompletion_lineHold (z : Fin 8) (code : Completion) (o : Origin) : (s.giveZoneCompletion z code o).lineHold = s.lineHold := rfl
@[simp] theorem State.giveZoneCompletion_robots (z : Fin 8) (code : Completion) (o : Origin) : (s.giveZoneCompletion z code o).robots = s.robots := rfl
@[simp] theorem State.giveZoneCompletion_zones (z : Fin 8) (code : Completion) (o : Origin) : (s.giveZoneCompletion z code o).zones = s.zones := rfl
@[simp] theorem State.giveZoneCompletion_ports (z : Fin 8) (code : Completion) (o : Origin) : (s.giveZoneCompletion z code o).ports = s.ports := rfl
@[simp] theorem State.giveZoneCompletion_table (z : Fin 8) (code : Completion) (o : Origin) : (s.giveZoneCompletion z code o).table = s.table := rfl
@[simp] theorem State.giveZoneCompletion_path (z : Fin 8) (code : Completion) (o : Origin) : (s.giveZoneCompletion z code o).path = s.path := rfl
@[simp] theorem State.giveZoneCompletion_loader (z : Fin 8) (code : Completion) (o : Origin) : (s.giveZoneCompletion z code o).loader = s.loader := rfl
@[simp] theorem State.giveZoneCompletion_report (z : Fin 8) (code : Completion) (o : Origin) : (s.giveZoneCompletion z code o).report = s.report := rfl

/-! ## completeNow -/

@[simp] theorem State.completeNow_pending (z : Fin 8) (q : Byte) (code : Completion) : (s.completeNow z q code).pending = s.pending := rfl
@[simp] theorem State.completeNow_freeIndex (z : Fin 8) (q : Byte) (code : Completion) : (s.completeNow z q code).freeIndex = s.freeIndex := rfl
@[simp] theorem State.completeNow_cfgBase (z : Fin 8) (q : Byte) (code : Completion) : (s.completeNow z q code).cfgBase = s.cfgBase := rfl
@[simp] theorem State.completeNow_observeAll (z : Fin 8) (q : Byte) (code : Completion) : (s.completeNow z q code).observeAll = s.observeAll := rfl
@[simp] theorem State.completeNow_guards (z : Fin 8) (q : Byte) (code : Completion) : (s.completeNow z q code).guards = s.guards := rfl
@[simp] theorem State.completeNow_config (z : Fin 8) (q : Byte) (code : Completion) : (s.completeNow z q code).config = s.config := rfl
@[simp] theorem State.completeNow_time (z : Fin 8) (q : Byte) (code : Completion) : (s.completeNow z q code).time = s.time := rfl
@[simp] theorem State.completeNow_queue (z : Fin 8) (q : Byte) (code : Completion) : (s.completeNow z q code).queue = s.queue := rfl
@[simp] theorem State.completeNow_grading (z : Fin 8) (q : Byte) (code : Completion) : (s.completeNow z q code).grading = s.grading := rfl
@[simp] theorem State.completeNow_gates (z : Fin 8) (q : Byte) (code : Completion) : (s.completeNow z q code).gates = s.gates := rfl
@[simp] theorem State.completeNow_lineHold (z : Fin 8) (q : Byte) (code : Completion) : (s.completeNow z q code).lineHold = s.lineHold := rfl
@[simp] theorem State.completeNow_robots (z : Fin 8) (q : Byte) (code : Completion) : (s.completeNow z q code).robots = s.robots := rfl
@[simp] theorem State.completeNow_ports (z : Fin 8) (q : Byte) (code : Completion) : (s.completeNow z q code).ports = s.ports := rfl
@[simp] theorem State.completeNow_table (z : Fin 8) (q : Byte) (code : Completion) : (s.completeNow z q code).table = s.table := rfl
@[simp] theorem State.completeNow_path (z : Fin 8) (q : Byte) (code : Completion) : (s.completeNow z q code).path = s.path := rfl
@[simp] theorem State.completeNow_loader (z : Fin 8) (q : Byte) (code : Completion) : (s.completeNow z q code).loader = s.loader := rfl
@[simp] theorem State.completeNow_report (z : Fin 8) (q : Byte) (code : Completion) : (s.completeNow z q code).report = s.report := rfl

/-! ## completeEnter -/

@[simp] theorem State.completeEnter_pending (z : Fin 8) (code : Completion) : (s.completeEnter z code).pending = s.pending := by unfold State.completeEnter; (repeat' split) <;> simp
@[simp] theorem State.completeEnter_freeIndex (z : Fin 8) (code : Completion) : (s.completeEnter z code).freeIndex = s.freeIndex := by unfold State.completeEnter; (repeat' split) <;> simp
@[simp] theorem State.completeEnter_cfgBase (z : Fin 8) (code : Completion) : (s.completeEnter z code).cfgBase = s.cfgBase := by unfold State.completeEnter; (repeat' split) <;> simp
@[simp] theorem State.completeEnter_observeAll (z : Fin 8) (code : Completion) : (s.completeEnter z code).observeAll = s.observeAll := by unfold State.completeEnter; (repeat' split) <;> simp
@[simp] theorem State.completeEnter_guards (z : Fin 8) (code : Completion) : (s.completeEnter z code).guards = s.guards := by unfold State.completeEnter; (repeat' split) <;> simp
@[simp] theorem State.completeEnter_config (z : Fin 8) (code : Completion) : (s.completeEnter z code).config = s.config := by unfold State.completeEnter; (repeat' split) <;> simp
@[simp] theorem State.completeEnter_time (z : Fin 8) (code : Completion) : (s.completeEnter z code).time = s.time := by unfold State.completeEnter; (repeat' split) <;> simp
@[simp] theorem State.completeEnter_queue (z : Fin 8) (code : Completion) : (s.completeEnter z code).queue = s.queue := by unfold State.completeEnter; (repeat' split) <;> simp
@[simp] theorem State.completeEnter_grading (z : Fin 8) (code : Completion) : (s.completeEnter z code).grading = s.grading := by unfold State.completeEnter; (repeat' split) <;> simp
@[simp] theorem State.completeEnter_gates (z : Fin 8) (code : Completion) : (s.completeEnter z code).gates = s.gates := by unfold State.completeEnter; (repeat' split) <;> simp
@[simp] theorem State.completeEnter_lineHold (z : Fin 8) (code : Completion) : (s.completeEnter z code).lineHold = s.lineHold := by unfold State.completeEnter; (repeat' split) <;> simp
@[simp] theorem State.completeEnter_robots (z : Fin 8) (code : Completion) : (s.completeEnter z code).robots = s.robots := by unfold State.completeEnter; (repeat' split) <;> simp
@[simp] theorem State.completeEnter_ports (z : Fin 8) (code : Completion) : (s.completeEnter z code).ports = s.ports := by unfold State.completeEnter; (repeat' split) <;> simp
@[simp] theorem State.completeEnter_table (z : Fin 8) (code : Completion) : (s.completeEnter z code).table = s.table := by unfold State.completeEnter; (repeat' split) <;> simp
@[simp] theorem State.completeEnter_path (z : Fin 8) (code : Completion) : (s.completeEnter z code).path = s.path := by unfold State.completeEnter; (repeat' split) <;> simp
@[simp] theorem State.completeEnter_loader (z : Fin 8) (code : Completion) : (s.completeEnter z code).loader = s.loader := by unfold State.completeEnter; (repeat' split) <;> simp
@[simp] theorem State.completeEnter_report (z : Fin 8) (code : Completion) : (s.completeEnter z code).report = s.report := by unfold State.completeEnter; (repeat' split) <;> simp

/-! ## completeAlone -/

@[simp] theorem State.completeAlone_pending (z : Fin 8) (code : Completion) : (s.completeAlone z code).pending = s.pending := rfl
@[simp] theorem State.completeAlone_freeIndex (z : Fin 8) (code : Completion) : (s.completeAlone z code).freeIndex = s.freeIndex := rfl
@[simp] theorem State.completeAlone_cfgBase (z : Fin 8) (code : Completion) : (s.completeAlone z code).cfgBase = s.cfgBase := rfl
@[simp] theorem State.completeAlone_observeAll (z : Fin 8) (code : Completion) : (s.completeAlone z code).observeAll = s.observeAll := rfl
@[simp] theorem State.completeAlone_guards (z : Fin 8) (code : Completion) : (s.completeAlone z code).guards = s.guards := rfl
@[simp] theorem State.completeAlone_config (z : Fin 8) (code : Completion) : (s.completeAlone z code).config = s.config := rfl
@[simp] theorem State.completeAlone_time (z : Fin 8) (code : Completion) : (s.completeAlone z code).time = s.time := rfl
@[simp] theorem State.completeAlone_queue (z : Fin 8) (code : Completion) : (s.completeAlone z code).queue = s.queue := rfl
@[simp] theorem State.completeAlone_grading (z : Fin 8) (code : Completion) : (s.completeAlone z code).grading = s.grading := rfl
@[simp] theorem State.completeAlone_gates (z : Fin 8) (code : Completion) : (s.completeAlone z code).gates = s.gates := rfl
@[simp] theorem State.completeAlone_lineHold (z : Fin 8) (code : Completion) : (s.completeAlone z code).lineHold = s.lineHold := rfl
@[simp] theorem State.completeAlone_robots (z : Fin 8) (code : Completion) : (s.completeAlone z code).robots = s.robots := rfl
@[simp] theorem State.completeAlone_ports (z : Fin 8) (code : Completion) : (s.completeAlone z code).ports = s.ports := rfl
@[simp] theorem State.completeAlone_table (z : Fin 8) (code : Completion) : (s.completeAlone z code).table = s.table := rfl
@[simp] theorem State.completeAlone_path (z : Fin 8) (code : Completion) : (s.completeAlone z code).path = s.path := rfl
@[simp] theorem State.completeAlone_loader (z : Fin 8) (code : Completion) : (s.completeAlone z code).loader = s.loader := rfl
@[simp] theorem State.completeAlone_report (z : Fin 8) (code : Completion) : (s.completeAlone z code).report = s.report := rfl

/-! ## setDue -/

@[simp] theorem State.setDue_pending (u : Fin 24) : (s.setDue u).pending = s.pending := rfl
@[simp] theorem State.setDue_freeIndex (u : Fin 24) : (s.setDue u).freeIndex = s.freeIndex := rfl
@[simp] theorem State.setDue_cfgBase (u : Fin 24) : (s.setDue u).cfgBase = s.cfgBase := rfl
@[simp] theorem State.setDue_observeAll (u : Fin 24) : (s.setDue u).observeAll = s.observeAll := rfl
@[simp] theorem State.setDue_guards (u : Fin 24) : (s.setDue u).guards = s.guards := rfl
@[simp] theorem State.setDue_config (u : Fin 24) : (s.setDue u).config = s.config := rfl
@[simp] theorem State.setDue_queue (u : Fin 24) : (s.setDue u).queue = s.queue := rfl
@[simp] theorem State.setDue_grading (u : Fin 24) : (s.setDue u).grading = s.grading := rfl
@[simp] theorem State.setDue_gates (u : Fin 24) : (s.setDue u).gates = s.gates := rfl
@[simp] theorem State.setDue_lineHold (u : Fin 24) : (s.setDue u).lineHold = s.lineHold := rfl
@[simp] theorem State.setDue_robots (u : Fin 24) : (s.setDue u).robots = s.robots := rfl
@[simp] theorem State.setDue_zones (u : Fin 24) : (s.setDue u).zones = s.zones := rfl
@[simp] theorem State.setDue_ports (u : Fin 24) : (s.setDue u).ports = s.ports := rfl
@[simp] theorem State.setDue_table (u : Fin 24) : (s.setDue u).table = s.table := rfl
@[simp] theorem State.setDue_path (u : Fin 24) : (s.setDue u).path = s.path := rfl
@[simp] theorem State.setDue_loader (u : Fin 24) : (s.setDue u).loader = s.loader := rfl
@[simp] theorem State.setDue_report (u : Fin 24) : (s.setDue u).report = s.report := rfl

/-! ## stopLine -/

@[simp] theorem State.stopLine_pending : (s.stopLine).pending = s.pending := rfl
@[simp] theorem State.stopLine_freeIndex : (s.stopLine).freeIndex = s.freeIndex := rfl
@[simp] theorem State.stopLine_cfgBase : (s.stopLine).cfgBase = s.cfgBase := rfl
@[simp] theorem State.stopLine_observeAll : (s.stopLine).observeAll = s.observeAll := rfl
@[simp] theorem State.stopLine_guards : (s.stopLine).guards = s.guards := rfl
@[simp] theorem State.stopLine_config : (s.stopLine).config = s.config := rfl
@[simp] theorem State.stopLine_queue : (s.stopLine).queue = s.queue := rfl
@[simp] theorem State.stopLine_grading : (s.stopLine).grading = s.grading := rfl
@[simp] theorem State.stopLine_gates : (s.stopLine).gates = s.gates := rfl
@[simp] theorem State.stopLine_lineHold : (s.stopLine).lineHold = s.lineHold := rfl
@[simp] theorem State.stopLine_robots : (s.stopLine).robots = s.robots := rfl
@[simp] theorem State.stopLine_zones : (s.stopLine).zones = s.zones := rfl
@[simp] theorem State.stopLine_ports : (s.stopLine).ports = s.ports := rfl
@[simp] theorem State.stopLine_table : (s.stopLine).table = s.table := rfl
@[simp] theorem State.stopLine_path : (s.stopLine).path = s.path := rfl
@[simp] theorem State.stopLine_loader : (s.stopLine).loader = s.loader := rfl
@[simp] theorem State.stopLine_report : (s.stopLine).report = s.report := rfl

end Sys2Proof.Machine
end

