-- ==== Sys2Proof/Laws/Ops.lean ====
section
/-! SUPPORT. What each shared operation does, said once: the notices of a step, the transaction that memory answers, the
line-hold set, the robots' causes and gate states, changes of ports and zones, completions. -/

namespace Sys2Proof.Machine

variable (s : State)

/-! ## Notices -/

/-- Putting one notice in its place keeps the notices. -/
theorem insertNotice_perm (i later : Nat) (n : Notice) (ns : List Notice) : (insertNotice i later n ns).Perm (n :: ns) := by
  induction ns with
  | nil => exact List.Perm.refl _
  | cons m ms ih =>
    unfold insertNotice
    split
    · exact List.Perm.refl _
    · exact (ih.cons m).trans (List.Perm.swap n m ms)

/-- The notices of a step join in some order, each once. -/
theorem orderNotices_perm (i : Nat) (ns : List Notice) : (orderNotices i ns).Perm ns := by
  induction ns with
  | nil => exact List.Perm.refl _
  | cons n ns ih => exact (insertNotice_perm i _ n _).trans (ih.cons n)

/-- No notice to order. -/
@[simp] theorem orderNotices_nil (i : Nat) : orderNotices i [] = [] := rfl

/-- One notice joins as it is. -/
@[simp] theorem orderNotices_one (i : Nat) (n : Notice) : orderNotices i [n] = [n] := rfl

/-- A notice joins a queue with room. -/
theorem Report.join_room (r : Report) (n : Notice) (h : r.notices.length < 16) :
    r.join n = { r with notices := r.notices ++ [n] } := by
  simp [Report.join, h]

/-- A full queue discards a notice and counts it. -/
theorem Report.join_full (r : Report) (n : Notice) (h : 16 ≤ r.notices.length) :
    r.join n = { r with dropped := satAdd 16 r.dropped 1 } := by
  simp [Report.join, Nat.not_lt.mpr h]

/-- Joining touches the queue and the dropped count alone. -/
theorem Report.join_frame (r : Report) (n : Notice) :
    { r.join n with notices := r.notices, dropped := r.dropped } = r := by
  unfold Report.join
  split <;> rfl

/-- Joining keeps the queue within 16 notices. -/
theorem Report.join_length (r : Report) (n : Notice) (h : r.notices.length ≤ 16) : (r.join n).notices.length ≤ 16 := by
  unfold Report.join
  split
  · simp only [List.length_append, List.length_cons, List.length_nil]
    omega
  · exact h

/-- Many notices join: the queue and the dropped count alone change. -/
theorem Report.joins_frame (r : Report) (ns : List Notice) :
    { ns.foldl Report.join r with notices := r.notices, dropped := r.dropped } = r := by
  induction ns generalizing r with
  | nil => rfl
  | cons n ns ih =>
    have h1 := ih (r.join n)
    have h2 := Report.join_frame r n
    calc { ns.foldl Report.join (r.join n) with notices := r.notices, dropped := r.dropped }
        = { { ns.foldl Report.join (r.join n) with notices := (r.join n).notices, dropped := (r.join n).dropped } with
            notices := r.notices, dropped := r.dropped } := rfl
      _ = r := by rw [h1]; exact h2

/-- Many notices join and the queue stays within 16. -/
theorem Report.joins_length (r : Report) (ns : List Notice) (h : r.notices.length ≤ 16) :
    (ns.foldl Report.join r).notices.length ≤ 16 := by
  induction ns generalizing r with
  | nil => exact h
  | cons n ns ih => exact ih _ (Report.join_length r n h)

/-- After a step no notice waits to join. -/
@[simp] theorem State.joinGiven_given : s.joinGiven.given = [] := rfl

/-- Presenting a notice leaves the given notices. -/
@[simp] theorem State.settle_given : s.settle.given = [] := by
  simp [State.settle]

/-- The end of a step leaves the path but for the own queue. -/
theorem State.settle_path : { s.settle.path with ownQueue := s.path.ownQueue } = s.path := rfl

/-- A notice write is presented only while none is outstanding. -/
theorem State.noticeToPresent_some {o : OwnTxn} (h : s.noticeToPresent = some o) :
    o.requester = .notice ∧ s.path.noticeOut = false := by
  unfold State.noticeToPresent at h
  split at h
  · split at h
    · split at h
      · next h' =>
        simp only [Bool.and_eq_true, Bool.not_eq_true'] at h'
        cases h
        exact ⟨rfl, h'.2⟩
      · cases h
    · cases h
  · cases h

/-- The own queue after the end of a step: as it was, or with one notice write more, which was not outstanding. -/
theorem State.settle_ownQueue : s.settle.path.ownQueue = s.path.ownQueue ∨
    ∃ o : OwnTxn, o.requester = .notice ∧ s.path.noticeOut = false ∧ s.settle.path.ownQueue = s.path.ownQueue ++ [o] := by
  have hq : s.settle.path.ownQueue = s.path.ownQueue ++ s.joinGiven.noticeToPresent.toList := rfl
  cases h : s.joinGiven.noticeToPresent with
  | none => left; rw [hq, h]; exact List.append_nil _
  | some o =>
    right
    exact ⟨o, (State.noticeToPresent_some _ h).1, (State.noticeToPresent_some _ h).2, by rw [hq, h]; rfl⟩

/-- What joins is all that the notices of a step change in the report unit. -/
theorem State.joinGiven_report_eq : s.joinGiven.report = s.reportJoined := by
  have h : { s.reportJoined with notices := s.report.notices, dropped := s.report.dropped } = s.report := by
    unfold State.reportJoined
    split
    · rfl
    · exact Report.joins_frame _ _
  have h' : s.joinGiven.report =
      { s.report with notices := s.reportJoined.notices, dropped := s.reportJoined.dropped } := rfl
  rw [h', ← h]

/-- The report unit after the end of a step of a configured part: the notices joined. -/
theorem State.settle_report {c : HallConfig} (h : s.config = some c) :
    s.settle.report = (orderNotices s.freeIndex s.given).foldl Report.join s.report := by
  unfold State.settle
  rw [State.presentNotice_report, State.joinGiven_report_eq]
  unfold State.reportJoined
  rw [h]

/-- While UNCONFIGURED the notices are discarded. -/
theorem State.settle_report_none (h : s.config = none) : s.settle.report = s.report := by
  unfold State.settle
  rw [State.presentNotice_report, State.joinGiven_report_eq]
  unfold State.reportJoined
  rw [h]

/-- The report unit but for its queue and dropped count stands. -/
theorem State.settle_report_frame :
    { s.settle.report with notices := s.report.notices, dropped := s.report.dropped } = s.report := rfl

/-- The end of a step leaves every field but the given notices, the step's number, the report unit and the own queue. -/
theorem State.settle_frame :
    { s.settle with given := s.given, freeIndex := s.freeIndex, report := s.report, path := s.path } = s := rfl

/-! ### Fields of the path and of the report unit after the end of a step -/

@[simp] theorem State.settle_path_flights : s.settle.path.flights = s.path.flights := rfl
@[simp] theorem State.settle_path_ownWait : s.settle.path.ownWait = s.path.ownWait := rfl
@[simp] theorem State.settle_path_ownAtMemory : s.settle.path.ownAtMemory = s.path.ownAtMemory := rfl
@[simp] theorem State.settle_path_otherDenied : s.settle.path.otherDenied = s.path.otherDenied := rfl
@[simp] theorem State.settle_path_responses : s.settle.path.responses = s.path.responses := rfl

@[simp] theorem State.settle_report_lastSeq : s.settle.report.lastSeq = s.report.lastSeq := rfl
@[simp] theorem State.settle_report_slot : s.settle.report.slot = s.report.slot := rfl
@[simp] theorem State.settle_report_reply : s.settle.report.reply = s.report.reply := rfl
@[simp] theorem State.settle_report_snapshot : s.settle.report.snapshot = s.report.snapshot := rfl
@[simp] theorem State.settle_report_snapshotSeq : s.settle.report.snapshotSeq = s.report.snapshotSeq := rfl
@[simp] theorem State.settle_report_producer : s.settle.report.producer = s.report.producer := rfl
@[simp] theorem State.settle_report_consumer : s.settle.report.consumer = s.report.consumer := rfl
@[simp] theorem State.settle_report_consumerErrors : s.settle.report.consumerErrors = s.report.consumerErrors := rfl

/-! ## The transaction that memory answers -/

/-- What taking a record says: the oldest transaction of the source hands it over, and the path alone moves on. -/
theorem State.take_spec {α : Type} {tag : Fin 32} {sel : Handover → Option α} {a : α} {t : State}
    (h : s.take tag sel = some (a, t)) :
    ∃ f left, s.path.oldest tag = some f ∧ pick sel (s.toHand f) = some (a, left) ∧
      t = s.onPath fun p => p.handed tag left := by
  unfold State.take at h
  split at h
  · cases h
  · next f hf =>
    split at h
    · cases h
    · next b left hp =>
      simp only [Option.some.injEq, Prod.mk.injEq] at h
      obtain ⟨rfl, rfl⟩ := h
      exact ⟨f, left, hf, hp, rfl⟩

/-- Taking a record leaves every field but the path. -/
theorem State.take_frame {α : Type} {tag : Fin 32} {sel : Handover → Option α} {a : α} {t : State}
    (h : s.take tag sel = some (a, t)) : { t with path := s.path } = s := by
  obtain ⟨f, left, -, -, rfl⟩ := State.take_spec s h
  rfl

/-- A step that finds its record. -/
theorem State.taking_some {α : Type} {tag : Fin 32} {sel : Handover → Option α} {a : α} {t : State}
    (act : α → State → State) (h : s.take tag sel = some (a, t)) : s.taking tag sel act = .next (act a t).settle := by
  simp [State.taking, h]

/-- A step that does not find its record. -/
theorem State.taking_none {α : Type} {tag : Fin 32} {sel : Handover → Option α} (act : α → State → State)
    (h : s.take tag sel = none) : s.taking tag sel act = .next s := by
  simp [State.taking, h]

/-- A step that takes a record answers a next state. -/
theorem State.taking_next {α : Type} (tag : Fin 32) (sel : Handover → Option α) (act : α → State → State) :
    ∃ t, s.taking tag sel act = .next t := by
  unfold State.taking
  split <;> exact ⟨_, rfl⟩

/-! ## The line-hold set -/

/-- The bits of the set that holds one cause. -/
theorem lineBit_getLsbD (g : Fin 2) (k : LineCause) (i : Nat) (h : i < 14) :
    (BitVec.ofNat 14 (2 ^ lineIndex g k)).getLsbD i = decide (i = lineIndex g k) := by
  have hk : lineIndex g k < 14 := by
    have := g.isLt
    cases k <;> simp only [lineIndex, LineCause.code] <;> omega
  rw [BitVec.getLsbD_ofNat, Nat.testBit_two_pow]
  simp [h, eq_comm]

/-- An added cause is in the set; the others stand. -/
theorem State.addHold_bits (g : Fin 2) (k : LineCause) (b : Option Bottle) (i : Nat) (h : i < 14) :
    (s.addHold g k b).lineHold.getLsbD i = (s.lineHold.getLsbD i || decide (i = lineIndex g k)) := by
  unfold State.addHold
  split
  · next hh =>
    by_cases hi : i = lineIndex g k
    · subst hi; simp only [State.holds] at hh; simp [hh]
    · simp [hi]
  · change (s.lineHold ||| BitVec.ofNat 14 (2 ^ lineIndex g k)).getLsbD i = _
    rw [BitVec.getLsbD_or, lineBit_getLsbD g k i h]

/-- A removed cause is not in the set; the others stand. -/
theorem State.dropHold_bits (g : Fin 2) (k : LineCause) (i : Nat) (h : i < 14) :
    (s.dropHold g k).lineHold.getLsbD i = (s.lineHold.getLsbD i && decide (i ≠ lineIndex g k)) := by
  change (s.lineHold &&& ~~~(BitVec.ofNat 14 (2 ^ lineIndex g k))).getLsbD i = _
  rw [BitVec.getLsbD_and, BitVec.getLsbD_not, lineBit_getLsbD g k i h]
  simp [h]

/-- A conditional cause follows its condition; the others stand. -/
theorem State.followHold_bits (g : Fin 2) (k : LineCause) (on : Bool) (i : Nat) (h : i < 14) :
    (s.followHold g k on).lineHold.getLsbD i = if i = lineIndex g k then on else s.lineHold.getLsbD i := by
  unfold State.followHold
  cases on
  · simp only [Bool.false_eq_true, if_false, State.dropHold_bits s g k i h]
    by_cases hi : i = lineIndex g k <;> simp [hi]
  · simp only [if_true, State.addHold_bits s g k none i h]
    by_cases hi : i = lineIndex g k <;> simp [hi]

/-! ## Robots -/

/-- Every robot's record after the states of the other blocks have been followed. -/
@[simp] theorem State.followRobots_get (c : HallConfig) (u : Fin 24) :
    (s.followRobots c).robots.get u = (s.robots.get u).map (s.robotAfter c u) := by
  simp [State.followRobots]

/-- The causes after following are those whose conditions hold. -/
theorem State.robotAfter_causes (c : HallConfig) (u : Fin 24) (r : Robot) :
    (s.robotAfter c u r).causes = s.causesOf c u r := by
  unfold State.robotAfter Robot.evaluate State.followRobot
  simp only
  repeat' split
  all_goals rfl

/-- Following changes a record's causes, gate state and release-confirm alone. -/
theorem State.robotAfter_frame (c : HallConfig) (u : Fin 24) (r : Robot) :
    { s.robotAfter c u r with causes := r.causes, gate := r.gate, confirm := r.confirm } = r := by
  unfold State.robotAfter Robot.evaluate State.followRobot
  simp only
  repeat' split
  all_goals rfl

/-- A robot with a cause is HELD. -/
theorem State.robotAfter_held (c : HallConfig) (u : Fin 24) (r : Robot) (h : s.causesOf c u r ≠ 0) :
    (s.robotAfter c u r).gate = .held := by
  unfold State.robotAfter Robot.evaluate State.followRobot
  simp only [ne_eq, h, not_false_eq_true, if_true]
  split
  · assumption
  · rfl

/-- A HELD robot without a cause is ARMING with release-confirm set, RELEASED without. -/
theorem State.robotAfter_clear (c : HallConfig) (u : Fin 24) (r : Robot) (h : s.causesOf c u r = 0)
    (hg : r.gate = .held) :
    (s.robotAfter c u r).gate = if r.confirm then .arming else .released := by
  unfold State.robotAfter Robot.evaluate State.followRobot
  have e : ((0 : Byte) &&& ~~~r.causes) = 0 := by simp
  have z : ∀ i, (0 : Byte).getLsbD i = false := fun i => BitVec.getLsbD_zero
  simp only [h, ne_eq, not_true_eq_false, if_false, hg, if_true, e, z, Bool.or_false]
  split <;> rfl

/-- While UNCONFIGURED a change is handed to nobody. -/
theorem State.handOn_none (h : s.config = none) : s.handOn = s := by
  simp [State.handOn, h]

/-- The line-hold set after a change is handed on. -/
theorem State.handOn_lineHold {c : HallConfig} (h : s.config = some c) :
    s.handOn.lineHold = ((s.followGate c 0).followGate c 1).lineHold := by
  simp [State.handOn, h, State.followRobots]

/-- Every robot's record after a change is handed on. -/
theorem State.handOn_get {c : HallConfig} (h : s.config = some c) (u : Fin 24) :
    s.handOn.robots.get u = (s.robots.get u).map (((s.followGate c 0).followGate c 1).robotAfter c u) := by
  simp [State.handOn, h]

/-! ## Ports -/

/-- The record of the port that changes state. -/
theorem State.movePort_self (c : HallConfig) (p : Fin 16) (new : PortState) (reason : PortReason) :
    (s.movePort c p new reason).ports.get p = (s.ports.get p).enter new reason s.time.localTime := by
  unfold State.movePort
  simp only
  split <;> simp [State.discardSequences]

/-- The other ports stand. -/
theorem State.movePort_other (c : HallConfig) {p q : Fin 16} (new : PortState) (reason : PortReason) (h : q ≠ p) :
    (s.movePort c p new reason).ports.get q = s.ports.get q := by
  unfold State.movePort
  simp only
  split <;> simp [State.discardSequences, Table.get_modify_ne _ _ h]

/-! ## Zones -/

/-- The record of the zone that changes state. -/
theorem State.moveZone_self (c : HallConfig) (z : Fin 8) (new : ZoneState) :
    (s.moveZone c z new).zones.get z = (s.zones.get z).enter new s.time.localTime := by
  unfold State.moveZone
  simp only
  split <;> simp

/-- The other zones stand. -/
theorem State.moveZone_other (c : HallConfig) {z y : Fin 8} (new : ZoneState) (h : y ≠ z) :
    (s.moveZone c z new).zones.get y = s.zones.get y := by
  unfold State.moveZone
  simp only
  split <;> simp [Table.get_modify_ne _ _ h]

/-- The zones after a completion at once. -/
@[simp] theorem State.completeNow_zones (z : Fin 8) (q : Byte) (code : Completion) :
    (s.completeNow z q code).zones = s.zones.modify z fun k =>
      { k with reply := { k.reply with code := some code, origin := .command q, further := false } } := rfl

/-- The zones after an autonomous completion. -/
@[simp] theorem State.completeAlone_zones (z : Fin 8) (code : Completion) :
    (s.completeAlone z code).zones = s.zones.modify z fun k =>
      { k with pending :=
          match k.pending with
          | some p => some { p with further := true }
          | none => some { code := code, origin := .autonomous, further := false } } := rfl

/-- The zones after the ENTER in flight completes. -/
theorem State.completeEnter_zones (z : Fin 8) (q : Byte) (code : Completion) (h : (s.zones.get z).inFlight = some q) :
    (s.completeEnter z code).zones = s.zones.modify z fun k =>
      { k with inFlight := none, pending := some { code := code, origin := .command q, further := false } } := by
  simp only [State.completeEnter, h]
  rfl

end Sys2Proof.Machine
end

