-- ==== Sys2Proof/Laws/Notices.lean ====
section
/-! SUPPORT. What the end of a step does to the notice queue (R166): the order in which the notices join, the places they find,
and from these the one lemma by which a command's notices are read off the list its step gave. -/

namespace Sys2Proof.Machine

/-- A notice joins before a later one of its rule and subject. -/
theorem joinsFirst_same {free : Bool} {a b : Notice} (hr : a.kind.rule = b.kind.rule) (hs : a.subject = b.subject) :
    joinsFirst free a b = true := by
  unfold joinsFirst
  split
  · rename_i h
    have hb : b.kind.rule = 163 := by rw [← hr, h]; rfl
    cases hk : b.kind <;> rw [hk] at hb <;> first | rfl | (simp [NoticeKind.rule] at hb)
  · simp [hr, hs]

/-- An inserted notice stands before those of its rule and subject. -/
theorem insertNotice_filter (i later : Nat) (n : Notice) (p : Notice → Bool)
    (hp : ∀ free m, p n = true → p m = true → joinsFirst free n m = true) (ns : List Notice) :
    (insertNotice i later n ns).filter p = (n :: ns).filter p := by
  induction ns with
  | nil => rfl
  | cons m ms ih =>
    rw [insertNotice]
    split
    · rfl
    · rename_i h
      cases hn : p n <;> cases hm : p m
      · simp [hm, ih, hn]
      · simp [hm, ih, hn]
      · simp [hm, ih, hn]
      · exact absurd (hp _ m hn hm) h

/-- Ordering keeps the order of the notices that `p` picks, when each of them joins before every later one. -/
theorem orderNotices_filter (i : Nat) (p : Notice → Bool)
    (hp : ∀ free n m, p n = true → p m = true → joinsFirst free n m = true) (ns : List Notice) :
    (orderNotices i ns).filter p = ns.filter p := by
  induction ns with
  | nil => rfl
  | cons n ns ih =>
    rw [show orderNotices i (n :: ns) = insertNotice i ns.length n (orderNotices i ns) from rfl,
      insertNotice_filter i _ n p (fun free m => hp free n m), List.filter_cons, List.filter_cons, ih]

/-- The other notices join before a load's outcome. -/
theorem insertNotice_split (i later : Nat) (n : Notice) (first last : List Notice)
    (hf : ∀ m ∈ first, m.kind ≠ .loadOutcome) (hl : ∀ m ∈ last, m.kind = .loadOutcome) :
    ∃ first', (∀ m ∈ first', m.kind ≠ .loadOutcome) ∧
      insertNotice i later n (first ++ last) =
        first' ++ if n.kind = .loadOutcome then n :: last else last := by
  induction first with
  | nil =>
    cases last with
    | nil =>
      by_cases h : n.kind = .loadOutcome
      · exact ⟨[], by simp, by simp [insertNotice, h]⟩
      · exact ⟨[n], by simp [h], by simp [insertNotice, h]⟩
    | cons m ms =>
      have hm := hl m List.mem_cons_self
      by_cases h : n.kind = .loadOutcome
      · exact ⟨[], by simp, by simp [insertNotice, joinsFirst, h, hm]⟩
      · exact ⟨[n], by simp [h], by simp [insertNotice, joinsFirst, h, hm]⟩
  | cons m ms ih =>
    have hm := hf m List.mem_cons_self
    obtain ⟨first', h1, h2⟩ := ih (fun x hx => hf x (List.mem_cons_of_mem _ hx))
    by_cases h : joinsFirst (Config.noticeEarly i later (ms ++ last).length) n m = true
    · by_cases hn : n.kind = .loadOutcome
      · simp [joinsFirst, hn, hm] at h
      · refine ⟨n :: m :: ms, ?_, by rw [List.cons_append, insertNotice, if_pos h, if_neg hn]; rfl⟩
        intro x hx
        rcases List.mem_cons.1 hx with rfl | hx
        · exact hn
        · exact hf x hx
    · refine ⟨m :: first', ?_, by rw [List.cons_append, insertNotice, if_neg h, h2]; rfl⟩
      intro x hx
      rcases List.mem_cons.1 hx with rfl | hx
      · exact hm
      · exact h1 x hx

/-- A load's outcome joins last (R160). -/
theorem orderNotices_last (i : Nat) (ns : List Notice) :
    ∃ first, (∀ m ∈ first, m.kind ≠ .loadOutcome) ∧
      orderNotices i ns = first ++ ns.filter (fun n => decide (n.kind = .loadOutcome)) := by
  induction ns with
  | nil => exact ⟨[], by simp, rfl⟩
  | cons n ns ih =>
    obtain ⟨first, h1, h2⟩ := ih
    obtain ⟨first', h3, h4⟩ := insertNotice_split i ns.length n first _ h1
      (fun m hm => of_decide_eq_true (List.mem_filter.1 hm).2)
    refine ⟨first', h3, ?_⟩
    rw [show orderNotices i (n :: ns) = insertNotice i ns.length n (orderNotices i ns) from rfl, h2, h4]
    by_cases h : n.kind = .loadOutcome <;> simp [h]

/-- The order in which a step's notices join is one that R166 allows. -/
theorem orderNotices_joinsAs (i : Nat) (ns : List Notice) : JoinsAs ns (orderNotices i ns) where
  all := orderNotices_perm i ns
  order := fun r x => orderNotices_filter i _ (fun _ n m hn hm => by
    simp only [Bool.and_eq_true, decide_eq_true_eq] at hn hm
    exact joinsFirst_same (hn.1.trans hm.1.symm) (hn.2.trans hm.2.symm)) ns
  last := let ⟨first, _, h⟩ := orderNotices_last i ns; ⟨first, h⟩

/-- Notices that join one after the other take the places left of 16, and the others are counted (R166). -/
theorem foldl_join (ns : List Notice) (r : Report) :
    (ns.foldl Report.join r).notices = r.notices ++ ns.take (16 - r.notices.length) ∧
      (ns.foldl Report.join r).dropped =
        if ns.length ≤ 16 - r.notices.length then r.dropped
        else min 65535 (r.dropped + (ns.length - (16 - r.notices.length))) := by
  induction ns generalizing r with
  | nil => simp
  | cons n ns ih =>
    have h := ih (r.join n)
    rw [List.foldl_cons]
    by_cases hr : r.notices.length < 16
    · have h1 : (r.join n).notices = r.notices ++ [n] := by simp [Report.join, hr]
      have h2 : (r.join n).dropped = r.dropped := by simp [Report.join, hr]
      have h3 : 16 - r.notices.length = (16 - (r.notices.length + 1)) + 1 := by omega
      rw [h1, h2, List.length_append, List.length_singleton] at h
      refine ⟨?_, ?_⟩
      · rw [h.1, h3, List.take_succ_cons]; simp
      · rw [h.2, h3, List.length_cons]
        split <;> split <;> omega
    · have h1 : (r.join n).notices = r.notices := by simp [Report.join, hr]
      have h2 : (r.join n).dropped = min 65535 (r.dropped + 1) := by simp [Report.join, hr, satAdd]
      have h3 : 16 - r.notices.length = 0 := by omega
      rw [h1, h2, h3] at h
      refine ⟨?_, ?_⟩
      · rw [h.1, h3]; simp
      · rw [h.2, h3, List.length_cons]
        split <;> split <;> omega

/-- What a step gives, read off the state `a` in which it settles: its notices are those of `a`, in an order that R166 allows. -/
theorem State.settle_notices {s a : State} {p : Notice → Bool} {own : List Notice}
    (hn : a.report.notices = s.report.notices) (hd : a.report.dropped = s.report.dropped)
    (hg : s.given = [] → a.given.filter p = own) : s.Notices a.settle p own := by
  intro h0
  cases hc : a.config with
  | none =>
    simp only [State.settle, State.presentNotice, State.joinGiven, State.onPath, State.reportJoined, hc]
    exact ⟨hn, hd⟩
  | some c =>
    have hj := foldl_join (orderNotices a.freeIndex a.given) a.report
    simp only [State.settle, State.presentNotice, State.joinGiven, State.onPath, State.reportJoined, hc]
    refine ⟨a.given, _, hg h0, orderNotices_joinsAs a.freeIndex a.given, ?_, ?_⟩
    · rw [hj.1, hn]
    · rw [hj.2, hn, hd]

/-! ## The notices of a handed-on change -/

/-- A conditional cause followed gives no notice but a handed one. -/
theorem State.followHold_given (s : State) (g : Fin 2) (k : LineCause) (on : Bool)
    (hk : k = .port ∨ k = .lost ∨ k = .fault ∨ k = .zone) :
    ∃ more, (s.followHold g k on).given = s.given ++ more ∧ ∀ n ∈ more, n.handed = true := by
  unfold State.followHold State.addHold State.dropHold
  split
  · split
    · exact ⟨[], by simp, by simp⟩
    · refine ⟨[_], rfl, ?_⟩
      intro n hn
      obtain rfl := List.mem_singleton.1 hn
      rcases hk with rfl | rfl | rfl | rfl <;> rfl
  · exact ⟨[], by simp, by simp⟩

/-- A gate's conditional causes followed give no notices but handed ones. -/
theorem State.followGate_given (s : State) (c : HallConfig) (g : Fin 2) :
    ∃ more, (s.followGate c g).given = s.given ++ more ∧ ∀ n ∈ more, n.handed = true := by
  unfold State.followGate
  split
  · rename_i u r _ _
    obtain ⟨m1, e1, h1⟩ := s.followHold_given g .port (s.gateCondition c u r .port) (by simp)
    obtain ⟨m2, e2, h2⟩ := (s.followHold g .port (s.gateCondition c u r .port)).followHold_given g .lost
      (s.gateCondition c u r .lost) (by simp)
    obtain ⟨m3, e3, h3⟩ := ((s.followHold g .port (s.gateCondition c u r .port)).followHold g .lost
      (s.gateCondition c u r .lost)).followHold_given g .fault (s.gateCondition c u r .fault) (by simp)
    obtain ⟨m4, e4, h4⟩ := (((s.followHold g .port (s.gateCondition c u r .port)).followHold g .lost
      (s.gateCondition c u r .lost)).followHold g .fault (s.gateCondition c u r .fault)).followHold_given g .zone
      (s.gateCondition c u r .zone) (by simp)
    refine ⟨m1 ++ m2 ++ m3 ++ m4, by rw [e4, e3, e2, e1]; simp, ?_⟩
    intro n hn
    simp only [List.mem_append] at hn
    rcases hn with ((hn | hn) | hn) | hn
    exacts [h1 n hn, h2 n hn, h3 n hn, h4 n hn]
  · exact ⟨[], by simp, by simp⟩

/-- A robot's change of gate state gives a handed notice. -/
theorem State.gateNotice_handed (s : State) (u : Fin 24) (a b : Robot) (n : Notice) (h : s.gateNotice u a b = some n) :
    n.handed = true := by
  unfold State.gateNotice at h
  split at h
  · cases h
  · split at h <;> (obtain rfl := Option.some.inj h; rfl)

/-- A change handed on gives no notices but handed ones (R75, R89). -/
theorem State.handOn_given (s : State) :
    ∃ more, s.handOn.given = s.given ++ more ∧ ∀ n ∈ more, n.handed = true := by
  unfold State.handOn
  split
  · exact ⟨[], by simp, by simp⟩
  · rename_i c _
    obtain ⟨m1, e1, h1⟩ := s.followGate_given c 0
    obtain ⟨m2, e2, h2⟩ := (s.followGate c 0).followGate_given c 1
    refine ⟨m1 ++ m2 ++ (List.finRange 24).filterMap (((s.followGate c 0).followGate c 1).robotNotice c), ?_, ?_⟩
    · simp [State.followRobots, e1, e2]
    · intro n hn
      simp only [List.mem_append, List.mem_filterMap] at hn
      rcases hn with (hn | hn) | ⟨u, -, hn⟩
      · exact h1 n hn
      · exact h2 n hn
      · unfold State.robotNotice at hn
        obtain ⟨r, -, hr⟩ := Option.bind_eq_some_iff.1 hn
        exact State.gateNotice_handed _ _ _ _ _ hr

/-- Of the notices that are not handed on, a handed-on change gives none. -/
theorem State.handOn_filter (s : State) (p : Notice → Bool) (hp : ∀ n, n.handed = true → p n = false) :
    s.handOn.given.filter p = s.given.filter p := by
  obtain ⟨more, e, h⟩ := s.handOn_given
  have hm : more.filter p = [] := List.filter_eq_nil_iff.2 fun n hn => by simp [hp n (h n hn)]
  rw [e, List.filter_append, hm, List.append_nil]

/-- The case of all the notices that are not handed on. -/
@[simp] theorem State.handOn_gives (s : State) :
    s.handOn.given.filter (fun n => !n.handed) = s.given.filter (fun n => !n.handed) :=
  s.handOn_filter _ fun n h => by simp [h]

end Sys2Proof.Machine
end

