-- ==== Sys2Proof/WellFormed.lean ====
section
/-! DEFINITION. Which operands the interfaces of the part can carry. `exec` gives every command a meaning, well
formed or not (it reads missing words as 0 and ignores words too many); these checks say what the wires can bring. -/

namespace Sys2Proof

/-- The length of a transaction in words. -/
def Access.length : Access → Nat
  | .read n => n
  | .write ws => ws.length

/-- An upstream transaction is 1 … 16 words long (08 8.1). This is not R143's form, which the part itself tests. -/
def Txn.wellFormed (t : Txn) : Bool :=
  decide (1 ≤ t.access.length) && decide (t.access.length ≤ 16)

/-- The data of a read of an upstream transaction: at most 16 words. -/
def readDataWellFormed (data : List Word) : Bool :=
  decide (data.length ≤ 16)

/-- The sources that can have a command frame read or a record written: the switch ports, tags 1 … 16 (R145). -/
def portTag (tag : Fin 32) : Bool :=
  decide (1 ≤ tag.val) && decide (tag.val ≤ 16)

/-- The operands of a command are ones its interface can carry. -/
def Instr.wellFormed : Instr → Bool
  | .upstreamTransaction t _ => t.wellFormed
  | .timeFrame tag => portTag tag
  | .verdictRecord tag => portTag tag
  | .robotStatusFrame tag => portTag tag
  | .gateStatusFrame tag => portTag tag
  | .robotCommandRead tag data => portTag tag && readDataWellFormed data
  | .gateCommandRead tag data => portTag tag && readDataWellFormed data
  | .mailboxRead data => readDataWellFormed data
  | .forwardedResponse _ _ data => readDataWellFormed data
  | .configReadAnswered ok data => !ok || decide (data.length = 16)
  | .resetN _ => true
  | .pitchEdge => true
  | .stopTimerExpiry => true
  | .slewMove => true
  | .holdoverExpiry => true
  | .accountSecond _ => true
  | .robotStatusTimeout _ => true
  | .gateStatusTimeout _ => true
  | .sequenceWrite _ => true
  | .guardRawChange _ _ => true
  | .guardOpen _ => true
  | .guardClosed _ => true
  | .accessTimerExpiry _ => true
  | .clearingWindowExpiry _ => true
  | .enter _ => true
  | .confirm _ => true
  | .extend _ => true
  | .cancel _ => true
  | .reset _ => true
  | .resume _ => true
  | .sense _ => true
  | .release => true
  | .clearSuspect => true
  | .accountClear => true
  | .portClear => true
  | .snapshot => true
  | .purge => true
  | .lineResume => true
  | .snapshotWriteAnswered _ => true
  | .consumerWrite => true
  | .noticeWriteAnswered _ => true
  | .switchTable => true
  | .tableTimerExpiry => true
  | .intervalBoundary => true
  | .silenceExpiry _ => true
  | .viewRead _ => true
  | .arbiterGrant => true
  | .fullLoad => true
  | .parameterLoad => true
  | .changeoverLoad => true
  | .referencePeriod => true
  | .otherCommandCode _ => true
  | .otherLoadKind => true

end Sys2Proof
end

