-- ==== Sys2Proof/Tests/Slice0.lean ====
section
/-! SUPPORT. The tests. First a small hall and the states that the tests and witnesses start from; then the checks of
WellFormed, tests of single commands with values of the spec's worked sequences and tables, and for every statement that has
hypotheses a state and operands that meet them, at the boundary values of their ranges. -/

namespace Sys2Proof.Tests

open Sys2Proof Sys2Proof.Machine

/-! ## A small hall -/

/-- A window entry. -/
def window (kind : WindowKind) (unit base size : Nat) : Window :=
  { kind := kind, unit := unit, writers := 1, readers := 1, base := base, size := size }

/-- The windows: those of units 0 (FILLER), 1 (GATE), 2 (CAMERA) and 3 (CLOCK), and the part's own. -/
def windows : List Window :=
  [ window .plain 0 0x100000 4096, window .command 0 0x200000 128, window .status 0 0x200080 128,
    window .command 1 0x200100 128, window .status 1 0x200180 128, window .verdict 2 0x200200 128,
    window .timeFrame 3 0x200280 128, window .switchTable 0 0x200300 128, window .mailbox 0 0x200400 512,
    window .view 0 0x201000 4096, window .notice 0 0x202000 512 ]

/-- A unit entry. -/
def unit (kind : UnitKind) (port zone : Nat) : UnitCfg :=
  { kind := kind, port := port, zone := zone, alwaysConfirm := false, safeCount := 2, statusTimeout := 100,
    staleLimit := 200, vmin := 4800, vmax := 5000, slew := 5 }

/-- The configuration: a filler robot on port 1 in zone 0, a gate on port 2 in zone 1, a camera on port 3 in zone 2, a clock
unit on port 4. -/
def hall : HallConfig :=
  { windows := Table.ofFn fun i => windows.getD i.val (window .unused 0 0 128)
    units := Table.ofFn fun u =>
      ([unit .filler 1 0, unit .gate 2 1, unit .camera 3 2, unit .clock 4 0]).getD u.val (unit .absent 1 0)
    zones := Table.replicate 8 { hasSpan := true, breakpoint := false, first := 1, last := 3 }
    ports := Table.replicate 16 { observe := false, limit := 3, budget := 400, silence := 100 }
    gates := Table.ofFn fun g =>
      { present := decide (g = 0), unit := 1, advance := 4, distance := 20, statusTimeout := 100, cameraSet := 1 }
    fillCount := 1
    fillUnits := Table.replicate 8 0
    cameras := Table.ofFn fun n =>
      { present := decide (n = 0), unit := 2, distance := 200, halfWindow := 4, verbose := true, chainFirst := 2,
        chainStep := 2, chainLast := 6, snapshotAddr := 0x203000 }
    timers :=
      { minPitch := 50, stopTime := 2000, nominalPeriod := 100000000, pathDelay := 2000, suspectThreshold := 16,
        maintenance := Table.ofFn fun u => if u = 0 then 1 else 0 }
    ringSize := 16 }

/-- The same hall with a breakpoint in every zone. -/
def hallBreak : HallConfig :=
  { hall with zones := Table.replicate 8 { hasSpan := true, breakpoint := true, first := 1, last := 3 } }

/-- The same hall with every port in OBSERVE. -/
def hallObserve : HallConfig :=
  { hall with ports := Table.replicate 16 { observe := true, limit := 3, budget := 400, silence := 100 } }

/-- The robot, RELEASED and RUNNING. -/
def robot : Robot :=
  { accepted := .running, safeRun := 0, lastSeq := some 5, statusStart := some 99950000000, faultCode := 0, causes := 0,
    gate := .released, confirm := false, cmdSeq := some 1, seqTime := some 199990000000, lastVolume := none,
    lastSpeed := 0, lastForward := none, staleStatus := 0, modeErrors := 0, ring := [], suspect := false }

/-- The gate, IDLE. -/
def gate : GateRec :=
  { accepted := .idle, lastSeq := some 5, lastReport := none, faultCode := 0, statusStart := some 99950000000,
    passed := 0, rejected := 0, undeliverable := 0, staleStatus := 0, unmatched := 0 }

/-- A zone in RUN. -/
def zoneRun : Zone :=
  { Zone.fresh with state := .run, hasRun := true, lastSeq := some 9 }

/-- A port in ACTIVE. -/
def portActive : Port :=
  { Port.fresh with state := .active, reason := .link, linkUp := true }

/-- The state of the tests: the hall in force, every zone in RUN, every port ACTIVE, every guard CLOSED; local time 100 s, hall
time 200 s. -/
def line : State :=
  { State.reset with
    config := some hall
    time := { State.reset.time with localTime := 100000000000, hall := 200000000000 }
    guards := Table.replicate 8 { raw := false, since := 0, level := false }
    gates := Table.ofFn fun g => if g = 0 then some gate else none
    robots := Table.ofFn fun u => if u = 0 then some robot else none
    zones := Table.replicate 8 zoneRun
    ports := Table.replicate 16 portActive
    table := { State.reset.table with timer := some 99500000000, intervalStart := 99990000000 } }

/-- The state with robot 0's record changed. -/
def withRobot (f : Robot → Robot) (s : State) : State :=
  { s with robots := s.robots.modify 0 (Option.map f) }

/-- The state with zone 0's record changed. -/
def withZone (f : Zone → Zone) (s : State) : State :=
  { s with zones := s.zones.modify 0 f }

/-- The state with the record of port 1 changed. -/
def withPort (f : Port → Port) (s : State) : State :=
  { s with ports := s.ports.modify 0 f }

/-- The state with the time unit changed. -/
def withTime (f : TimeUnit → TimeUnit) (s : State) : State :=
  { s with time := f s.time }

/-- The state in which memory has answered OKAY a write of source `tag` into window `i`, with this record still to be handed
over. -/
def withRecord (tag : Fin 32) (i : Fin 32) (h : Handover) (s : State) : State :=
  { s with path := { s.path with
      flights := [{ txn := { tag := tag, addr := BitVec.ofNat 32 (hall.windows.get i).base, access := .write [] },
                    treatment := .observed i (hall.windows.get i), stage := .handing [h] }] } }

/-- The state in which memory has answered OKAY a write of the image's control word. -/
def withControl (w : Word) (s : State) : State :=
  { s with path := { s.path with
      flights := [{ txn := { tag := 0, addr := 0, access := .write [⟨w, 0xFF⟩] }, treatment := .image, stage := .atMemory }] } }

/-- The state in which a read of `n` words at the first byte of window `i` is outstanding at memory. -/
def withRead (tag : Fin 32) (i : Fin 32) (n : Nat) (s : State) : State :=
  { s with path := { s.path with
      flights := [{ txn := { tag := tag, addr := BitVec.ofNat 32 (hall.windows.get i).base, access := .read n },
                    treatment := .substituted i (hall.windows.get i), stage := .atMemory }] } }

/-- The state in which an own transaction is outstanding at memory. -/
def withOwn (o : OwnTxn) (s : State) : State :=
  { s with path := { s.path with ownAtMemory := [o] } }

/-- The next state of a command. -/
def after (c : Instr) (s : State) : State :=
  match exec c s with
  | .next t => t
  | .fault _ => s
  | .refused _ => s

/-- The bytes of a record of `n` words with these fields. -/
def record (n : Nat) (fs : List Field) : List Byte :=
  (recordWords fs 0 n).flatMap wordBytes

/-- `taken s tag sel` is the record that `take` gives: a witness says with it that `take` answers, with which record. -/
def taken {α : Type} (s : State) (tag : Fin 32) (sel : Handover → Option α) : Option α :=
  (s.take tag sel).map Prod.fst

/-- What `taken` says of `take`. -/
theorem take_of_taken {α : Type} {s : State} {tag : Fin 32} {sel : Handover → Option α} {a : α}
    (h : taken s tag sel = some a) : ∃ s1, s.take tag sel = some (a, s1) := by
  unfold taken at h
  cases h' : s.take tag sel with
  | none => simp [h'] at h
  | some r => simp only [h', Option.map_some, Option.some.injEq] at h; exact ⟨r.2, by rw [← h]⟩

/-! ## WellFormed -/

/-- An upstream transaction of no words is refused, and one of 17; 1 and 16 pass. -/
theorem test_wellFormed_upstream :
    (Instr.upstreamTransaction ⟨0, 0, .read 0⟩ false).wellFormed = false ∧
      (Instr.upstreamTransaction ⟨0, 0, .read 17⟩ false).wellFormed = false ∧
      (Instr.upstreamTransaction ⟨0, 0, .write (List.replicate 17 ⟨0, 0⟩)⟩ false).wellFormed = false ∧
      (Instr.upstreamTransaction ⟨0, 0, .read 1⟩ false).wellFormed = true ∧
      (Instr.upstreamTransaction ⟨0, 0, .read 16⟩ false).wellFormed = true := by
  decide

/-- The tags 0 and 17 hand over no frame and read no command frame; 1 and 16 can. -/
theorem test_wellFormed_tags :
    (∀ tag : Fin 32, tag = 0 ∨ tag = 17 →
      (Instr.timeFrame tag).wellFormed = false ∧ (Instr.verdictRecord tag).wellFormed = false ∧
      (Instr.robotStatusFrame tag).wellFormed = false ∧ (Instr.gateStatusFrame tag).wellFormed = false ∧
      (Instr.robotCommandRead tag []).wellFormed = false ∧ (Instr.gateCommandRead tag []).wellFormed = false) ∧
    (∀ tag : Fin 32, tag = 1 ∨ tag = 16 →
      (Instr.timeFrame tag).wellFormed = true ∧ (Instr.robotCommandRead tag []).wellFormed = true) := by
  decide

/-- More than 16 words are refused as the data of a read. -/
theorem test_wellFormed_data :
    (Instr.robotCommandRead 1 (List.replicate 17 0)).wellFormed = false ∧
      (Instr.gateCommandRead 1 (List.replicate 17 0)).wellFormed = false ∧
      (Instr.mailboxRead (List.replicate 17 0)).wellFormed = false ∧
      (Instr.forwardedResponse 0 true (List.replicate 17 0)).wellFormed = false ∧
      (Instr.mailboxRead (List.replicate 16 0)).wellFormed = true := by
  decide

/-- An image line is 16 words when memory answers OKAY. -/
theorem test_wellFormed_line :
    (Instr.configReadAnswered true (List.replicate 15 0)).wellFormed = false ∧
      (Instr.configReadAnswered true (List.replicate 17 0)).wellFormed = false ∧
      (Instr.configReadAnswered true (List.replicate 16 0)).wellFormed = true ∧
      (Instr.configReadAnswered false []).wellFormed = true := by
  decide

/-- No word spells a command: the table gives the rows no bits (log 37). -/
theorem test_decode_none : decodeTableWord 0 0 = none ∧ decodeTableWord 64 0xFFFFFFFFFFFFFFFF = none := by
  decide

/-! ## Time and pitch -/

/-- A TIMEFRAME slot. -/
def timeSlot (seq secs nanos : Nat) : List Byte :=
  record 8 [⟨0, 4, seq⟩, ⟨4, 1, 1⟩, ⟨8, 6, secs⟩, ⟨16, 4, nanos⟩]

/-- The line stopped at hall time `h`, with the clock in state `k`. -/
def clockAt (h : Nat) (k : ClockState) : State :=
  withTime (fun t => { t with hall := h, clock := k }) line

/-- 1.2.1, first frame: hall time steps by 997,500,002,000 ns, p is 0 and the clock is LOCKED. -/
theorem test_timeFrame_first :
    let t := (after (.timeFrame 4) (withRecord 4 6 (.timeFrame 3 (timeSlot 40 1000 500000000)) (clockAt 3000000000 .none))).time
    t.hall = 1000500002000 ∧ t.correction = 0 ∧ t.trim = 0 ∧ t.previousArrival = 1000500002000 ∧ t.clock = .locked := by
  decide

/-- 1.2.1, third frame: p is 3,000 and the trim goes from 3,000 to 3,749. -/
theorem test_timeFrame_third :
    let s := withTime (fun t =>
      { t with lastSeq := some 41, previousArrival := 1001500002000, trim := 3000 }) (clockAt 1002500017000 .locked)
    let t := (after (.timeFrame 4) (withRecord 4 6 (.timeFrame 3 (timeSlot 42 1002 500018000)) s)).time
    t.correction = 3000 ∧ t.trim = 3749 ∧ t.hall = 1002500017000 := by
  decide

/-- R1: with f at 3,000 ppb a reference period adds 8.000024 ns. -/
theorem test_referencePeriod_trim :
    let t := (after .referencePeriod (withTime (fun t => { t with trim := 3000 }) line)).time
    t.hall = 200000000008 ∧ t.fraction = 24000 ∧ t.localTime = 100000000008 := by
  decide

/-- R2: with p negative, hall time loses 1 ns and p rises by 1. -/
theorem test_slewMove_negative :
    let t := (after .slewMove (withTime (fun t => { t with correction := -2, slewProgress := 20000 }) line)).time
    t.hall = 199999999999 ∧ t.correction = -1 := by
  decide

/-- R9: 8 s after the last taken frame the clock is in HOLDOVER, and not 1 ns before. -/
theorem test_holdover_at_8s :
    (after .holdoverExpiry (withTime (fun t =>
      { t with clock := .locked, holdoverStart := some 92000000000 }) line)).time.clock = .holdover ∧
    (after .holdoverExpiry (withTime (fun t =>
      { t with clock := .locked, holdoverStart := some 92000000001 }) line)).time.clock = .locked := by
  decide

/-- R16: with a threshold of 1 hour the due flag is set at 3,600 s. -/
theorem test_account_due :
    let s (n : Nat) := withTime (fun t =>
      { t with accounts := t.accounts.set 0 { seconds := n, remainder := 1000000000, due := false } }) line
    ((after (.accountSecond 0) (s 3599)).time.accounts.get 0).due = true ∧
      ((after (.accountSecond 0) (s 3598)).time.accounts.get 0) = { seconds := 3599, remainder := 0, due := false } := by
  decide

/-- R11: an edge 49,999,999 ns after the last mark is a glitch with a minimum pitch of 50 ms; one at 50 ms is a mark. -/
theorem test_pitch_glitch :
    let s (h : Nat) := withTime (fun t =>
      { t with hall := h, pitchLog := [⟨7, 1000000000⟩], newest := some 7, nextIndex := 8, running := true }) line
    (after .pitchEdge (s 1049999999)).time.glitches = 1 ∧
      (after .pitchEdge (s 1050000000)).time.newest = some 8 := by
  decide

/-- R12, R24: the first bottle is filled by the fill order's only robot, RELEASED and RUNNING. -/
theorem test_pitch_joins :
    (after .pitchEdge line).queue.map (fun q => (q.bottle, q.filler, q.filled, q.entry)) =
      [(0, some 0, true, 200000000000)] := by
  decide

/-! ## Verdicts -/

/-- The line of 2.4.1 at hall time `h`: marks 987 to 1002, one every 100 ms from 3.7 s on, bottles 980 to 1002. -/
def placing (h : Nat) : State :=
  withTime (fun t =>
    { t with
      hall := h, newest := some 1002, nextIndex := 1003, running := true
      pitchLog := (List.range 16).map fun i => ⟨BitVec.ofNat 32 (987 + i), 3700000000 + 100000000 * i⟩ })
    { line with queue := (List.range 23).map fun i =>
        { bottle := BitVec.ofNat 32 (980 + i), entry := 0, filler := some 0, filled := true, generation := false,
          verdicts := Table.replicate 6 none, disturbed := none, purged := false, decisions := Table.replicate 2 none,
          ejected := none } }

/-- 2.4.1, cases 1 to 7. -/
theorem test_placement :
    let place (h w T : Nat) := (placing h).place hall { hall.cameras.get 0 with halfWindow := w } T
    place 5290000000 4 5130000000 = .on 989 ∧
      place 5290000000 3 5130000000 = .unplaced .ambiguous (some 989) (BitVec.ofInt 32 (-52)) ∧
      place 5290000000 4 5240000000 = .on 990 ∧
      place 5420000000 4 5410000000 = .unplaced .stalled none 537 ∧
      place 5295000000 4 5300000000 = .unplaced .future none 0 ∧
      place 5290000000 4 3650000000 = .unplaced .tooOld none 0 ∧
      place 5290000000 4 3750000000 = .unplaced .outOfRange (some 975) 0 := by
  decide +kernel

/-- A template of 3.4.1: fill level within `lo` to `hi`, torque at least `torque`, check 5 masked, the rest OFF. -/
def template (lo hi torque : Nat) : Template :=
  Table.ofFn fun i =>
    if i = 0 then { byteNo := 0, op := .within, a := lo, b := hi, cls := .fill, severity := .major, policy := .fail }
    else if i = 1 then { byteNo := 1, op := .ge, a := torque, b := 0, cls := .closure, severity := .major, policy := .fail }
    else if i = 2 then { byteNo := 5, op := .le, a := 8, b := 0, cls := .label, severity := .minor, policy := .skip }
    else if i = 3 then { byteNo := 9, op := .le, a := 20, b := 0, cls := .cosmetic, severity := .minor, policy := .skip }
    else if i = 5 then { byteNo := 2, op := .eq, a := 255, b := 0, cls := .fill, severity := .major, policy := .fail }
    else Check.off

/-- A bank with the templates of 3.4.1. -/
def bank : Bank :=
  Table.ofFn fun i =>
    if i = 2 then template 120 130 40 else if i = 4 then template 115 135 40 else if i = 6 then template 110 140 35
    else Table.replicate 16 Check.off

/-- A record of 3.4.1: measurements m0, m1, m5 and m9, the others 255. -/
def verdictRec (ok : Bool) (m0 m1 m5 m9 : Byte) : VerdictRec :=
  { seq := 6, capture := 5130000000, imageOk := ok, measures := [m0, m1, 255, 255, 255, m5, 255, 255, 255, m9] ++ List.replicate 6 255 }

/-- 3.4.1, records A to D. -/
theorem test_grading :
    let grade := bank.gradeOf (hall.cameras.get 0)
    grade (verdictRec true 133 45 6 255) = ⟨.pass, .none, 0, some 4⟩ ∧
      grade (verdictRec true 137 38 12 30) = ⟨.minor, .label, 2, some 6⟩ ∧
      grade (verdictRec true 125 255 4 10) = ⟨.major, .closure, 1, some 2⟩ ∧
      grade (verdictRec false 128 44 3 5) = ⟨.major, .image, 0, none⟩ := by
  decide

/-- A VERDICT slot of sequence `seq` and capture time `capture` with a good image. -/
def verdictSlot (seq capture : Nat) : List Byte :=
  record 8 [⟨0, 4, seq⟩, ⟨4, 1, 1⟩, ⟨8, 8, capture⟩, ⟨16, 1, 125⟩, ⟨17, 1, 45⟩, ⟨21, 1, 4⟩, ⟨25, 1, 10⟩]

/-- R46, R47: the first record after sequence 5 with sequence 8 has missed two; it is placed and graded PASS. -/
theorem test_verdict_counts :
    let s := { placing 5290000000 with grading := { line.grading with
      current := bank, cameras := line.grading.cameras.set 0 { lastSeq := some 5, counts := CameraCounts.zero } } }
    let r := (after (.verdictRecord 3) (withRecord 3 5 (.verdict 0 (verdictSlot 8 5130000000)) s)).grading.cameras.get 0
    (r.lastSeq, r.counts.taken, r.counts.missed, r.counts.placed, r.counts.pass) = (some 8, 1, 2, 1, 1) := by
  decide

/-! ## Robots -/

/-- A robot's STATUS slot. -/
def statusSlot (seq state : Nat) : List Byte :=
  record 8 [⟨0, 4, seq⟩, ⟨4, 1, state⟩, ⟨8, 2, 0x1234⟩]

/-- R83: with two SAFE reports needed, the first leaves the accepted state and the second changes it; 9 reads as FAULT. -/
theorem test_robotStatus :
    let run (n state : Nat) := ((after (.robotStatusFrame 1) (withRecord 1 2 (.robotStatus 0 (statusSlot 6 state))
      (withRobot (fun r => { r with safeRun := n }) line))).robots.get 0).map fun r => (r.accepted, r.safeRun, r.gate)
    run 0 3 = some (.running, 1, .released) ∧ run 1 3 = some (.safe, 0, .held) ∧
      run 0 9 = some (.fault, 0, .held) ∧ run 0 1 = some (.idle, 0, .released) := by
  decide

/-- 5.6.1: the speeds of the reads at 20, 300 and 340, and the hold of mode HOLD at 360. -/
theorem test_slewSpeed :
    let speed (prev e written : Nat) :=
      ({ robot with lastSpeed := prev, lastForward := some 1000000000 }).slewSpeed 5 written (1000000000 + e)
    speed 0 20000000 900 = 100 ∧ speed 350 230000000 900 = 850 ∧ speed 900 20000000 400 = 800 := by
  decide

/-- 5.6.1, the read at 20, from the start of the frame: mode 2, enable 1 at offsets 4 and 5; volume 5,000 and speed 100 at 8 and
10; the stamp at 16; gate state 2 and no cause at 24 and 26. -/
theorem test_robotRead_released :
    let s := withRobot (fun r => { r with lastForward := some 199980000000 }) line
    ((after (.robotCommandRead 1 [0x0000_0002_0000_0001, 0x0384_1450, 0, 0xFFFF_FFFF]) (withRead 1 1 4 s)).path.responses.map
        fun r => (r.response, r.data)) =
      [(.okay, [0x0000_0102_0000_0001, 0x0064_1388, 0x2E_90ED_D000, 0x0000_FF02])] := by
  decide

/-- R94, R97: the sequence is stale 1 ns past the limit of 200 ms; the hold form returns mode 1, enable 0, speed 0 and vmin,
with gate state 0 and cause STALE (bit 5). -/
theorem test_robotRead_stale :
    let s (n : Nat) := withRobot (fun r => { r with seqTime := some n }) line
    let data (n : Nat) := (after (.robotCommandRead 1 [0x0000_0002_0000_0001, 0x0384_1450, 0, 0]) (withRead 1 1 4 (s n))).path.responses.map Reply.data
    data 199799999999 = [[0x0000_0001_0000_0001, 0x0000_12C0, 0x2E_90ED_D000, 0x0020_0000]] ∧
      (((after (.robotCommandRead 1 [0]) (withRead 1 1 1 (s 199800000000))).robots.get 0).map Robot.gate) = some .released := by
  decide

/-- R93: a changing sequence ends STALE, and a robot with no other cause and release-confirm clear is RELEASED (R89). -/
theorem test_sequenceWrite :
    ((after (.sequenceWrite 0) (withRecord 0 1 (.sequence 0 2)
      (withRobot (fun r => { r with gate := .held, causes := 0x20 }) line))).robots.get 0).map
        (fun r => (r.causes, r.gate, r.cmdSeq, r.seqTime)) = some (0, .released, some 2, some 200000000000) := by
  decide

/-- R84: 100 ms after the last frame the robot is LOST and HELD with release-confirm; 1 ns earlier nothing happens. -/
theorem test_robotTimeout :
    let run (n : Nat) := ((after (.robotStatusTimeout 0) (withRobot (fun r => { r with statusStart := some n }) line)).robots.get 0).map
      fun r => (r.accepted, r.gate, r.confirm)
    run 99900000000 = some (.lost, .held, true) ∧ run 99900000001 = some (.running, .released, false) := by
  decide

/-! ## Gates -/

/-- A slot of bottle `b` with this decision at gate 0. -/
def slot (b : Bottle) (d : Option Decision) : Slot :=
  { bottle := b, entry := 0, filler := some 0, filled := true, generation := false, verdicts := Table.replicate 6 none,
    disturbed := none, purged := false, decisions := Table.ofFn fun g => if g = 0 then d else none, ejected := none }

/-- A formed decision. -/
def decision (reasons : List Reason) : Decision :=
  { reasons := reasons, undeliverable := false, delivered := false, confirmed := none, late := 0 }

/-- The line with two bottles decided at gate 0: 7 rejected as UNFILLED, 8 passed. -/
def decided : State :=
  withTime (fun t => { t with newest := some 8, nextIndex := 9 })
    { line with queue := [slot 7 (some (decision [.unfilled])), slot 8 (some (decision []))] }

/-- R71: the eject list names both, oldest first: available 1, count 2, the stamp, then bottle and flag. -/
theorem test_gateRead :
    (after (.gateCommandRead 2 []) (withRead 2 3 5 decided)).path.responses.map Reply.data =
      [[0x0000_0201_0000_0000, 0x2E_90ED_D000, 0x0000_0001_0000_0007, 0x0000_0000_0000_0008, 0]] ∧
    (after (.gateCommandRead 2 []) (withRead 2 3 5 decided)).queue.map (fun q => (q.decisions.get 0).map Decision.delivered) =
      [some true, some true] := by
  decide

/-- A gate's STATUS slot that reports bottle `b` ejected. -/
def gateSlot (seq b : Nat) : List Byte :=
  record 8 [⟨0, 4, seq⟩, ⟨4, 1, 2⟩, ⟨5, 1, 3⟩, ⟨12, 4, b⟩]

/-- R72, R73: an ejected report of the rejected bottle 7 confirms it; of the passed bottle 8 it latches GATE_MISMATCH (bit 5); of
bottle 6 it is unmatched. -/
theorem test_gateStatus :
    let run (b : Nat) := after (.gateStatusFrame 2) (withRecord 2 4 (.gateStatus 0 (gateSlot 6 b)) decided)
    (run 7).queue.map (fun q => ((q.decisions.get 0).bind Decision.confirmed, q.ejected)) =
        [(some true, some 0), (none, none)] ∧ (run 7).lineHold = 0 ∧
      (run 8).lineHold = 0x20 ∧ ((run 6).gates.get 0).map GateRec.unmatched = some 1 := by
  decide

/-- 4.2.1: a slot FILLED but disturbed, with no record of its camera, is rejected as {DISTURBED, NO_VERDICT}. -/
theorem test_reasons :
    ({ slot 7 none with disturbed := some 5 }).reasons hall 0 = [.disturbed, .noVerdict] := by
  decide

/-- R66: 100 ms after the last frame the gate is LOST, and GATE_LOST (bit 1) stands in the line-hold set. -/
theorem test_gateTimeout :
    let s := { line with gates := line.gates.set 0 (some { gate with statusStart := some 99900000000 }) }
    (after (.gateStatusTimeout 0) s).lineHold = 2 := by
  decide

/-! ## Zones -/

/-- A mailbox command word: code, sequence, argument (11.3). -/
def word (code seq arg : Nat) : Word :=
  BitVec.ofNat 64 (code + 256 * seq + 65536 * arg)

/-- A command of zone slot 0 with sequence 10 in a state. -/
def zoneCommand (code : Nat) (s : State) : State :=
  withRecord 0 8 (.zoneWord 0 (word code 10 0)) s

/-- Zone 0 of a state, its guard OPEN or CLOSED. -/
def withGuard (opened : Bool) (s : State) : State :=
  { s with guards := s.guards.set 0 { raw := opened, since := 0, level := opened } }

/-- Zone 0's record after a command. -/
def zoneAfter (c : Instr) (s : State) : Zone :=
  (after c s).zones.get 0

/-- Zone 0 in REQUESTED since local time `b`, the ENTER of sequence 9 in flight. -/
def requested (b : Nat) : State :=
  withZone (fun k => { k with state := .requested, access := some b, inFlight := some 9 })
    (withRobot (fun r => { r with gate := .held, causes := 1, confirm := true }) line)

/-- R115: ENTER of a RUN zone with a running robot is requested; the robot is HELD by ZONE with release-confirm. -/
theorem test_enter :
    let t := after (.enter 0) (zoneCommand 1 line)
    ((t.zones.get 0).state, (t.zones.get 0).access, (t.zones.get 0).inFlight) =
        (.requested, some 100000000000, some 10) ∧
      (t.robots.get 0).map (fun r => (r.gate, r.causes, r.confirm)) = some (.held, 1, true) := by
  decide

/-- R116: the last robot to report SAFE opens the zone, unlocked, with NORMAL pending for the ENTER. -/
theorem test_enter_granted :
    let k := zoneAfter (.robotStatusFrame 1) (withRecord 1 2 (.robotStatus 0 (statusSlot 6 3))
      (withRobot (fun r => { r with safeRun := 1 }) (requested 99000000000)))
    (k.state, k.unlocked, k.inFlight, k.pending) = (.opened, true, none, some ⟨.normal, .command 9, false⟩) := by
  decide

/-- R113: ENTER in START completes INVALID and leaves the state. -/
theorem test_enter_invalid :
    let k := zoneAfter (.enter 0) (zoneCommand 1 (withZone (fun k => { k with state := .start }) line))
    (k.state, k.reply.code) = (.start, some .invalid) := by
  decide

/-- R117: CONFIRM in BREAK opens the zone. -/
theorem test_confirm :
    let k := zoneAfter (.confirm 0) (zoneCommand 2 (withZone (fun k => { k with state := .breakpoint, access := some 1 }) line))
    (k.state, k.unlocked, k.access, k.reply.code) = (.opened, true, none, some .normal) := by
  decide

/-- R118: EXTEND once; a second is INVALID. -/
theorem test_extend :
    let k (x : Bool) := zoneAfter (.extend 0) (zoneCommand 3 (withZone (fun k => { k with extended := x }) (requested 99000000000)))
    ((k false).extended, (k false).reply.code) = (true, some .normal) ∧ (k true).reply.code = some .invalid := by
  decide

/-- R119: CANCEL in OPEN with the guard OPEN completes ABNORMAL-GUARD; with it CLOSED the zone clears. -/
theorem test_cancel :
    let k (opened : Bool) := zoneAfter (.cancel 0) (withGuard opened
      (zoneCommand 4 (withZone (fun k => { k with state := .opened, unlocked := true }) line)))
    ((k true).state, (k true).reply.code) = (.opened, some .abnormalGuard) ∧
      ((k false).state, (k false).unlocked, (k false).reply.code) = (.clearing, false, some .normal) := by
  decide

/-- R114: RESET in START needs the guard CLOSED. -/
theorem test_reset :
    let k (opened : Bool) := zoneAfter (.reset 0) (withGuard opened
      (zoneCommand 5 (withZone (fun k => { k with state := .start, hasRun := false }) line)))
    ((k true).state, (k true).reply.code) = (.start, some .abnormalGuard) ∧
      ((k false).state, (k false).hasRun) = (.run, true) := by
  decide

/-- R114: RESUME takes HELD to RUN, and is INVALID in CLEARING. -/
theorem test_resume :
    let k (x : ZoneState) := zoneAfter (.resume 0) (zoneCommand 6 (withZone (fun k => { k with state := x }) line))
    (k .held).state = .run ∧ ((k .clearing).state, (k .clearing).reply.code) = (.clearing, some .invalid) := by
  decide

/-- R112: SENSE collects what is pending. -/
theorem test_sense :
    let k := zoneAfter (.sense 0) (zoneCommand 7
      (withZone (fun k => { k with pending := some ⟨.abnormalTimeout, .command 9, true⟩ }) line))
    (k.pending, k.reply) = (none, ⟨some 10, some .abnormalTimeout, .command 9, true⟩) := by
  decide

/-- R109: a repeated sequence is ignored; a code of no command completes INVALID. -/
theorem test_otherCommandCode :
    let k (n : Byte) := zoneAfter (.otherCommandCode 0) (zoneCommand 9 (withZone (fun k => { k with lastSeq := some n }) line))
    (k 10).reply.code = none ∧ (k 9).reply.code = some .invalid := by
  decide

/-- R106, R121: 10 ms of OPEN in RUN force the zone, autonomously, and mark the bottles of its span, 1 to 3 pitches. -/
theorem test_guardOpen :
    let s := { withTime (fun t => { t with newest := some 8 })
        { line with queue := [slot 4 none, slot 5 none, slot 7 none, slot 8 none] } with
      guards := line.guards.set 0 { raw := true, since := 99990000000, level := false } }
    let k := zoneAfter (.guardOpen 0) s
    (k.state, k.forcedCause, k.forcedCount, k.afterForced, k.pending) =
        (.forced, some .run, 1, true, some ⟨.abnormalGuard, .autonomous, false⟩) ∧
      (after (.guardOpen 0) s).queue.map Slot.disturbed = [none, some 0, some 0, none] := by
  decide

/-- R122: a guard that closes over FORCED takes it to CLEARING with NORMAL-CLEAR merged into what is pending. -/
theorem test_guardClosed :
    let s := { withZone (fun k => { k with state := .forced, pending := some ⟨.abnormalGuard, .autonomous, false⟩ }) line with
      guards := line.guards.set 0 { raw := false, since := 99990000000, level := true } }
    let k := zoneAfter (.guardClosed 0) s
    (k.state, k.clearing, k.pending) = (.clearing, some 100000000000, some ⟨.abnormalGuard, .autonomous, true⟩) := by
  decide

/-- R106: a change of the raw level restarts its 10 ms; the same level again does not. -/
theorem test_guardRawChange :
    ((after (.guardRawChange 3 true) line).guards.get 3).since = 100000000000 ∧
      ((after (.guardRawChange 3 false) line).guards.get 3).since = 0 := by
  decide

/-- R118: the access timer runs out after 15 s, after 20 s once extended. -/
theorem test_accessTimer :
    let k (x : Bool) (b : Nat) := (zoneAfter (.accessTimerExpiry 0)
      (withZone (fun k => { k with extended := x }) (requested b))).state
    k false 85000000000 = .held ∧ k false 85000000001 = .requested ∧ k true 85000000000 = .requested ∧
      k true 80000000000 = .held := by
  decide

/-- R120: CLEARING lasts 10 s. -/
theorem test_clearingWindow :
    let k (b : Nat) := (zoneAfter (.clearingWindowExpiry 0)
      (withZone (fun k => { k with state := .clearing, clearing := some b }) line)).state
    k 90000000000 = .held ∧ k 90000000001 = .clearing := by
  decide

/-! ## Ports and the memory path -/

/-- A write of `n` words by source `tag` at address `a`, every byte enabled. -/
def write (tag : Fin 32) (a : BitVec 32) (n : Nat) : Txn :=
  { tag := tag, addr := a, access := .write (List.replicate n ⟨0, 0xFF⟩) }

/-- A read of `n` words by source `tag` at address `a`. -/
def read (tag : Fin 32) (a : BitVec 32) (n : Nat) : Txn :=
  { tag := tag, addr := a, access := .read n }

/-- Port 1's record after a command. -/
def portAfter (c : Instr) (s : State) : Port :=
  (after c s).ports.get 0

/-- 7.6.1 at 8.5 ms: 16 words after 392 exceed 400: LISTEN for BUDGET, denied, an overrun; 8 words do not. -/
theorem test_port_budget :
    let r (n : Nat) := portAfter (.upstreamTransaction (write 1 0x100000 n) false)
      (withPort (fun r => { r with intervalWords := 392 }) line)
    ((r 16).state, (r 16).reason, (r 16).denied, (r 16).overruns, (r 16).intervalWords) = (.listen, .budget, 1, 1, 392) ∧
      ((r 8).state, (r 8).intervalWords, (r 8).denied) = (.active, 400, 0) := by
  decide

/-- 7.6.1 at 20,000 ms: the third entry within 60 s locks the port; one 60,001 ms after the oldest does not. -/
theorem test_port_lockout :
    let r (n : Nat) := (portAfter (.upstreamTransaction (write 1 0x100000 16) false)
      (withPort (fun r => { r with intervalWords := 392, history := [n, 99000000000] }) line)).state
    r 40000000000 = .locked ∧ r 39999000000 = .listen := by
  decide

/-- 7.6.1 at 161 ms: a port's read of its STATUS window is a violation. -/
theorem test_port_violation :
    let r := portAfter (.upstreamTransaction (read 1 0x200080 1) false) line
    (r.state, r.violations, r.intervalViolations, r.denied) = (.active, 1, 1, 1) := by
  decide

/-- R132: a write in LISTEN is denied and restarts the silence timer. -/
theorem test_port_listen :
    let r := portAfter (.upstreamTransaction (write 1 0x100000 1) false)
      (withPort (fun r => { r with state := .listen, silence := some 0 }) line)
    (r.silence, r.denied, r.violations) = (some 100000000000, 1, 0) := by
  decide

/-- R136: 100 ms without a write attempt return the port to ACTIVE. -/
theorem test_silence :
    let r (n : Nat) := (portAfter (.silenceExpiry 0) (withPort (fun r => { r with state := .listen, silence := some n }) line)).state
    r 99900000000 = .active ∧ r 99900000001 = .listen := by
  decide

/-- The switch table with port 1's link byte at `n`, speed 3 and 17 errors. -/
def tableSlot (n : Nat) : List Byte :=
  record 16 [⟨0, 1, n⟩, ⟨1, 1, 3⟩, ⟨4, 4, 17⟩]

/-- R129: the second table in a row that shows the link UP brings the port from DOWN to ACTIVE; a link byte of 2 is not UP. -/
theorem test_switchTable :
    let r (run n : Nat) := portAfter .switchTable (withRecord 17 7 (.switchTable (tableSlot n))
      (withPort (fun _ => { Port.fresh with upRun := run }) line))
    ((r 1 1).state, (r 1 1).reason, (r 1 1).speed, (r 1 1).rxErrors) = (.active, .link, 3, 17) ∧
      ((r 0 1).state, (r 0 1).upRun) = (.down, 1) ∧ ((r 1 2).state, (r 1 2).upRun) = (.down, 0) := by
  decide

/-- R130: 1 s without a table takes the ports' links DOWN. -/
theorem test_tableTimer :
    let t := after .tableTimerExpiry { line with table := { line.table with timer := some 99000000000 } }
    ((t.ports.get 0).state, (t.ports.get 0).reason, t.table.stale, (t.robots.get 0).map Robot.lastSeq) =
      (.down, .tableStale, true, some none) := by
  decide

/-- R133: an interval ends 10 ms after it began. -/
theorem test_intervalBoundary :
    let t := after .intervalBoundary (withPort (fun r => { r with intervalWords := 7, denied := 3 }) line)
    ((t.ports.get 0).intervalWords, (t.ports.get 0).denied, t.table.intervalStart) = (0, 3, 100000000000) := by
  decide

/-- R143, R145: a misaligned read is DENIED with zeros; a read of the image region by a port is a violation; tag 18 has no
right. -/
theorem test_upstream_denied :
    let run (t : Txn) := (after (.upstreamTransaction t false) line).path.responses
    run (read 0 0x100001 2) = [⟨0, .denied, [0, 0]⟩] ∧ run (read 1 0 1) = [⟨1, .denied, [0]⟩] ∧
      run (write 18 0x100000 1) = [⟨18, .denied, []⟩] ∧ (after (.upstreamTransaction (write 18 0x100000 1) false) line).path.otherDenied = 1 := by
  decide

/-- R144: a refused transaction waits behind an earlier one of its tag, and is answered with it. -/
theorem test_upstream_order :
    let s := after (.upstreamTransaction (read 0 0x200400 17) false) (withRead 0 8 1 line)
    s.path.responses = [] ∧ (after (.forwardedResponse 0 false [7]) s).path.responses = [⟨0, .fault, [7]⟩, ⟨0, .denied, List.replicate 17 0⟩] := by
  decide

/-- R165, 11.3: the reply word of zone 0, at 24 of the mailbox: state IDLE, no answer yet, has-run in bit 4 of byte 4, zone state
RUN, forced cause none; memory's other bytes stand. -/
theorem test_mailboxRead :
    (after (.mailboxRead [1, 2, 3, 0xAB00_0000_0000_0000]) (withRead 0 8 4 line)).path.responses.map Reply.data =
      [[1, 2, 3, 0xABFF_0110_0000_0000]] := by
  decide

/-- R151, 11.5: the first two words of the view: hall time; no newest bottle, flags 0, clock NONE. -/
theorem test_viewRead :
    let s := { line with path := { line.path with flights := [{ txn := read 0 0x201000 2, treatment := .view, stage := .held }] } }
    (after (.viewRead false) s).path.responses = [⟨0, .okay, [0x2E_90ED_D000, 0]⟩] := by
  decide

/-- An own transaction of this requester. -/
def own (r : Requester) : OwnTxn :=
  { requester := r, addr := 0, data := [], oldRing := false }

/-- R152: a forwarded transaction goes before the own head until that has let eight pass. -/
theorem test_arbiter :
    let s (n : Nat) := { line with path := { line.path with
      flights := [{ txn := read 0 0x100000 1, treatment := .plain, stage := .waiting }], ownQueue := [own .notice], ownWait := n } }
    ((after .arbiterGrant (s 7)).path.ownAtMemory, (after .arbiterGrant (s 7)).path.ownWait) = ([], 8) ∧
      ((after .arbiterGrant (s 8)).path.ownAtMemory, (after .arbiterGrant (s 8)).path.ownWait) = ([own .notice], 0) := by
  decide

/-! ## Reports and loads -/

/-- A command of the general slot with sequence 10 in a state. -/
def generalCommand (code arg : Nat) (s : State) : State :=
  withRecord 0 8 (.generalWord (word code 10 arg)) s

/-- R91: RELEASE of an ARMING robot, and of one that is HELD. -/
theorem test_release :
    let s (g : GateState) (k : Byte) := generalCommand 16 0 (withRobot (fun r => { r with gate := g, causes := k, confirm := true }) line)
    ((after .release (s .arming 0)).robots.get 0).map (fun r => (r.gate, r.confirm)) = some (.released, false) ∧
      (after .release (s .held 1)).report.reply = some (10, .invalid) := by
  decide

/-- R87: CLEAR_SUSPECT ends SUSPECT and empties the ring; of unit 1, no robot, it is INVALID. -/
theorem test_clearSuspect :
    let s := withRobot (fun r => { r with gate := .held, causes := 0x40, suspect := true, ring := [true] }) line
    ((after .clearSuspect (generalCommand 17 0 s)).robots.get 0).map (fun r => (r.suspect, r.ring, r.causes, r.gate)) =
        some (false, [], 0, .released) ∧
      (after .clearSuspect (generalCommand 17 1 s)).report.reply = some (10, .invalid) := by
  decide

/-- R17: ACCOUNT_CLEAR of unit 23 and of unit 24. -/
theorem test_accountClear :
    let s := withTime (fun t => { t with accounts := Table.replicate 24 { seconds := 5, remainder := 6, due := true } }) line
    (after .accountClear (generalCommand 18 23 s)).time.accounts.get 23 = { seconds := 0, remainder := 0, due := false } ∧
      (after .accountClear (generalCommand 18 24 s)).report.reply = some (10, .invalid) := by
  decide

/-- 7.6.1 at 30,000 ms: PORT_CLEAR of a LOCKED port with its link DOWN leaves it DOWN, its counts cleared but the overruns. -/
theorem test_portClear :
    let r := portAfter .portClear (generalCommand 19 1 (withPort (fun r =>
      { r with state := .locked, linkUp := false, denied := 8, violations := 3, overruns := 2, history := [1, 2, 3] }) line))
    (r.state, r.reason, r.denied, r.violations, r.overruns, r.history) = (.down, .clear, 0, 0, 2, []) := by
  decide

/-- R61: SNAPSHOT of camera 0 with the clear flag copies the counts and clears them; of camera 1, absent, it is INVALID. -/
theorem test_snapshot :
    let s := { line with grading := { line.grading with
      cameras := line.grading.cameras.set 0 { lastSeq := some 5, counts := { CameraCounts.zero with taken := 9 } } } }
    let t := after .snapshot (generalCommand 20 0x100 s)
    (t.report.slot, t.report.snapshotSeq, t.report.snapshot.map (fun k => k.copy.counts.taken),
        (t.grading.cameras.get 0).counts.taken) = (.inProgress, 1, some 9, 0) ∧
      (after .snapshot (generalCommand 20 1 s)).report.reply = some (10, .invalid) := by
  decide

/-- R42: PURGE marks every slot. -/
theorem test_purge : (after .purge (generalCommand 21 0 decided)).queue.map Slot.purged = [true, true] := by
  decide

/-- R76: LINE_RESUME clears GATE_MISSED (bit 4) of an available gate, and leaves that of an unavailable one. -/
theorem test_lineResume :
    let s := { line with lineHold := 0x10 }
    let t := after .lineResume (generalCommand 22 0 s)
    (t.lineHold, t.report.reply) = (0, some (10, .normal)) ∧
      (after .lineResume (generalCommand 22 0 { s with gates := s.gates.set 0 (some { gate with accepted := .fault }) })).report.reply =
        some (10, .abnormalRemaining) := by
  decide

/-- The copy of a snapshot in flight. -/
def snapshotCopy : SnapshotCopy :=
  { camera := 0, unit := 2, clear := false, time := 1, lastSeq := none, counts := CameraCounts.zero, generation := false,
    changeover := none, sequence := 3 }

/-- A state with a snapshot in flight, of which `n` writes are not answered. -/
def snapping (n : Nat) : State :=
  withOwn (own .snapshot) { line with report := { line.report with
    slot := .inProgress
    snapshot := some { copy := snapshotCopy, addr := 0x203000, unanswered := n, faulted := false, command := 4 } } }

/-- R62: after the first answer the second line is presented at 128 bytes on; after the second the command completes NORMAL. -/
theorem test_snapshotWrite :
    (after (.snapshotWriteAnswered true) (snapping 2)).path.ownQueue.map (fun o => (o.requester, o.addr)) =
        [(.snapshot, 0x203080)] ∧
      (after (.snapshotWriteAnswered true) (snapping 1)).report.reply = some (4, .normal) := by
  decide

/-- R168: the consumer moves up to the producer, and not past it. -/
theorem test_consumer :
    let s (v : Word) := withRecord 0 8 (.consumer v) { line with report := { line.report with producer := 2, consumer := 0xFFFFFFFF } }
    (after .consumerWrite (s 2)).report.consumer = 2 ∧ (after .consumerWrite (s 0)).report.consumer = 0 ∧
      ((after .consumerWrite (s 3)).report.consumer, (after .consumerWrite (s 3)).report.consumerErrors) = (0xFFFFFFFF, 1) := by
  decide

/-- A notice. -/
def notice : Notice :=
  { kind := .lineHold, subject := 1, code := 4, stamp := 5, bottle := some 6, detail := 0 }

/-- R167: an answered notice leaves the queue and moves the producer; one answered FAULT is counted as dropped. -/
theorem test_noticeWrite :
    let s := withOwn (own .notice) { line with report := { line.report with notices := [notice] } }
    let r (ok : Bool) := (after (.noticeWriteAnswered ok) s).report
    ((r true).notices, (r true).producer, (r true).dropped) = ([], 1, 0) ∧ ((r false).producer, (r false).dropped) = (0, 1) := by
  decide

/-- 11.4: the notice entry in memory: kind 14, subject, bottle-present flag, code; hall time; bottle; detail. -/
theorem test_noticeEntry :
    recordWords notice.fields 0 4 = [0x0000_0004_0101_000E, 5, 6, 0] := by
  decide

/-- R156: a FULL load of a line with a RELEASED robot is refused LINE_ACTIVE; a CHANGEOVER reads line 0 of the image. -/
theorem test_loads :
    (after .fullLoad (withControl 1 line)).loader.outcome.code = .lineActive ∧
      (after .changeoverLoad (withControl 3 line)).path.ownQueue.map (fun o => (o.requester, o.addr)) = [(.config, 0)] ∧
      (after .otherLoadKind (withControl 4 line)).loader.outcome.code = .range := by
  decide

/-- A load of kind `k` with `lines` staged and a line read outstanding. -/
def loading (k : LoadKind) (lines : List (List Word)) : State :=
  withOwn (own .config) { line with loader := { line.loader with kind := some k, staged := lines } }

/-- R157: a FAULT at line 7 of a FULL load, in the units section, ends it READ_ERROR, section 2. -/
theorem test_readError :
    (after (.configReadAnswered false []) (loading .full (List.replicate 7 (List.replicate 16 0)))).loader.outcome =
      { code := .readError, kind := 1, part := 2, entry := 0 } := by
  decide

/-- R153: RESET_N samples CFG_BASE. -/
theorem test_resetN : ((after (.resetN 5) line).cfgBase, (after (.resetN 5) line).config) = (5, none) := by
  decide

/-! ## Witnesses: the machine and its invariants -/

/-- A command in front, and an empty queue. -/
theorem witness_StepRunsFrontCommand :
    { line with pending := [Instr.pitchEdge] }.pending = .pitchEdge :: [] ∧ line.pending = [] :=
  ⟨rfl, rfl⟩

/-- The line with a command waiting. -/
def waiting : State :=
  { line with pending := [.referencePeriod] }

/-- The line with marks 7 and 8, the second exactly the minimum pitch ago. -/
def marked : State :=
  withTime (fun t => { t with
    newest := some 8, nextIndex := 9, running := true, pitchLog := [⟨7, 199000000000⟩, ⟨8, 199950000000⟩] })
    { line with queue := [slot 7 none, slot 8 none] }

/-- An unconfigured part, in use, with a command waiting. -/
def dark : State :=
  { State.reset with pending := [.referencePeriod], cfgBase := 5, observeAll := true, time := { State.reset.time with localTime := 8 } }

theorem line_robots (u : Fin 24) : line.robots.get u = if u = 0 then some robot else none :=
  Table.get_ofFn _ u

theorem line_gates (g : Fin 2) : line.gates.get g = if g = 0 then some gate else none :=
  Table.get_ofFn _ g

theorem witness_StepKeepsTimeSound :
    waiting.time.Sound ∧ { marked with pending := [.referencePeriod] }.PitchLogSound ∧ ∃ t, step waiting = .next t :=
  ⟨⟨by decide, by decide, by decide, by decide, by decide, by decide, by decide, by decide⟩,
    ⟨⟨by decide, by decide, trivial⟩,
      fun m h => by obtain rfl : Mark.mk 8 199950000000 = m := Option.some.inj h; decide,
      fun c h => by obtain rfl : hall = c := Option.some.inj h; decide⟩, _, rfl⟩

/-- Two bottles in a hall whose retention depth is 22. -/
theorem witness_StepKeepsQueueBounded :
    (withTime (fun t => { t with newest := some 8, nextIndex := 9 }) { waiting with queue := [slot 7 none, slot 8 none] }).QueueBounded := by
  refine ⟨?_, ?_⟩ <;> intro c h <;> cases Option.some.inj h <;> decide

theorem witness_StepKeepsQueueSound :
    (withTime (fun t => { t with newest := some 8, nextIndex := 9 }) { waiting with queue := [slot 7 none, slot 8 none] }).QueueSound ∧
      ∃ t, step (withTime (fun t => { t with newest := some 8, nextIndex := 9 })
        { waiting with queue := [slot 7 none, slot 8 none] }) = .next t :=
  ⟨⟨⟨by decide, trivial⟩, by decide, by decide⟩, _, rfl⟩

theorem witness_StepKeepsRobotsSound : waiting.RobotsSound ∧ ∃ t, step waiting = .next t := by
  refine ⟨?_, _, rfl⟩
  intro u r h
  have h : (if u = 0 then some robot else none) = some r := (line_robots u).symm.trans h
  split at h
  · cases h
    exact ⟨by decide, by decide, by decide, by decide⟩
  · cases h

/-- A HELD robot whose one cause is PORT. -/
theorem witness_StepKeepsHeldForCause :
    let held := withRobot (fun r => { r with gate := .held, causes := causeBit .port }) waiting
    (held.robots.get 0).map Robot.gate = some .held ∧ held.HeldForCause ∧ ∃ t, step held = .next t := by
  refine ⟨by decide, ?_, _, rfl⟩
  intro _ u
  revert u
  decide

theorem witness_StepKeepsZonesSound :
    { withZone (fun k => { k with state := .requested, access := some 1, inFlight := some 9 }) line with
      pending := [.referencePeriod] }.ZonesSound ∧
      ∃ t, step { withZone (fun k => { k with state := .requested, access := some 1, inFlight := some 9 }) line with
        pending := [.referencePeriod] } = .next t := by
  refine ⟨?_, _, rfl⟩
  intro z
  refine ⟨?_, ?_, ?_, ?_, ?_⟩ <;> (revert z; decide)

theorem witness_StepKeepsPortsSound :
    { withPort (fun r => { r with state := .listen, silence := some 1 }) line with pending := [.referencePeriod] }.PortsSound ∧
      ∃ t, step { withPort (fun r => { r with state := .listen, silence := some 1 }) line with
        pending := [.referencePeriod] } = .next t := by
  refine ⟨?_, _, rfl⟩
  intro p
  refine ⟨?_, ?_, ?_, ?_, ?_, ?_, ?_, ?_, ?_⟩ <;> (revert p; decide)

/-- A path with no transaction presented is ordered. -/
theorem line_ordered : line.path.Ordered := by
  intro tag f h
  exact absurd h (by rw [show line.path.oldest tag = none from rfl]; exact nofun)

theorem witness_StepKeepsOwnSound :
    { snapping 2 with pending := [.referencePeriod] }.OwnSound ∧
      ∃ t, step { snapping 2 with pending := [.referencePeriod] } = .next t :=
  ⟨⟨by decide, by decide, by decide, by decide, by decide, by decide, line_ordered⟩, _, rfl⟩

/-- With a full queue, and with nothing that could be presented. -/
theorem witness_StepKeepsNoticesSound :
    { waiting with report := { waiting.report with notices := List.replicate 16 notice } }.NoticesSound ∧
      waiting.noticeToPresent = none ∧
      ∃ t, step { waiting with report := { waiting.report with notices := List.replicate 16 notice } } = .next t :=
  ⟨⟨by decide, rfl, by decide, by decide⟩, rfl, _, rfl⟩

theorem witness_StepKeepsUnconfiguredSound : dark.UnconfiguredSound ∧ dark.config = none ∧ ∃ t, step dark = .next t :=
  ⟨⟨fun _ u => by simp [dark, State.reset], fun _ g => by simp [dark, State.reset], fun _ => rfl, fun _ => rfl, fun _ => ⟨rfl, rfl, rfl⟩,
    fun _ => by decide, fun _ => by decide⟩, rfl, _, rfl⟩

theorem witness_StepKeepsCausesFollow : waiting.CausesFollow ∧ ∃ t, step waiting = .next t := by
  refine ⟨⟨?_, ?_⟩, _, rfl⟩
  · intro c g u r hc hg hr k hk
    obtain rfl : hall = c := Option.some.inj hc
    have hr : (if g = 0 then some gate else none) = some r := (line_gates g).symm.trans hr
    split at hr
    · next h0 =>
      subst h0
      cases hr
      obtain rfl : (1 : Fin 24) = u := Option.some.inj ((by decide : hall.gateUnit 0 = some 1).symm.trans hg)
      rcases hk with rfl | rfl | rfl | rfl <;> decide
    · cases hr
  · intro c u r hc hr
    obtain rfl : hall = c := Option.some.inj hc
    have h : (if u = 0 then some robot else none) = some r := (line_robots u).symm.trans hr
    split at h
    · next h0 => subst h0; cases h; decide
    · cases h

theorem witness_StepKeepsCountsSound :
    { snapping 2 with pending := [.referencePeriod] }.CountsSound ∧
      ∃ t, step { snapping 2 with pending := [.referencePeriod] } = .next t := by
  have h : CameraCounts.zero.Sound := fun _ => ⟨rfl, rfl, rfl, by decide, by decide⟩
  refine ⟨⟨fun n => ?_, fun k hk => ?_⟩, _, rfl⟩
  · have : (({ snapping 2 with pending := [.referencePeriod] } : State).grading.cameras.get n) = CameraRec.fresh :=
      Table.get_replicate _ n
    rw [this]; exact h
  · obtain rfl : Snapshot.mk snapshotCopy 0x203000 2 false 4 = k := Option.some.inj hk
    exact h

/-! ## Witnesses: time, pitch, verdicts -/

theorem witness_ReferencePeriodAdvances :
    let s := withTime (fun t => { t with fraction := 999999999, trim := -200000 }) line
    s.time.fraction < 1000000000 ∧ -200000 ≤ s.time.trim ∧ s.time.trim ≤ 200000 ∧ s.time.hall + 9 < 2 ^ 64 ∧
      s.productive 0 = true ∧ (s.time.accounts.get 0).seconds < 2 ^ 32 - 1 ∧ s.productive 1 = false := by
  decide

theorem witness_SlewMovesOneNanosecond :
    (let s := withTime (fun t => { t with correction := 1, slewProgress := 20000 }) line
     s.time.correction ≠ 0 ∧ 20000 ≤ s.time.slewProgress ∧ 1 ≤ s.time.hall ∧ s.time.hall + 1 < 2 ^ 64) ∧
    (let s := withTime (fun t => { t with correction := -1, slewProgress := 20000, hall := 1 }) line
     s.time.correction ≠ 0 ∧ 20000 ≤ s.time.slewProgress ∧ 1 ≤ s.time.hall ∧ s.time.hall + 1 < 2 ^ 64) := by
  decide

/-- A time frame handed over in a clock state, the line running or not; hall time is 200 s and the path delay, so that a master
time of 200 s gives offset 0. -/
def framed (clock : ClockState) (running : Bool) (seq : Nat) (secs nanos : Nat) : State :=
  withRecord 4 6 (.timeFrame 3 (timeSlot seq secs nanos))
    (withTime (fun t => { t with
      clock := clock, running := running, hall := 200000002000, lastSeq := some 5, previousArrival := 200000002000 - 1000000 }) line)

/-- What the hypotheses of TimeFrameTaken ask of a handed frame. -/
def frameTaken (s : State) (seq : Nat) (secs nanos : Nat) : Prop :=
  taken s 4 selTimeFrame = some (3, ⟨BitVec.ofNat 32 seq, true, secs, nanos⟩) ∧ s.config = some hall ∧
    seqPasses s.time.lastSeq (BitVec.ofNat 32 seq) = true ∧ nanos ≤ 999999999 ∧
    secs * 1000000000 + nanos + hall.timers.pathDelay < 2 ^ 64

/-- Offsets at the boundaries: +1,000,000 and +999,999 in LOCKED, −1,000,000 with the line STOPPED and RUNNING, −1 at the first
frame with the line STOPPED and RUNNING; the interval since the previous arrival is 1,000,000 ns. -/
theorem witness_TimeFrameTaken :
    frameTaken (framed .locked true 6 200 1000000) 6 200 1000000 ∧
      frameTaken (framed .locked true 6 200 999999) 6 200 999999 ∧
      frameTaken (framed .locked false 6 199 999000000) 6 199 999000000 ∧
      frameTaken (framed .holdover true 6 199 999000000) 6 199 999000000 ∧
      frameTaken (framed .none false 6 199 999999999) 6 199 999999999 ∧
      frameTaken (framed .none true 6 199 999999999) 6 199 999999999 := by
  refine ⟨?_, ?_, ?_, ?_, ?_, ?_⟩ <;> exact ⟨by decide, rfl, by decide, by decide, by decide⟩

/-- A frame fails each test: not valid; sequence 5 again; 10^9 ns; a master time past 2^64. -/
theorem witness_TimeFrameRejected :
    let bad (f : List Byte) := withRecord 4 6 (.timeFrame 3 f) (withTime (fun t => { t with lastSeq := some 5 }) line)
    (bad []).config = some hall ∧
      taken (bad (record 8 [⟨0, 4, 6⟩])) 4 selTimeFrame = some (3, ⟨6, false, 0, 0⟩) ∧
      taken (bad (timeSlot 5 1 0)) 4 selTimeFrame = some (3, ⟨5, true, 1, 0⟩) ∧ seqPasses (some 5) 5 = false ∧
      taken (bad (timeSlot 6 1 1000000000)) 4 selTimeFrame = some (3, ⟨6, true, 1, 1000000000⟩) ∧
      taken (bad (timeSlot 6 18446744073 709549616)) 4 selTimeFrame = some (3, ⟨6, true, 18446744073, 709549616⟩) ∧
      2 ^ 64 ≤ 18446744073 * 1000000000 + 709549616 + hall.timers.pathDelay :=
  ⟨rfl, by decide, by decide, by decide, by decide, by decide, by decide⟩

theorem witness_ClockAndStopTimersExpire :
    let s := withTime (fun t => { t with
      clock := .locked, holdoverStart := some 92000000000, running := true, stopStart := some 98000000000 }) line
    s.config = some hall ∧ s.given = [] ∧ s.time.clock = .locked ∧ s.time.holdoverStart = some 92000000000 ∧
      92000000000 + 8000000000 ≤ s.time.localTime ∧ s.time.running = true ∧ s.time.stopStart = some 98000000000 ∧
      98000000000 + hall.timers.stopTime * 1000000 ≤ s.time.localTime :=
  ⟨rfl, rfl, rfl, rfl, by decide, rfl, rfl, by decide⟩

/-- Seconds one short of the threshold of 3,600 s, and at the largest value that still counts up. -/
theorem witness_AccountGainsSecond :
    let s (n : Nat) := withTime (fun t =>
      { t with accounts := t.accounts.set 0 { seconds := n, remainder := 1000000000, due := false } }) line
    (s 0).config = some hall ∧ 1000000000 ≤ ((s 3599).time.accounts.get 0).remainder ∧
      ((s 3599).time.accounts.get 0).seconds < 2 ^ 32 - 1 ∧ hall.timers.maintenance.get 0 ≠ 0 ∧
      3600 = hall.timers.maintenance.get 0 * 3600 ∧ ((s (2 ^ 32 - 2)).time.accounts.get 0).seconds < 2 ^ 32 - 1 :=
  ⟨rfl, by decide, by decide, by decide, by decide, by decide⟩

/-- With a set staged and with none, and before the first mark. -/
theorem witness_PitchMarkAccepted :
    marked.config = some hall ∧
      (∀ m, marked.time.pitchLog.getLast? = some m → m.time + hall.timers.minPitch * 1000000 ≤ marked.time.hall) ∧
      marked.queue.length + 1 < 2 ^ 31 ∧ marked.QueueSound ∧ 1 ≤ hall.retention ∧ marked.grading.staging = none ∧
      { marked with grading := { marked.grading with staging := some Bank.off } }.grading.staging = some Bank.off ∧
      line.time.pitchLog.getLast? = none ∧ line.QueueSound :=
  ⟨rfl, fun m h => by obtain rfl : Mark.mk 8 199950000000 = m := Option.some.inj h; decide, by decide,
    ⟨⟨by decide, trivial⟩, by decide, by decide⟩, by decide, rfl, rfl, rfl, ⟨trivial, Or.inl rfl, Or.inl rfl⟩⟩

/-- At the mark of bottle 109: the slot 16 pitches behind is at gate 0's decision point and feeds robot 0's ring; those 20 and 22
behind are at the delivery and the confirmation check; zone 0, out of RUN, marks the slot one pitch behind; a MAJOR verdict of
class FILL makes a fill defect. -/
theorem witness_MarkTaken :
    let d := decision [.major]
    let bad := { slot 93 (some d) with
      verdicts := (slot 93 none).verdicts.set 0 (some { kept := ⟨.major, .fill, 0, some 2⟩, double := false }) }
    hall.FormsOn 0 109 (slot 93 none) ∧ ¬ hall.FormsOn 0 109 (slot 92 none) ∧ ¬ hall.FormsOn 1 109 (slot 93 none) ∧
      hall.Feeds 0 109 (slot 93 none) 0 ∧ hall.FillDefect 0 bad ∧ ¬ hall.FillDefect 0 (slot 93 (some (decision []))) ∧
      ((109 : Bottle) - 89 = BitVec.ofNat 32 (hall.gates.get 0).distance ∧ (slot 89 (some d)).Waits 0 d ∧ d.delivered = false) ∧
      (109 : Bottle) - 87 = BitVec.ofNat 32 ((hall.gates.get 0).distance + 2) ∧
      ((hall.zones.get 0).hasSpan = true ∧ (109 : Bottle) - 108 = BitVec.ofNat 32 (hall.zones.get 0).first) ∧
      hall.fillCount = 1 ∧ 1 ≤ hall.retention ∧ hall.retention < 512 := by
  refine ⟨?_, ?_, ?_, ?_, ⟨decision [.major], by decide, by decide, 0, _, ⟨by decide, by decide⟩, rfl, rfl, rfl⟩, ?_, ?_⟩
  · unfold HallConfig.FormsOn; decide
  · unfold HallConfig.FormsOn; decide
  · unfold HallConfig.FormsOn; decide
  · unfold HallConfig.Feeds; decide
  · rintro ⟨d, hd, h, -⟩
    obtain rfl : decision [] = d := Option.some.inj hd
    exact nomatch h
  · unfold Slot.Waits; decide

theorem witness_PitchEdgeIgnored :
    dark.config = none ∧ marked.config = some hall ∧
      (withTime (fun t => { t with hall := 199999999999 }) marked).time.pitchLog.getLast? = some ⟨8, 199950000000⟩ ∧
      199999999999 < 199950000000 + hall.timers.minPitch * 1000000 :=
  ⟨rfl, rfl, rfl, by decide⟩

/-- The state of 2.4.1 with a record of camera 0 handed over; the last taken sequence is 5. -/
def graded (seq capture : Nat) : State :=
  withRecord 3 5 (.verdict 0 (verdictSlot seq capture))
    { placing 5290000000 with grading := { line.grading with
      cameras := line.grading.cameras.set 0 { lastSeq := some 5, counts := CameraCounts.zero } } }

/-- A stale record; records placed and unplaced, of the next sequence and of one half the range on. -/
theorem witness_VerdictRecordHandled :
    (graded 5 0).config = some hall ∧ ((graded 5 0).grading.cameras.get 0).lastSeq = some 5 ∧
      (taken (graded 5 0) 3 selVerdict).map (fun r => (r.1, r.2.seq)) = some (0, 5) ∧ serialLater 5 5 = false ∧
      (taken (graded 6 5130000000) 3 selVerdict).map (fun r => (r.1, r.2.seq, r.2.capture)) = some (0, 6, 5130000000) ∧
      serialLater 6 5 = true ∧ serialLater (5 + 0x7FFFFFFF) 5 = true ∧ serialLater (5 + 0x80000000) 5 = false ∧
      (graded 6 5130000000).place hall (hall.cameras.get 0) 5130000000 = .on 989 ∧
      (graded 6 0).place hall (hall.cameras.get 0) 0 = .unplaced .tooOld none 0 :=
  ⟨rfl, rfl, by decide, by decide, by decide, by decide, by decide, by decide, by decide +kernel, by decide +kernel⟩

/-- A slot with a verdict of its camera and one decided by the camera's gate; the seven outcomes of placement at the boundaries:
1,000,001 ns ahead; before the oldest entry; two periods past the newest, and just less; e at and past the half-window. -/
theorem witness_VerdictPlaced :
    let s := placing 5290000000
    let k := hall.cameras.get 0
    (graded 6 5130000000).slotOf 989 ≠ none ∧ hall.cameraGate 0 = some 0 ∧
      (((slot 7 (some (decision []))).decisions.get 0).isSome = true ∧ ((slot 7 none).verdicts.get 0) = none) ∧
      s.time.pitchLog ≠ [] ∧ line.time.pitchLog = [] ∧
      s.place hall k 5291000001 = .unplaced .future none 0 ∧ s.place hall k 5291000000 ≠ .unplaced .future none 0 ∧
      s.place hall k 3699999999 = .unplaced .tooOld none 0 ∧ s.place hall k 3700000000 ≠ .unplaced .tooOld none 0 ∧
      (placing 5500000000).place hall k 5400000000 = .unplaced .stalled none 512 ∧
      (placing 5500000000).place hall k 5399999999 ≠ .unplaced .stalled none 511 ∧
      s.place hall { k with halfWindow := 4 } 5130000000 = .on 989 ∧
      s.place hall { k with halfWindow := 3 } 5130000000 = .unplaced .ambiguous (some 989) (BitVec.ofInt 32 (-52)) ∧
      s.place hall k 3750000000 = .unplaced .outOfRange (some 975) 0 := by
  decide +kernel

/-- The check is met, in the words of R51. -/
abbrev metBy (t : Template) (v : VerdictRec) (i : Fin 16) : Prop :=
  (t.get i).op = .off ∨ (t.get i).a = 255 ∨
    if v.measure (t.get i).byteNo = 255 then (t.get i).policy = .skip
    else
      ((t.get i).op = .eq ∧ v.measure (t.get i).byteNo = (t.get i).a) ∨
        ((t.get i).op = .le ∧ v.measure (t.get i).byteNo ≤ (t.get i).a) ∨
        ((t.get i).op = .ge ∧ (t.get i).a ≤ v.measure (t.get i).byteNo) ∨
        ((t.get i).op = .within ∧ (t.get i).a ≤ v.measure (t.get i).byteNo ∧
          ((t.get i).b = 255 ∨ v.measure (t.get i).byteNo ≤ (t.get i).b)) ∨
        ((t.get i).op = .outside ∧
          (v.measure (t.get i).byteNo < (t.get i).a ∨
            ((t.get i).b ≠ 255 ∧ (t.get i).b < v.measure (t.get i).byteNo)))

/-- Template 6 of 3.4.1: a MAJOR check unmet; MINOR checks unmet alone; every check met; and a template of OFF checks. -/
theorem witness_TemplateResultRanksChecks :
    (¬ metBy (template 110 140 35) (verdictRec true 141 45 6 255) 0 ∧ ((template 110 140 35).get 0).severity = .major) ∧
    ((∀ j, ((template 110 140 35).get j).severity = .major → metBy (template 110 140 35) (verdictRec true 110 35 9 21) j) ∧
      ¬ metBy (template 110 140 35) (verdictRec true 110 35 9 21) 2 ∧
      (∀ j : Fin 16, j < 2 → metBy (template 110 140 35) (verdictRec true 110 35 9 21) j)) ∧
    (∀ j, metBy (template 110 140 35) (verdictRec true 140 35 8 255) j) ∧
    (∀ j : Fin 16, ((Table.replicate 16 Check.off).get j).op = .off ∨ ((Table.replicate 16 Check.off).get j).a = 255) := by
  refine ⟨?_, ⟨?_, ?_, ?_⟩, ?_, ?_⟩
  all_goals decide

/-- The chain 2, 4, 6 of camera 0: record A of 3.4.1 fails template 2 and passes template 4; record C fails all three; without a
usable image no template is asked. -/
theorem witness_TemplateChain :
    let k := hall.cameras.get 0
    let result (v : VerdictRec) (no : Fin 16) := (Template.result (bank.get no) no.val v).grade
    let a := verdictRec true 133 45 6 255
    let c := verdictRec true 125 255 4 10
    a.imageOk = true ∧ (verdictRec false 128 44 3 5).imageOk = false ∧ k.chainFirst ≤ k.chainLast ∧ k.chainLast ≤ 15 ∧
      1 ≤ k.chainStep ∧ (2 : Fin 16).val = k.chainFirst ∧ result a 2 = .major ∧ result a 4 ≠ .major ∧
      (∀ no ∈ ([2, 4, 6] : List (Fin 16)), result c no = .major) := by
  decide

/-! ## Witnesses: robots and gates -/

/-- A robot's status frame handed over in a state. -/
def reporting (seq state : Nat) (s : State) : State :=
  withRecord 1 2 (.robotStatus 0 (statusSlot seq state)) s

/-- The status frame that `reporting` hands over. -/
def reported (seq : Seq) (state : MachineState) : StatusFrame :=
  { seq := seq, reported := state, faultCode := 0x1234, handledPresent := false, handledEjected := false, handled := 0 }

/-- A stale frame, a report of RUNNING, and reports of SAFE: accepted already; one short of the two needed; the second. -/
theorem witness_RobotStatusFrameHandled :
    (reporting 5 3 line).config = some hall ∧ (reporting 5 3 line).robots.get 0 = some robot ∧
      taken (reporting 5 3 line) 1 selRobotStatus = some (0, reported 5 .safe) ∧ seqPasses robot.lastSeq 5 = false ∧
      taken (reporting 6 3 line) 1 selRobotStatus = some (0, reported 6 .safe) ∧ seqPasses robot.lastSeq 6 = true ∧
      taken (reporting 6 2 line) 1 selRobotStatus = some (0, reported 6 .running) ∧
      robot.accepted ≠ .safe ∧ robot.safeRun + 1 < (hall.units.get 0).safeCount ∧
      (withRobot (fun r => { r with safeRun := 1 }) line).robots.get 0 = some { robot with safeRun := 1 } ∧
      (hall.units.get 0).safeCount ≤ ({ robot with safeRun := 1 } : Robot).safeRun + 1 ∧
      (withRobot (fun r => { r with accepted := .safe }) line).robots.get 0 = some { robot with accepted := .safe } :=
  ⟨rfl, by decide, by decide, by decide, by decide, by decide, by decide, by decide, by decide, by decide, by decide, by decide⟩

/-- The hall with a second filler robot, unit 5, in zone 0. -/
def hallTwo : HallConfig :=
  { hall with units := hall.units.set 5 (unit .filler 6 0) }

/-- In zone 0 of the first hall unit 0 is the only filler robot. -/
theorem only_robot : ∀ v : Fin 24, v ≠ 0 → hall.kindOf v ≠ .filler := by
  decide

/-- The condition on the other robots holds with one robot in the zone, and fails with a second that has not reached SAFE; the
robot reaches SAFE, and leaves it; REQUESTED with an ENTER in flight, BREAK, and RUN. A RUNNING robot that reports RUNNING again
neither reaches nor leaves SAFE, and one that leaves SAFE outside the safe-reached set changes nothing in REQUESTED. -/
theorem witness_RobotStatusTestsZone :
    let reaching := reporting 6 3 (withRobot (fun r => { r with safeRun := 1 }) (requested 99000000000))
    let leaving := reporting 6 2 (withZone (fun k => { k with safeReached := [0] })
      (withRobot (fun r => { r with accepted := .safe }) (requested 99000000000)))
    (reaching.config = some hall ∧ taken reaching 1 selRobotStatus = some (0, reported 6 .safe) ∧
      hall.zoneOf 0 = some 0 ∧ hall.kindOf 0 = .filler ∧ (reaching.robots.get 0).map Robot.safeRun = some 1 ∧
      (hall.units.get 0).safeCount ≤ 1 + 1 ∧ (reaching.zones.get 0).state = .requested ∧
      (reaching.zones.get 0).inFlight = some 9) ∧
    (∀ v, v ≠ 0 → hall.kindOf v = .filler → hall.zoneOf v = some 0 →
      v ∈ (reaching.zones.get 0).safeReached ∧ ∃ x, reaching.robots.get v = some x ∧ x.accepted = .safe) ∧
    (hall.zones.get 0).breakpoint = false ∧ (hallBreak.zones.get 0).breakpoint = true ∧
    ({ reaching with config := some hallTwo }.config = some hallTwo ∧ hallTwo.kindOf 5 = .filler ∧ hallTwo.zoneOf 5 = some 0 ∧
      5 ∉ (reaching.zones.get 0).safeReached) ∧
    (taken leaving 1 selRobotStatus = some (0, reported 6 .running) ∧ (leaving.robots.get 0).map Robot.accepted = some .safe ∧
      (leaving.zones.get 0).state = .requested ∧ 0 ∈ (leaving.zones.get 0).safeReached) ∧
    ((withZone (fun k => { k with state := .breakpoint }) leaving).zones.get 0).state = .breakpoint ∧
    (line.zones.get 0).state = .run ∧
    (let again := reporting 6 2 (requested 99000000000)
     taken again 1 selRobotStatus = some (0, reported 6 .running) ∧ (again.robots.get 0).map Robot.accepted = some .running ∧
       (again.zones.get 0).state = .requested) ∧
    0 ∉ ((withZone (fun k => { k with safeReached := [] }) leaving).zones.get 0).safeReached :=
  ⟨⟨rfl, by decide, by decide, by decide, by decide, by decide, by decide, by decide⟩,
    fun v hv hk => absurd hk (only_robot v hv), by decide, by decide, ⟨rfl, by decide, by decide, by decide⟩,
    ⟨by decide, by decide, by decide, by decide⟩, by decide, by decide, ⟨by decide, by decide, by decide⟩, by decide⟩

theorem witness_StatusTimeoutsLose :
    line.config = some hall ∧
      (withRobot (fun r => { r with statusStart := some 99900000000 }) line).robots.get 0 =
        some { robot with statusStart := some 99900000000 } ∧
      99900000000 + (hall.units.get 0).statusTimeout * 1000000 ≤ line.time.localTime ∧
      { line with gates := line.gates.set 0 (some { gate with statusStart := some 99900000000 }) }.gates.get 0 =
        some { gate with statusStart := some 99900000000 } ∧
      hall.gateUnit 0 = some 1 ∧ 99900000000 + (hall.gates.get 0).statusTimeout * 1000000 ≤ line.time.localTime :=
  ⟨rfl, by decide, by decide, by decide, by decide, by decide⟩

/-- The robot that is lost was SAFE in a zone in REQUESTED with its ENTER in flight, or in BREAK; or it had not reached SAFE; or it
was LOST already. -/
theorem witness_StatusTimeoutsMoveZone :
    let safe := withRobot (fun r => { r with accepted := .safe, statusStart := some 99900000000 })
      (withZone (fun k => { k with safeReached := [0] }) (requested 99000000000))
    hall.zoneOf 0 = some 0 ∧ (safe.robots.get 0).map Robot.accepted = some .safe ∧ (safe.zones.get 0).state = .requested ∧
      (safe.zones.get 0).inFlight = some 9 ∧ 0 ∈ (safe.zones.get 0).safeReached ∧
      ((withZone (fun k => { k with state := .breakpoint }) safe).zones.get 0).state = .breakpoint ∧
      (0 : Fin 24) ∉ ((requested 99000000000).zones.get 0).safeReached ∧ robot.accepted ≠ .safe ∧
      ((withRobot (fun r => { r with accepted := .lost }) line).robots.get 0).map Robot.accepted = some .lost := by
  decide

/-- The recorded sequence 1 again, and a changing one. -/
theorem witness_SequenceWriteRecorded :
    let s (q : Seq) := withRecord 0 1 (.sequence 0 q) line
    taken (s 1) processorTag (selSequence 0) = some 1 ∧ taken (s 2) processorTag (selSequence 0) = some 2 ∧
      (s 1).config = some hall ∧ (s 1).robots.get 0 = some robot ∧ robot.cmdSeq = some 1 ∧ robot.cmdSeq ≠ some 2 :=
  ⟨by decide, by decide, rfl, by decide, rfl, by decide⟩

/-- The read of `withRead`. -/
theorem withRead_substituting (tag i : Fin 32) (n : Nat) (s : State) (hc : s.config = some hall) :
    (withRead tag i n s).substituting tag = some (hall, hall.windows.get i,
      { tag := tag, addr := BitVec.ofNat 32 (hall.windows.get i).base, access := .read n }) := by
  have h1 : (withRead tag i n s).config = some hall := hc
  have h2 : (withRead tag i n s).path.oldest tag = some
      { txn := { tag := tag, addr := BitVec.ofNat 32 (hall.windows.get i).base, access := .read n },
        treatment := .substituted i (hall.windows.get i), stage := .atMemory } := by
    simp [withRead, Path.oldest]
  have h3 : hall.stands i (hall.windows.get i) = true := by simp [HallConfig.stands]
  simp only [State.substituting, h1, h2, h3, if_true]

/-- A robot in HELD; a RELEASED one whose sequence is stale by 1 ns, and one without a sequence. -/
theorem witness_RobotCommandReadHeld :
    let s (f : Robot → Robot) := withRead 1 1 16 (withRobot f line)
    (∃ x, (s id).substituting 1 = some (hall, hall.windows.get 1, x)) ∧ (hall.windows.get 1).kind = .command ∧
      unitNumber (hall.windows.get 1).unit = some 0 ∧ hall.kindOf 0 = .filler ∧
      ((s fun r => { r with gate := .held }).robots.get 0) = some { robot with gate := .held } ∧
      ((s fun r => { r with seqTime := some 199799999999 }).robots.get 0) = some { robot with seqTime := some 199799999999 } ∧
      199799999999 + (hall.units.get 0).staleLimit * 1000000 < (s id).time.hall ∧
      ((s fun r => { r with seqTime := none }).robots.get 0) = some { robot with seqTime := none } :=
  ⟨⟨_, withRead_substituting 1 1 16 _ rfl⟩, by decide, by decide, by decide, by decide, by decide, by decide, by decide⟩

/-- A RELEASED robot whose sequence is as old as the stale limit allows; the modes RUN, HOLD and 3, in the word returned. -/
theorem witness_RobotCommandReadReleased :
    let s := withRead 1 1 16 (withRobot (fun r => { r with seqTime := some 199800000000 }) line)
    let mode (w : Word) := (s.writtenFields (fitWords 16 [w]) 0).mode
    (∃ x, s.substituting 1 = some (hall, hall.windows.get 1, x)) ∧
      s.robots.get 0 = some { robot with seqTime := some 199800000000 } ∧ robot.gate = .released ∧
      s.time.hall ≤ 199800000000 + (hall.units.get 0).staleLimit * 1000000 ∧
      RobotMode.ofCode (mode 0x0000_0002_0000_0000) = some .run ∧ RobotMode.ofCode (mode 0x0000_0001_0000_0000) = some .hold ∧
      returnsWord 16 0 0 = true ∧ 3 ≤ mode 0x0000_0003_0000_0000 :=
  ⟨⟨_, withRead_substituting 1 1 16 _ rfl⟩, by decide, by decide, by decide, by decide, by decide, by decide, by decide⟩

/-- The robot as a change handed on leaves it: with a cause; without one from HELD, with and without release-confirm; from
RELEASED. -/
theorem witness_RobotGateFollowsCauses :
    let after (f : Robot → Robot) (s : State) := ((withRobot f s).handOn.robots.get 0).map fun r => (r.causes, r.gate)
    line.config = some hall ∧ line.robots.get 0 = some robot ∧
      after id (withZone (fun k => { k with state := .held }) line) = some (1, .held) ∧
      after (fun r => { r with gate := .held, confirm := true }) line = some (0, .arming) ∧
      after (fun r => { r with gate := .held }) line = some (0, .released) ∧ after id line = some (0, .released) :=
  ⟨rfl, by decide, by decide, by decide, by decide, by decide⟩

/-- A byte covered by a field at its first and at its last byte, and the byte after it. -/
theorem witness_OverlayRewritesListedBytes :
    let fs : List Field := [⟨8, 2, 0x1234⟩]
    let covering (o : Nat) := fs.find? fun f => decide (f.off ≤ o ∧ o < f.off + f.size)
    ([0, 7] : List Word)[1]? = some 7 ∧ covering (0 + 8 * 1 + 0) = some ⟨8, 2, 0x1234⟩ ∧
      covering (0 + 8 * 1 + 1) = some ⟨8, 2, 0x1234⟩ ∧
      (∀ f ∈ fs, ¬ (f.off ≤ 0 + 8 * 1 + 2 ∧ 0 + 8 * 1 + 2 < f.off + f.size)) ∧
      (recordWords fs 0 2)[1]? = some 0x1234 ∧ (1 : Nat) < 2 ∧ (7 : Nat) < 8 := by
  decide

/-- A gate's status frame handed over, with its report of bottle `b` ejected or not, in a state. -/
def gateReport (seq b : Nat) (ejected : Bool) (s : State) : State :=
  withRecord 2 4 (.gateStatus 0 (record 8 [⟨0, 4, seq⟩, ⟨4, 1, 2⟩, ⟨5, 1, bit true 0 + bit ejected 1⟩, ⟨12, 4, b⟩])) s

/-- A stale frame; a repeated report and none; a new report that is unmatched, confirms, mismatches, repeats what confirmed the
decision, or turns it. -/
theorem witness_GateStatusFrameHandled :
    let frame (seq b : Nat) (x : Bool) (s : State) :=
      (taken (gateReport seq b x s) 2 selGateStatus).map fun r =>
        (r.1, r.2.seq, r.2.handledPresent, r.2.handled, r.2.handledEjected)
    let decided (x : Option Bool) := (({ decided with queue := [slot 7 (some { decision [.unfilled] with confirmed := x })] }).slotOf 7).bind
      fun q => q.decisions.get 0
    line.config = some hall ∧ line.gates.get 0 = some gate ∧
      frame 5 7 true line = some (0, 5, true, 7, true) ∧ seqPasses gate.lastSeq 5 = false ∧
      frame 6 7 true line = some (0, 6, true, 7, true) ∧ seqPasses gate.lastSeq 6 = true ∧ gate.lastReport ≠ some (7, true) ∧
      ({ gate with lastReport := some (7, true) } : GateRec).lastReport = some (7, true) ∧
      (line.slotOf 7) = none ∧ decided none = some (decision [.unfilled]) ∧ (decision [.unfilled]).rejects = true ∧
      frame 6 7 false line = some (0, 6, true, 7, false) ∧
      (decided (some true)).map Decision.confirmed = some (some true) ∧
      (decided (some false)).map Decision.confirmed = some (some (!true)) :=
  ⟨rfl, by decide, by decide, by decide, by decide, by decide, by decide, rfl, rfl, by decide, rfl, by decide, by decide, by decide⟩

theorem witness_GateCommandReadLists :
    (∃ x, (withRead 2 3 16 decided).substituting 2 = some (hall, hall.windows.get 3, x)) ∧
      (hall.windows.get 3).kind = .command ∧ unitNumber (hall.windows.get 3).unit = some 1 ∧ hall.gateOfUnit 1 = some 0 ∧
      (withRead 2 3 16 decided).available hall 0 = true ∧
      (withRead 2 3 16 { decided with gates := decided.gates.set 0 (some { gate with accepted := .lost }) }).available hall 0 =
        false :=
  ⟨⟨_, withRead_substituting 2 3 16 _ rfl⟩, by decide, by decide, by decide, by decide, by decide⟩

/-! ## Witnesses: zones -/

/-- A guard whose raw level has stood OPEN, or CLOSED, for exactly 10 ms over the other filtered level. -/
def settling (opened : Bool) (s : State) : State :=
  { s with guards := s.guards.set 0 { raw := opened, since := s.time.localTime - 10000000, level := !opened } }

/-- Zone 0 in a state, its timers as they stand there. -/
def zoneIn (k : ZoneState) (s : State) : State :=
  withZone (fun z => { z with state := k }) s

/-- UNCONFIGURED; the states that stand; CLEARING after a forced entry and not; RUN, and REQUESTED with an ENTER in flight. -/
theorem witness_GuardOpenForcesZone :
    let g := (settling true line).guards.get 0
    g.raw = true ∧ g.level = false ∧ g.since + 10000000 ≤ line.time.localTime ∧
      (settling true line).config = some hall ∧
      ({ settling true line with config := none }).config = none ∧
      ((zoneIn .opened line).zones.get 0).state = .opened ∧ ((zoneIn .forced line).zones.get 0).state = .forced ∧
      (let k := (withZone (fun k => { k with state := .clearing, afterForced := true }) line).zones.get 0
       k.state = .clearing ∧ k.afterForced = true) ∧
      (let k := (zoneIn .clearing line).zones.get 0; k.state = .clearing ∧ k.afterForced = false) ∧
      (line.zones.get 0).state = .run ∧
      (let k := (requested 99000000000).zones.get 0; k.state = .requested ∧ k.inFlight = some 9) :=
  ⟨by decide, by decide, by decide, rfl, rfl, by decide, by decide, by decide, by decide, by decide, by decide⟩

theorem witness_GuardClosedClearsZone :
    let g := (settling false line).guards.get 0
    g.raw = false ∧ g.level = true ∧ g.since + 10000000 ≤ line.time.localTime ∧
      (settling false line).config = some hall ∧ ({ settling false line with config := none }).config = none ∧
      ((zoneIn .opened line).zones.get 0).state = .opened ∧ ((zoneIn .forced line).zones.get 0).state = .forced ∧
      (line.zones.get 0).state = .run :=
  ⟨by decide, by decide, by decide, rfl, rfl, by decide, by decide, by decide⟩

theorem witness_ZoneTimersExpire :
    (let k := (requested 85000000000).zones.get 0
     k.access = some 85000000000 ∧ 85000000000 + 15000000000 ≤ line.time.localTime ∧ k.extended = false ∧
       k.state = .requested ∧ k.inFlight = some 9) ∧
    (let k := (withZone (fun k => { k with state := .breakpoint, extended := true, access := some 80000000000 }) line).zones.get 0
     k.access = some 80000000000 ∧ 80000000000 + 20000000000 ≤ line.time.localTime ∧ k.extended = true ∧
       k.state = .breakpoint) ∧
    (let k := (withZone (fun k => { k with state := .clearing, clearing := some 90000000000 }) line).zones.get 0
     k.state = .clearing ∧ k.clearing = some 90000000000 ∧ 90000000000 + 10000000000 ≤ line.time.localTime) ∧
    (requested 85000000000).config = some hall :=
  ⟨by decide, by decide, by decide, rfl⟩

/-- In RUN and in HELD; the robot LOST, RUNNING, and SAFE, without a breakpoint and with one. -/
theorem witness_EnterTaken :
    let s (k : ZoneState) (a : MachineState) := zoneCommand 1 (zoneIn k (withRobot (fun r => { r with accepted := a }) line))
    (∀ k ∈ [ZoneState.run, .held], taken (s k .running) processorTag (selZone 0 .enter) = some (word 1 10 0) ∧
      ((s k .running).zones.get 0).lastSeq ≠ some (wordSeq (word 1 10 0)) ∧ ((s k .running).zones.get 0).pending = none ∧
      ((s k .running).zones.get 0).state = k) ∧
    (s .run .running).config = some hall ∧ (hall.kindOf 0 = .filler ∧ hall.zoneOf 0 = some 0) ∧
    (∀ r, (s .run .lost).robots.get 0 = some r → r.accepted = .lost ∨ r.accepted = .offline) ∧
    ((s .run .running).portStateOf hall 0 = .active ∧ (s .run .running).robots.get 0 = some robot) ∧
    (∀ u, hall.kindOf u = .filler ∧ hall.zoneOf u = some 0 → ∃ r, (s .run .safe).robots.get u = some r ∧ r.accepted = .safe) ∧
    (hall.zones.get 0).breakpoint = false ∧ (hallBreak.zones.get 0).breakpoint = true := by
  refine ⟨by decide, rfl, by decide, ?_, by decide, ?_, by decide, by decide⟩
  · intro r h
    obtain rfl : { robot with accepted := MachineState.lost } = r := Option.some.inj h
    exact Or.inl rfl
  · rintro u ⟨hk, -⟩
    by_cases hu : u = 0
    · subst hu; exact ⟨{ robot with accepted := .safe }, by decide, rfl⟩
    · exact absurd hk (only_robot u hu)

theorem witness_ConfirmAndExtendTaken :
    let s (code : Nat) (k : ZoneState) := zoneCommand code (zoneIn k line)
    let slot (s : State) := ((s.zones.get 0).state, (s.zones.get 0).pending, (s.zones.get 0).lastSeq, (s.zones.get 0).extended)
    (s 2 .breakpoint).config = some hall ∧ taken (s 2 .breakpoint) processorTag (selZone 0 .confirm) = some (word 2 10 0) ∧
      slot (s 2 .breakpoint) = (.breakpoint, none, some 9, false) ∧ wordSeq (word 2 10 0) = 10 ∧
      taken (s 3 .requested) processorTag (selZone 0 .extend) = some (word 3 10 0) ∧
      slot (s 3 .requested) = (.requested, none, some 9, false) ∧ slot (s 3 .breakpoint) = (.breakpoint, none, some 9, false) ∧
      wordSeq (word 3 10 0) = 10 :=
  ⟨rfl, by decide, by decide, by decide, by decide, by decide, by decide, by decide⟩

theorem witness_CancelTaken :
    let s (k : ZoneState) := zoneCommand 4 (zoneIn k (requested 99000000000))
    let slot (s : State) := ((s.zones.get 0).state, (s.zones.get 0).pending, (s.zones.get 0).lastSeq)
    (s .requested).config = some hall ∧ taken (s .requested) processorTag (selZone 0 .cancel) = some (word 4 10 0) ∧
      wordSeq (word 4 10 0) = 10 ∧ slot (s .requested) = (.requested, none, some 9) ∧
      ((s .requested).zones.get 0).inFlight = some 9 ∧ slot (s .breakpoint) = (.breakpoint, none, some 9) ∧
      slot (s .opened) = (.opened, none, some 9) ∧ ((withGuard true (s .opened)).guards.get 0).level = true ∧
      ((withGuard false (s .opened)).guards.get 0).level = false :=
  ⟨rfl, by decide, by decide, by decide, by decide, by decide, by decide, by decide, by decide⟩

theorem witness_ResetAndResumeTaken :
    let s (code : Nat) (k : ZoneState) := zoneCommand code (zoneIn k line)
    let slot (s : State) := ((s.zones.get 0).state, (s.zones.get 0).pending, (s.zones.get 0).lastSeq)
    (s 5 .start).config = some hall ∧ taken (s 5 .start) processorTag (selZone 0 .reset) = some (word 5 10 0) ∧
      wordSeq (word 5 10 0) = 10 ∧ slot (s 5 .start) = (.start, none, some 9) ∧ slot (s 5 .clearing) = (.clearing, none, some 9) ∧
      slot (s 5 .held) = (.held, none, some 9) ∧ taken (s 6 .held) processorTag (selZone 0 .resume) = some (word 6 10 0) ∧
      wordSeq (word 6 10 0) = 10 ∧ slot (s 6 .held) = (.held, none, some 9) ∧
      ((withGuard false (s 5 .start)).guards.get 0).level = false ∧ ((withGuard true (s 5 .start)).guards.get 0).level = true :=
  ⟨rfl, by decide, by decide, by decide, by decide, by decide, by decide, by decide, by decide, by decide, by decide⟩

theorem witness_SenseCollects :
    let s := zoneCommand 7 (withZone (fun k => { k with pending := some ⟨.normal, .command 9, false⟩ }) line)
    s.config = some hall ∧ taken s processorTag (selZone 0 .sense) = some (word 7 10 0) ∧ wordSeq (word 7 10 0) = 10 ∧
      (s.zones.get 0).lastSeq = some 9 ∧ (s.zones.get 0).pending ≠ none ∧ (line.zones.get 0).pending = none :=
  ⟨rfl, by decide, by decide, by decide, by decide, by decide⟩

/-- One INVALID entry of each command's row, and an EXTEND already extended. -/
theorem witness_InvalidZoneCommands :
    let s (code : Nat) (k : ZoneState) := zoneCommand code (zoneIn k line)
    let slot (s : State) := ((s.zones.get 0).state, (s.zones.get 0).pending, (s.zones.get 0).lastSeq)
    (s 1 .start).config = some hall ∧
      (∀ p ∈ [(1, ZoneCommand.enter), (2, .confirm), (3, .extend), (4, .cancel), (5, .reset), (6, .resume)],
        taken (s p.1 .forced) processorTag (selZone 0 p.2) = some (word p.1 10 0) ∧ wordSeq (word p.1 10 0) = 10 ∧
        slot (s p.1 .forced) = (.forced, none, some 9)) ∧
      ((withZone (fun k => { k with extended := true }) (s 3 .requested)).zones.get 0).extended = true :=
  ⟨rfl, by decide, by decide⟩

/-- A repeated sequence; a completion pending; a code of no command with nothing pending. -/
theorem witness_ZoneSlotRefuses :
    let s (code : Nat) (n : Byte) := zoneCommand code (withZone (fun k => { k with lastSeq := some n }) line)
    (s 1 10).config = some hall ∧ taken (s 1 10) processorTag (selZone 0 .enter) = some (word 1 10 0) ∧
      ((s 1 10).zones.get 0).lastSeq = some (wordSeq (word 1 10 0)) ∧ ((s 1 9).zones.get 0).lastSeq ≠ some (wordSeq (word 1 10 0)) ∧
      ((withZone (fun k => { k with pending := some ⟨.normal, .command 9, false⟩ }) (s 1 9)).zones.get 0).pending ≠ none ∧
      taken (s 9 9) processorTag (selZoneOther 0) = some (word 9 10 0) ∧ (∃ n : Fin 9, n.val = (0 : Fin 8).val) ∧
      ((s 9 9).zones.get 0).pending = none :=
  ⟨rfl, by decide, by decide, by decide, by decide, by decide, ⟨0, rfl⟩, by decide⟩

/-! ## Witnesses: the memory path and the ports -/

/-- A misaligned read, one of no words and one across a line; the image's last word and the address after it; no window; the mailbox,
the view, a robot's and a gate's command frame, and a PLAIN window. -/
theorem witness_ProcessorTransactionTreated :
    let formed (t : Txn) := t.start % 8 = 0 ∧ 1 ≤ t.length ∧ t.start % 128 + 8 * t.length ≤ 128
    let at_ (a : BitVec 32) := hall.windowAt (read 0 a 1).start
    line.config = some hall ∧ line.path.Ordered ∧ (read 0 0x3FF8 1).tag = processorTag ∧
      (¬ formed (read 0 4 1) ∧ ¬ formed (read 0 0 0) ∧ ¬ formed (read 0 8 16) ∧ formed (read 0 0 16)) ∧
      (line.cfgBase.toNat * 2 ^ 24 ≤ (read 0 0x3FF8 1).start ∧ (read 0 0x3FF8 1).start < line.cfgBase.toNat * 2 ^ 24 + 16384) ∧
      ¬ (read 0 0x4000 1).start < line.cfgBase.toNat * 2 ^ 24 + 16384 ∧ at_ 0x4000 = none ∧
      at_ 0x2005F8 = some 8 ∧ at_ 0x201FF8 = some 9 ∧ at_ 0x200000 = some 1 ∧ at_ 0x200100 = some 3 ∧ at_ 0x100FF8 = some 0 ∧
      (hall.windows.get 8).kind = .mailbox ∧ (hall.windows.get 9).kind = .view ∧
      unitNumber (hall.windows.get 1).unit = some 0 ∧ unitNumber (hall.windows.get 3).unit = some 1 ∧
      (hall.windows.get 0).kind = .plain :=
  ⟨rfl, line_ordered, rfl, by decide, by decide, by decide, by decide, by decide, by decide, by decide, by decide, by decide,
    by decide, by decide, by decide, by decide, by decide⟩

/-- PLAIN, COMMAND, a record window, and the mailbox; port 1 (entry 0) is the port of unit 0, port 2 is not. -/
theorem witness_PortRights :
    hall.windowAt 0x100000 = some 0 ∧ hall.windowAt 0x200000 = some 1 ∧ hall.windowAt 0x200080 = some 2 ∧
      hall.windowAt 0x200400 = some 8 ∧ hall.windowAt 0x4000 = none ∧
      ((write 1 0x100000 1).start % 8 = 0 ∧ 1 ≤ (write 1 0x100000 1).length ∧
        (write 1 0x100000 16).start % 128 + 8 * (write 1 0x100000 16).length ≤ 128) ∧
      (write 1 0x100000 1).isWrite = true ∧ (read 1 0x100000 1).isWrite = false ∧
      (hall.windows.get 1).kind = .command ∧ (hall.windows.get 2).kind = .status ∧ (hall.windows.get 8).kind = .mailbox ∧
      unitNumber (hall.windows.get 1).unit = some 0 ∧ hall.portOf 0 = some 0 ∧ hall.portOf 0 ≠ some 1 := by
  decide

/-- A write out of ACTIVE; without rights, below and at the violation limit; within the budget at its last word; past it, in
enforcement and in observation; three entries within 60 s, at exactly 60 s and past it. -/
theorem witness_PortWriteJudged :
    let r (f : Port → Port) := (withPort f line).ports.get 0
    line.config = some hall ∧ (write 1 0x100000 16).tag.val = (0 : Fin 16).val + 1 ∧ (write 1 0x100000 16).isWrite = true ∧
      line.path.Ordered ∧ (r fun r => { r with state := .listen }).state ≠ .active ∧ (r id).state = .active ∧
      line.portTreatment hall 0 (write 1 0x200400 1) = .denied ∧ line.portTreatment hall 0 (write 1 0x100000 16) = .plain ∧
      (hall.ports.get 0).limit ≤ min 255 ((r fun r => { r with intervalViolations := 2 }).intervalViolations + 1) ∧
      ¬ (hall.ports.get 0).limit ≤ min 255 ((r id).intervalViolations + 1) ∧
      (r fun r => { r with intervalWords := 384 }).intervalWords + (write 1 0x100000 16).length ≤ (hall.ports.get 0).budget ∧
      (hall.ports.get 0).budget < (r fun r => { r with intervalWords := 385 }).intervalWords + (write 1 0x100000 16).length ∧
      ((hall.ports.get 0).observe || false) = false ∧ ((hallObserve.ports.get 0).observe || false) = true ∧
      ((hall.ports.get 0).observe || true) = true ∧
      line.time.localTime ≤ 40000000000 + 60000000000 ∧ ¬ line.time.localTime ≤ 39999999999 + 60000000000 :=
  ⟨rfl, by decide, by decide, line_ordered, by decide, by decide, by decide, by decide, by decide, by decide, by decide,
    by decide, by decide, by decide, by decide, by decide, by decide⟩

/-- A record write that leaves slot 0 uncovered, and one that covers it; a read that is served out of ACTIVE, and one that is a
violation, in enforcement and in observation. -/
theorem witness_PortReadJudged :
    let t (n : Nat) := write 1 0x200080 n
    (∃ i w, line.portTreatment hall 0 (t 7) = .observed i w) ∧ (t 7).start % 128 = 0 ∧
      writtenBlock (t 7).written 0 0 8 = none ∧ writtenBlock (t 8).written 0 0 8 ≠ none ∧
      (read 1 0x100000 1).isWrite = false ∧ (read 1 0x100000 1).tag.val = (0 : Fin 16).val + 1 ∧
      line.portTreatment hall 0 (read 1 0x100000 1) = .plain ∧ line.portTreatment hall 0 (read 1 0x200080 1) = .denied ∧
      ((withPort (fun r => { r with state := .listen, silence := some 1 }) line).ports.get 0).state ≠ .active ∧
      line.path.oldest 1 = none :=
  ⟨⟨2, _, rfl⟩, by decide, by decide, by decide, by decide, by decide, by decide, by decide, by decide, rfl⟩

/-- UNCONFIGURED, another source and the processor; tags 18 and 31; tag 17 inside its window, whole and in part, and outside. -/
theorem witness_OtherSourcesTreated :
    dark.config = none ∧ dark.path.Ordered ∧ (read 1 0 1).tag ≠ processorTag ∧ (read 0 0 1).tag = processorTag ∧
      line.config = some hall ∧ line.path.Ordered ∧ 18 ≤ (read 18 0 1).tag.val ∧ 18 ≤ (read 31 0 1).tag.val ∧
      (write 17 0x200300 16).tag.val = 17 ∧ hall.windowAt (write 17 0x200300 16).start = some 7 ∧
      (hall.windows.get 7).kind = .switchTable ∧
      (writtenBlock (write 17 0x200300 15).written ((write 17 0x200300 15).start % 128) 0 16 = none) ∧
      (writtenBlock (write 17 0x200300 16).written ((write 17 0x200300 16).start % 128) 0 16 ≠ none) ∧
      (∀ i, hall.windowAt (write 17 0x100000 1).start = some i → (hall.windows.get i).kind ≠ .switchTable) :=
  ⟨rfl, line_ordered, by decide, rfl, rfl, line_ordered, by decide, by decide, by decide, by decide, by decide, by decide,
    by decide, by decide⟩

/-- The oldest transaction of a tag at memory, a write and a read, and a refused one behind it. -/
theorem witness_MemoryAnswersPassedUp :
    let first : Flight := { txn := read 1 0x100000 2, treatment := .plain, stage := .atMemory }
    let behind : Flight := { txn := write 1 0x200400 1, treatment := .denied, stage := .held }
    let s := { line with path := { line.path with flights := [first, behind] } }
    s.path.oldest 1 = some first ∧ first.stage = .atMemory ∧ first.treatment = .plain ∧
      s.path.oldest ({ tag := 1, response := .fault, data := [] } : Reply).tag = some first := by
  decide

/-- An observed write at memory that hands over two slots, one that hands over none, and one whose window a FULL load replaced; a
substituted read of a port and of the processor whose window was replaced; an image write of a load kind and of 0. -/
theorem witness_MemoryAnswersObserved :
    let f (i : Fin 32) (x : Txn) : Flight := { txn := x, treatment := .observed i (hall.windows.get i), stage := .atMemory }
    let image (w : Word) : Flight := { txn := { tag := 0, addr := 0, access := .write [⟨w, 0xFF⟩] }, treatment := .image, stage := .atMemory }
    let s (c : HallConfig) (f : Flight) := { line with config := some c, path := { line.path with flights := [f] } }
    let other : HallConfig := { hall with windows := Table.replicate 32 (window .plain 0 0 128) }
    let hands (c : HallConfig) (f : Flight) := ((s c f).toHand f).length
    (s hall (f 2 (write 1 0x200080 16))).path.oldest 1 = some (f 2 (write 1 0x200080 16)) ∧
      hands hall (f 2 (write 1 0x200080 16)) = 2 ∧ hands hall (f 2 (write 1 0x200080 7)) = 0 ∧
      hands other (f 2 (write 1 0x200080 16)) = 0 ∧ (other.windows.get 2).kind ≠ (hall.windows.get 2).kind ∧
      hands hall (image 1) = 1 ∧ hands hall (image 0) = 0 ∧
      ((withRead 1 1 4 line).path.oldest 1).map Flight.treatment = some (.substituted 1 (hall.windows.get 1)) ∧
      ((withRead 0 8 4 line).path.oldest 0).map Flight.treatment = some (.substituted 8 (hall.windows.get 8)) ∧
      (1 : Fin 32).val = (0 : Fin 16).val + 1 ∧ (other.windows.get 1).kind ≠ (hall.windows.get 1).kind := by
  decide

theorem witness_ViewAndMailboxAnswered :
    (let s := { line with path := { line.path with flights := [{ txn := read 0 0x201000 1, treatment := .view, stage := .held }] } }
     s.config = some hall ∧ s.path.oldest processorTag = some { txn := read 0 0x201000 1, treatment := .view, stage := .held }) ∧
    (∃ x, (withRead 0 8 4 line).substituting processorTag = some (hall, hall.windows.get 8, x)) ∧
    (hall.windows.get 8).kind = .mailbox :=
  ⟨⟨rfl, by decide⟩, ⟨_, withRead_substituting 0 8 4 _ rfl⟩, by decide⟩

/-- A waiting transaction behind a held one, with no own head, and with one that has let 7 and 8 pass; an own head alone. -/
theorem witness_ArbiterGrants :
    let held : Flight := { txn := read 0 0x201000 1, treatment := .view, stage := .held }
    let wait : Flight := { txn := read 1 0x100000 1, treatment := .plain, stage := .waiting }
    let p (q : List OwnTxn) (n : Nat) : Path := { line.path with flights := [held, wait], ownQueue := q, ownWait := n }
    ((p [] 0).flights = [held] ++ wait :: [] ∧ wait.stage = .waiting ∧ (∀ e ∈ [held], e.stage ≠ .waiting) ∧ (p [] 0).ownQueue = []) ∧
      (p [own .notice] 7).ownWait < 8 ∧ ((p [own .notice] 8).ownQueue = own .notice :: [] ∧ 8 ≤ (p [own .notice] 8).ownWait) ∧
      (∀ e ∈ ({ p [own .notice] 0 with flights := [held] } : Path).flights, e.stage ≠ .waiting) := by
  decide

/-- Port 1's record before a table: link UP; DOWN with up run 0 and 1, the port DOWN and LOCKED; and its entry UP and not. -/
theorem witness_SwitchTableTaken :
    let s (f : Port → Port) := withRecord 17 7 (.switchTable (tableSlot 1)) (withPort f line)
    let r (f : Port → Port) := ((s f).ports.get 0).linkUp
    (s id).config = some hall ∧ taken (s id) agentTag selTable = some (tableSlot 1) ∧ (readTableEntry (tableSlot 1) 0).up = true ∧
      (readTableEntry (tableSlot 0) 0).up = false ∧ (readTableEntry (tableSlot 2) 0).up = false ∧ r id = true ∧
      r (fun _ => { Port.fresh with upRun := 0 }) = false ∧ 1 ≤ ({ Port.fresh with upRun := 1 } : Port).upRun ∧
      ((s fun _ => { Port.fresh with upRun := 1 }).ports.get 0).state = .down ∧
      ((s fun _ => { Port.fresh with upRun := 1, state := .locked }).ports.get 0).state = .locked ∧
      ((s id).ports.get 0).state = .active :=
  ⟨rfl, by decide +kernel, by decide, by decide, by decide, by decide, by decide, by decide, by decide, by decide, by decide⟩

theorem witness_PortTimersExpire :
    line.config = some hall ∧
      ({ line with table := { line.table with timer := some 99000000000 } }).table.timer = some 99000000000 ∧
      99000000000 + 1000000000 ≤ line.time.localTime ∧ line.table.intervalStart + 10000000 ≤ line.time.localTime ∧
      (let r := (withPort (fun r => { r with state := .listen, silence := some 99900000000 }) line).ports.get 0
       r.state = .listen ∧ r.silence = some 99900000000 ∧
         99900000000 + (hall.ports.get 0).silence * 1000000 ≤ line.time.localTime) :=
  ⟨rfl, rfl, by decide, by decide, by decide⟩

/-! ## Witnesses: reports and loads -/

/-- The hypotheses on the general slot, at which a command of sequence 10 is new and no snapshot is in flight. -/
def slotFree (s : State) : Prop :=
  s.config = some hall ∧ s.report.lastSeq ≠ some 10 ∧ s.report.slot ≠ .inProgress

theorem witness_UnitCommandsTaken :
    let arming := withRobot (fun r => { r with gate := .arming, confirm := true }) line
    slotFree (generalCommand 16 0 arming) ∧ wordSeq (word 16 10 0) = 10 ∧
      taken (generalCommand 16 0 arming) processorTag (selGeneral .release) = some (word 16 10 0) ∧
      unitNumber (wordArg (word 16 10 0)) = some 0 ∧ hall.kindOf 0 = .filler ∧
      (generalCommand 16 0 arming).robots.get 0 = some { robot with gate := .arming, confirm := true } ∧
      taken (generalCommand 17 0 line) processorTag (selGeneral .clearSuspect) = some (word 17 10 0) ∧
      slotFree (generalCommand 17 0 line) ∧ unitNumber (wordArg (word 17 10 0)) = some 0 ∧
      taken (generalCommand 18 23 line) processorTag (selGeneral .accountClear) = some (word 18 10 23) ∧
      slotFree (generalCommand 18 23 line) ∧ unitNumber (wordArg (word 18 10 23)) = some 23 :=
  ⟨⟨rfl, by decide, by decide⟩, by decide, by decide, by decide, by decide, by decide, by decide, ⟨rfl, by decide, by decide⟩,
    by decide, by decide, ⟨rfl, by decide, by decide⟩, by decide⟩

theorem witness_LineCommandsTaken :
    slotFree (generalCommand 19 1 line) ∧ wordSeq (word 19 10 1) = 10 ∧
      taken (generalCommand 19 1 line) processorTag (selGeneral .portClear) = some (word 19 10 1) ∧
      portNumber (wordArg (word 19 10 1)) = some 0 ∧ portNumber (wordArg (word 19 10 16)) = some 15 ∧
      ((withPort (fun r => { r with state := .locked }) line).ports.get 0).state = .locked ∧
      ((withPort (fun r => { r with state := .locked }) line).ports.get 0).linkUp = true ∧
      ((withPort (fun r => { r with state := .locked, linkUp := false }) line).ports.get 0).linkUp = false ∧
      slotFree (generalCommand 21 0 decided) ∧ wordSeq (word 21 10 0) = 10 ∧
      taken (generalCommand 21 0 decided) processorTag (selGeneral .purge) = some (word 21 10 0) ∧
      slotFree (generalCommand 22 0 line) ∧ wordSeq (word 22 10 0) = 10 ∧
      taken (generalCommand 22 0 line) processorTag (selGeneral .lineResume) = some (word 22 10 0) :=
  ⟨⟨rfl, by decide, by decide⟩, by decide, by decide, by decide, by decide, by decide, by decide, by decide,
    ⟨rfl, by decide, by decide⟩, by decide, by decide, ⟨rfl, by decide, by decide⟩, by decide, by decide⟩

theorem witness_SnapshotTakenAndWritten :
    slotFree (generalCommand 20 0x100 line) ∧ wordSeq (word 20 10 0x100) = 10 ∧
      taken (generalCommand 20 0x100 line) processorTag (selGeneral .snapshot) = some (word 20 10 0x100) ∧
      (hall.cameras.get 0).present = true ∧ wordArg (word 20 10 0x100) % 256 = (0 : Fin 6).val ∧
      (snapping 2).config = some hall ∧ (snapping 2).path.ownAtMemory = own .snapshot :: [] ∧ (own .snapshot).requester = .snapshot ∧
      ((snapping 2).report.snapshot).map Snapshot.unanswered = some 2 ∧
      ((snapping 1).report.snapshot).map Snapshot.unanswered = some 1 :=
  ⟨⟨rfl, by decide, by decide⟩, by decide, by decide, by decide, by decide, rfl, rfl, rfl, rfl, rfl⟩

/-- A repeated sequence; a snapshot in flight; and the INVALID arguments at their boundaries: unit 24, port 0, port 17, camera 1. -/
theorem witness_GeneralSlotRefuses :
    let s (code arg : Nat) := generalCommand code arg line
    (s 16 0).config = some hall ∧
      (∀ p ∈ [(16, GeneralCommand.release), (17, .clearSuspect), (18, .accountClear), (19, .portClear), (20, .snapshot),
          (21, .purge), (22, .lineResume)],
        taken (s p.1 0) processorTag (selGeneral p.2) = some (word p.1 10 0) ∧ wordSeq (word p.1 10 0) = 10) ∧
      taken (s 9 0) processorTag selGeneralOther = some (word 9 10 0) ∧
      ({ s 16 0 with report := { line.report with lastSeq := some 10 } }).report.lastSeq = some 10 ∧
      (s 16 0).report.lastSeq ≠ some 10 ∧ (s 16 0).report.slot ≠ .inProgress ∧
      ({ s 16 0 with report := { line.report with slot := .inProgress } }).report.slot = .inProgress ∧
      (∀ u r, unitNumber (wordArg (word 16 10 0)) = some u → (s 16 0).robots.get u = some r → r.gate ≠ .arming) ∧
      24 ≤ wordArg (word 18 10 24) ∧ wordArg (word 19 10 0) = 0 ∧ 17 ≤ wordArg (word 19 10 17) ∧
      (∀ n : Fin 6, n.val = wordArg (word 20 10 1) % 256 → (hall.cameras.get n).present = false) := by
  refine ⟨rfl, by decide, by decide, rfl, by decide, by decide, rfl, ?_, by decide, by decide, by decide, by decide⟩
  intro u r hu hr
  obtain rfl : (0 : Fin 24) = u := Option.some.inj ((by decide : unitNumber (wordArg (word 16 10 0)) = some 0).symm.trans hu)
  obtain rfl : robot = r := Option.some.inj ((by decide : (generalCommand 16 0 line).robots.get 0 = some robot).symm.trans hr)
  decide

/-- The consumer word at the producer, at the consumer, and one past the producer; an answer into the ring and into the old one. -/
theorem witness_NoticeRingMoves :
    let s (v : Word) := withRecord 0 8 (.consumer v) { line with report := { line.report with producer := 2, consumer := 1 } }
    (s 2).given = [] ∧ taken (s 2) processorTag selConsumer = some 2 ∧
      ((2 : BitVec 32) - 2).toNat ≤ ((2 : BitVec 32) - 1).toNat ∧ ((2 : BitVec 32) - 1).toNat ≤ ((2 : BitVec 32) - 1).toNat ∧
      ¬ ((2 : BitVec 32) - 3).toNat ≤ ((2 : BitVec 32) - 1).toNat ∧
      (withOwn (own .notice) line).path.ownAtMemory = own .notice :: [] ∧ (own .notice).requester = .notice ∧
      (own .notice).oldRing = false ∧ ({ own .notice with oldRing := true } : OwnTxn).oldRing = true :=
  ⟨rfl, by decide, by decide, by decide, by decide, rfl, rfl, rfl, rfl⟩

/-- A notice that can be presented: the first NOTICE window, the ring with room for it, and full at 16 entries. -/
theorem witness_NoticePresented :
    let s (producer : BitVec 32) := { line with report := { line.report with notices := [notice], producer := producer } }
    (hall.windows.get 10).kind = .notice ∧ (∀ j : Fin 32, j < 10 → (hall.windows.get j).kind ≠ .notice) ∧
      (s 15).report.notices.head? = some notice ∧ ((s 15).report.producer - (s 15).report.consumer).toNat < hall.ringSize ∧
      ¬ ((s 16).report.producer - (s 16).report.consumer).toNat < hall.ringSize ∧
      (s 15).path.ownQueue ++ (s 15).path.ownAtMemory = [] ∧ (s 15).noticeToPresent ≠ none ∧ (s 16).noticeToPresent = none := by
  decide

/-- The control word of each kind; READING and IDLE; UNCONFIGURED, a line in production, and one at rest. -/
theorem witness_LoadRequestsJudged :
    taken (withControl 1 line) processorTag (selLoad .full) = some 1 ∧
      taken (withControl 2 line) processorTag (selLoad .parameter) = some 2 ∧
      taken (withControl 3 line) processorTag (selLoad .changeover) = some 3 ∧
      taken (withControl 4 line) processorTag selLoadOther = some 4 ∧ taken (withControl 255 line) processorTag selLoadOther = some 255 ∧
      line.loader.kind = none ∧ (loading .full []).loader.kind ≠ none ∧ dark.config = none ∧ line.config ≠ none ∧
      (line.robots.get 0).map Robot.gate = some .released ∧ marked.time.running = true ∧
      ((withRobot (fun r => { r with gate := .held }) line).time.running = false ∧
        ∀ u, ((withRobot (fun r => { r with gate := .held }) line).robots.get u).map Robot.gate ≠ some .released) :=
  ⟨by decide, by decide, by decide, by decide, by decide, rfl, by decide, rfl, nofun, by decide, rfl, by decide⟩

/-- An entry of `size` bytes, number `i`, moved to its place in its line. -/
def entry (size i : Nat) (fs : List Field) : List Field :=
  fs.map (Field.shift (size * i % 128))

/-- The fields of line `n` of the image of `hall`, at the offsets of 11.6; templates and timers' thresholds but unit 0's are 0. -/
def imageFields (n : Nat) : List Field :=
  if n = 0 then [⟨8, 4, 1⟩]
  else if n ≤ 4 then
    (List.finRange 32).flatMap fun i =>
      let w := hall.windows.get i
      if i.val / 8 + 1 = n then
        entry 16 i.val [⟨0, 1, w.kind.code⟩, ⟨1, 1, w.unit⟩, ⟨2, 2, w.writers.toNat⟩, ⟨4, 2, w.readers.toNat⟩, ⟨6, 4, w.base⟩,
          ⟨10, 4, w.size⟩]
      else []
  else if n ≤ 10 then
    (List.finRange 24).flatMap fun u =>
      let k := hall.units.get u
      if u.val / 4 + 5 = n then
        entry 32 u.val [⟨0, 1, k.kind.code⟩, ⟨1, 1, k.port⟩, ⟨2, 1, k.zone⟩, ⟨4, 1, k.safeCount⟩, ⟨5, 2, k.statusTimeout⟩,
          ⟨7, 2, k.staleLimit⟩, ⟨9, 2, k.vmin⟩, ⟨11, 2, k.vmax⟩, ⟨13, 2, k.slew⟩]
      else []
  else if n = 11 then (List.range 8).flatMap fun z => entry 8 z [⟨0, 1, 1⟩, ⟨2, 2, 1⟩, ⟨4, 2, 3⟩]
  else if n = 12 then (List.range 16).flatMap fun p => entry 8 p [⟨1, 1, 3⟩, ⟨2, 2, 400⟩, ⟨4, 2, 100⟩]
  else if n = 13 then
    entry 16 0 [⟨0, 1, 1⟩, ⟨1, 1, 1⟩, ⟨2, 1, 4⟩, ⟨3, 2, 20⟩, ⟨5, 2, 100⟩, ⟨7, 1, 1⟩] ++
      entry 16 1 [⟨0, 1, 0⟩, ⟨1, 1, 1⟩, ⟨2, 1, 4⟩, ⟨3, 2, 20⟩, ⟨5, 2, 100⟩, ⟨7, 1, 1⟩]
  else if n = 14 then [⟨0, 1, 1⟩]
  else if n ≤ 16 then
    (List.finRange 6).flatMap fun i =>
      let k := hall.cameras.get i
      if i.val / 4 + 15 = n then
        entry 32 i.val [⟨0, 1, bit k.present 0⟩, ⟨1, 1, k.unit⟩, ⟨2, 2, k.distance⟩, ⟨4, 1, k.halfWindow⟩, ⟨5, 1, 1⟩,
          ⟨6, 1, k.chainFirst⟩, ⟨7, 1, k.chainStep⟩, ⟨8, 1, k.chainLast⟩, ⟨9, 4, k.snapshotAddr⟩]
      else []
  else if n = 33 then [⟨0, 2, 50⟩, ⟨2, 2, 2000⟩, ⟨4, 8, 100000000⟩, ⟨12, 4, 2000⟩, ⟨16, 1, 16⟩, ⟨17, 2, 1⟩]
  else if n = 34 then [⟨0, 2, 16⟩]
  else []

/-- Line `n` of the image of `hall`. -/
def imageLine (n : Nat) : List Word :=
  recordWords (imageFields n) 0 16

/-- The image of `hall` reads as `hall`, but for the robot parameters of units that are no robots (11.6). -/
theorem test_image :
    let c := Image.config (imageOf .full ((List.range 128).map imageLine))
    c.windows = hall.windows ∧ c.units.get 0 = hall.units.get 0 ∧ (c.units.get 1).safeCount = 0 ∧ c.zones = hall.zones ∧
      c.ports = hall.ports ∧ c.gates = hall.gates ∧ c.fillCount = 1 ∧ c.cameras = hall.cameras ∧ c.timers = hall.timers ∧
      c.ringSize = 16 := by
  decide +kernel

/-- What an enumerated field without a code refuses (R173): load kind 4 in section 0, and class 4 of check 3 of template 1 in
section 8; a CHANGEOVER reads both. -/
theorem test_image_codes :
    let lines (n : Nat) (fs : List Field) := (List.range 17).map fun i => if i = n then recordWords fs 0 16 else imageLine 0
    let refused (n : Nat) (fs : List Field) := Image.validateTemplates (imageOf .changeover (lines n fs))
    refused 0 [⟨0, 1, 3⟩, ⟨8, 4, 1⟩] = none ∧
      refused 0 [⟨0, 1, 4⟩, ⟨8, 4, 1⟩] = some { code := .range, part := 0, entry := 0 } ∧
      refused 0 [⟨0, 1, 3⟩, ⟨8, 4, 2⟩] = some { code := .version, part := 0, entry := 0 } ∧
      refused 2 [⟨24, 1, 1⟩, ⟨28, 1, 3⟩] = none ∧
      refused 2 [⟨24, 1, 1⟩, ⟨28, 1, 4⟩] = some { code := .range, part := 8, entry := 19 } := by
  decide +kernel

/-- A read answered FAULT at the last line; a line with another after it, the first and the last such; a valid CHANGEOVER with no
zone OPEN and no slot of the other generation; a valid FULL image. -/
theorem witness_ConfigReadAnswered :
    let full (n : Nat) := loading .full ((List.range n).map imageLine)
    let change := loading .changeover (imageLine 0 :: List.replicate 15 (List.replicate 16 0))
    (full 0).path.ownAtMemory = own .config :: [] ∧ (own .config).requester = .config ∧ (full 0).loader.kind = some .full ∧
      change.loader.kind = some .changeover ∧
      LoadKind.full.lines[(full 127).loader.staged.length]? = some 127 ∧
      LoadKind.full.lines[((full 0).loader.staged ++ [imageLine 0]).length]? = some 1 ∧
      LoadKind.full.lines[((full 126).loader.staged ++ [imageLine 126]).length]? = some 127 ∧
      LoadKind.changeover.lines[change.loader.staged.length]? = some 32 ∧
      (change.loader.staged ++ [fitWords 16 []]).length = 17 ∧
      Image.validateTemplates (imageOf .changeover (change.loader.staged ++ [fitWords 16 []])) = none ∧
      (∀ z, (change.zones.get z).state ≠ .opened) ∧ (∀ q ∈ change.queue, q.generation = change.grading.generation) ∧
      ((full 127).loader.staged ++ [fitWords 16 (imageLine 127)]).length = 128 ∧
      Image.validateWhole (imageOf .full ((full 127).loader.staged ++ [fitWords 16 (imageLine 127)])) = none :=
  ⟨rfl, rfl, rfl, rfl, by decide +kernel, by decide +kernel, by decide +kernel, by decide, by decide, by decide +kernel,
    by decide, by decide, by decide +kernel, by decide +kernel⟩

/-- The last line of a PARAMETER load: of an image that is valid and differs from `hall` in nothing that R161 does not replace, of
one that fails a check, and of one that differs in the zones' spans; the first zone OPEN; a CHANGEOVER with a slot of the other bank
generation. A robot whose changed status timeout has run out. -/
theorem witness_ConfigReadAnsweredParameter :
    let lines (f : Nat → List Word) := (List.range 128).map f
    let image (f : Nat → List Word) := imageOf .parameter (lines f)
    let spans (n : Nat) :=
      if n = 11 then recordWords ((List.range 8).flatMap fun z => entry 8 z [⟨0, 1, 1⟩, ⟨2, 2, 1⟩, ⟨4, 2, 4⟩]) 0 16 else imageLine n
    let small (n : Nat) := if n = 34 then recordWords [⟨0, 2, 15⟩] 0 16 else imageLine n
    let force := Image.config (image imageLine)
    let bank := Image.bank (image imageLine)
    (loading .parameter ((List.range 127).map imageLine)).loader.kind = some .parameter ∧
      Image.validateWhole (image imageLine) = none ∧ mismatch force force bank bank = none ∧
      (Image.validateWhole (image small)).map Refused.code = some .range ∧
      Image.validateWhole (image spans) = none ∧
      (mismatch force (Image.config (image spans)) bank bank).map Refused.part = some 3 ∧
      (let s := zoneIn .opened line
       (s.zones.get 0).state = .opened ∧ ∀ y : Fin 8, y < 0 → (s.zones.get y).state ≠ .opened) ∧
      (∀ z, (line.zones.get z).state ≠ .opened) ∧
      (∃ q ∈ [{ slot 7 none with generation := true }], q.generation ≠ line.grading.generation) := by
  decide +kernel

theorem witness_ParameterApplied :
    let short : HallConfig := { hall with units := hall.units.modify 0 fun k => { k with statusTimeout := 50 } }
    line.Late hall short 0 robot ∧ ¬ line.Late hall hall 0 robot :=
  ⟨⟨by decide, by decide, 99950000000, rfl, by decide⟩, fun h => h.2.1 rfl⟩

end Sys2Proof.Tests
end

section
/-! SUPPORT. Which commands move what the time and tracking invariants read (chapters 1 and 2): the configuration, the time
unit and the bottle indices of the queue. Most commands leave all three; `State.track` holds them as one value, so that each
operation needs one frame lemma. -/

namespace Sys2Proof.Machine

/-! ## What every answer of a command satisfies -/

/-- Every next state that the outcome `o` can answer has property `P`. -/
def Answers (o : Host.Outcome State Fault Refusal) (P : State → Prop) : Prop :=
  ∀ t, o = .next t → P t

/-- A next state answered satisfies what is asked of it. -/
@[simp] theorem answers_next (t : State) (P : State → Prop) : Answers (.next t) P ↔ P t := by
  constructor
  · intro h
    exact h t rfl
  · rintro h _ ⟨⟩
    exact h

/-- A step that takes a record answers what acting on the record leaves, or the same state. -/
theorem State.taking_answers {α : Type} {s : State} {tag : Fin 32} {sel : Handover → Option α} {act : α → State → State}
    {P : State → Prop} (hs : P s) (hact : ∀ a s1, s.take tag sel = some (a, s1) → P (act a s1).settle) :
    Answers (s.taking tag sel act) P := by
  unfold State.taking
  split
  · simpa using hs
  · next a s1 h => simpa using hact a s1 h

/-! ## The frame -/

/-- What the invariants of chapters 1 and 2 read: the configuration, the time unit, and the bottles in the queue. -/
def State.track (s : State) : Option HallConfig × TimeUnit × List Bottle :=
  (s.config, s.time, s.queue.map Slot.bottle)

variable (s : State)

/-- States that agree in the three parts have the same track. -/
theorem State.track_congr {s t : State} (hc : t.config = s.config) (ht : t.time = s.time)
    (hq : t.queue.map Slot.bottle = s.queue.map Slot.bottle) : t.track = s.track := by
  simp only [State.track, hc, ht, hq]

/-- The configuration and the time unit are parts of the track, and so are the bottles. -/
theorem State.track_eq_iff {s t : State} :
    t.track = s.track ↔
      t.config = s.config ∧ t.time = s.time ∧ t.queue.map Slot.bottle = s.queue.map Slot.bottle := by
  simp only [State.track, Prod.mk.injEq]

/-- Changing slots without renaming their bottles keeps the bottles of the queue. -/
theorem map_bottle_map (f : Slot → Slot) (h : ∀ q, (f q).bottle = q.bottle) (l : List Slot) :
    (l.map f).map Slot.bottle = l.map Slot.bottle := by
  rw [List.map_map]
  exact List.map_congr_left fun q _ => h q

/-- A fold of operations that keep the track keeps it. -/
theorem State.foldl_track {α : Type} (f : State → α → State) (h : ∀ s a, (f s a).track = s.track) (l : List α) :
    (l.foldl f s).track = s.track := by
  induction l generalizing s with
  | nil => rfl
  | cons a l ih => rw [List.foldl_cons, ih, h]

/-! ### Small updates -/

@[simp] theorem State.onGrading_track (f : Grading → Grading) : (s.onGrading f).track = s.track := rfl
@[simp] theorem State.onReport_track (f : Report → Report) : (s.onReport f).track = s.track := rfl
@[simp] theorem State.onLoader_track (f : Loader → Loader) : (s.onLoader f).track = s.track := rfl
@[simp] theorem State.onPath_track (f : Path → Path) : (s.onPath f).track = s.track := rfl
@[simp] theorem State.onTable_track (f : TableState → TableState) : (s.onTable f).track = s.track := rfl
@[simp] theorem State.onRobot_track (u : Fin 24) (f : Robot → Robot) : (s.onRobot u f).track = s.track := rfl
@[simp] theorem State.onGate_track (g : Fin 2) (f : GateRec → GateRec) : (s.onGate g f).track = s.track := rfl
@[simp] theorem State.onZone_track (z : Fin 8) (f : Zone → Zone) : (s.onZone z f).track = s.track := rfl
@[simp] theorem State.onPort_track (p : Fin 16) (f : Port → Port) : (s.onPort p f).track = s.track := rfl
@[simp] theorem State.onCamera_track (n : Fin 6) (f : CameraRec → CameraRec) : (s.onCamera n f).track = s.track := rfl
@[simp] theorem State.onCounts_track (n : Fin 6) (f : CameraCounts → CameraCounts) : (s.onCounts n f).track = s.track := rfl
@[simp] theorem State.give_track (n : Notice) : (s.give n).track = s.track := rfl
@[simp] theorem State.present_track (o : OwnTxn) : (s.present o).track = s.track := rfl
@[simp] theorem State.setLevel_track (z : Fin 8) (b : Bool) : (s.setLevel z b).track = s.track := rfl
@[simp] theorem State.ownAnswered_track : s.ownAnswered.track = s.track := rfl

/-- A slot's change that keeps its bottle keeps the track. -/
theorem State.onSlot_track (b : Bottle) (f : Slot → Slot) (h : ∀ q, (f q).bottle = q.bottle) :
    (s.onSlot b f).track = s.track :=
  State.track_congr rfl rfl (map_bottle_map _ (fun q => by split <;> simp [h]) _)

/-- Taking a record moves the path alone. -/
theorem State.take_track {α : Type} {s s1 : State} {tag : Fin 32} {sel : Handover → Option α} {a : α}
    (h : s.take tag sel = some (a, s1)) : s1.track = s.track := by
  obtain ⟨f, left, -, -, rfl⟩ := State.take_spec s h
  rfl

/-! ### Shared operations -/

@[simp] theorem State.settle_track : s.settle.track = s.track := rfl
@[simp] theorem State.handOn_track : s.handOn.track = s.track := by simp [State.track]
@[simp] theorem State.addHold_track (g : Fin 2) (k : LineCause) (b : Option Bottle) :
    (s.addHold g k b).track = s.track := by simp [State.track]
@[simp] theorem State.dropLatched_track (g : Fin 2) : (s.dropLatched g).track = s.track := rfl
@[simp] theorem State.movePort_track (c : HallConfig) (p : Fin 16) (new : PortState) (reason : PortReason) :
    (s.movePort c p new reason).track = s.track := by simp [State.track]
@[simp] theorem State.countDenial_track (tag : Fin 32) : (s.countDenial tag).track = s.track := by simp [State.track]
@[simp] theorem State.confirmMembers_track (c : HallConfig) (z : Fin 8) : (s.confirmMembers c z).track = s.track := rfl
@[simp] theorem State.completeNow_track (z : Fin 8) (q : Byte) (code : Completion) :
    (s.completeNow z q code).track = s.track := rfl
@[simp] theorem State.completeEnter_track (z : Fin 8) (code : Completion) :
    (s.completeEnter z code).track = s.track := by simp [State.track]
@[simp] theorem State.completeAlone_track (z : Fin 8) (code : Completion) :
    (s.completeAlone z code).track = s.track := rfl

/-- Marking a span disturbed renames no bottle (R27). -/
@[simp] theorem State.markSpan_track (c : HallConfig) (z : Fin 8) : (s.markSpan c z).track = s.track := by
  refine State.track_congr (by simp) (by simp) ?_
  simp only [State.markSpan]
  split
  · exact map_bottle_map _ (fun q => by split <;> rfl) _
  · rfl

@[simp] theorem State.moveZone_track (c : HallConfig) (z : Fin 8) (new : ZoneState) :
    (s.moveZone c z new).track = s.track := by
  simp only [State.moveZone]
  split <;> simp

/-! ### Verdicts -/

@[simp] theorem State.giveGap_track (k : CameraCfg) (gap : Nat) : (s.giveGap k gap).track = s.track := by
  unfold State.giveGap
  split <;> simp

@[simp] theorem State.countUnplaced_track (n : Fin 6) (k : CameraCfg) (why : Unplaced) (b : Option Bottle)
    (d : BitVec 32) : (s.countUnplaced n k why b d).track = s.track := by
  simp only [State.countUnplaced]
  split <;> simp

/-- A verdict recorded in a slot keeps the slot's bottle (R38). -/
@[simp] theorem Slot.takeVerdict_bottle (q : Slot) (n : Fin 6) (r : Graded) (g : Option (Fin 2)) :
    (q.takeVerdict n r g).bottle = q.bottle := by
  cases g <;> rfl

@[simp] theorem State.recordPlaced_track (c : HallConfig) (n : Fin 6) (k : CameraCfg) (v : VerdictRec) (q : Slot) :
    (s.recordPlaced c n k v q).track = s.track := by
  simp only [State.recordPlaced]
  split <;> simp [State.onSlot_track]

@[simp] theorem State.placed_track (c : HallConfig) (n : Fin 6) (k : CameraCfg) (v : VerdictRec) :
    (s.placed c n k v).track = s.track := by
  unfold State.placed
  split
  · simp
  · split <;> simp

@[simp] theorem State.verdictTaken_track (n : Fin 6) (v : VerdictRec) : (s.verdictTaken n v).track = s.track := by
  unfold State.verdictTaken
  split
  · rfl
  · simp only
    split <;> simp

/-! ### Robots and gates -/

@[simp] theorem State.grantLater_track (c : HallConfig) (z : Fin 8) : (s.grantLater c z).track = s.track := by
  unfold State.grantLater
  split <;> simp

@[simp] theorem State.zoneTest_track (c : HallConfig) (z : Fin 8) (u : Fin 24) (old new : MachineState) :
    (s.zoneTest c z u old new).track = s.track := by
  unfold State.zoneTest
  simp only
  repeat' split
  all_goals simp

@[simp] theorem State.zoneSees_track (c : HallConfig) (u : Fin 24) (old new : MachineState) :
    (s.zoneSees c u old new).track = s.track := by
  unfold State.zoneSees
  split
  · split <;> simp
  · rfl

@[simp] theorem State.robotChanged_track (c : HallConfig) (u : Fin 24) (r r' : Robot) (f : StatusFrame) :
    (s.robotChanged c u r r' f).track = s.track := by
  simp only [State.robotChanged]
  split <;> simp

@[simp] theorem State.robotStatusTaken_track (u : Fin 24) (f : StatusFrame) :
    (s.robotStatusTaken u f).track = s.track := by
  unfold State.robotStatusTaken
  split
  · split <;> simp
  · rfl

@[simp] theorem State.loseRobot_track (u : Fin 24) (r : Robot) : (s.loseRobot u r).track = s.track := by
  simp only [State.loseRobot]
  split <;> simp

@[simp] theorem State.robotLost_track (c : HallConfig) (u : Fin 24) : (s.robotLost c u).track = s.track := by
  unfold State.robotLost
  split <;> simp

@[simp] theorem State.sequenceTaken_track (u : Fin 24) (q : Seq) : (s.sequenceTaken u q).track = s.track := by
  unfold State.sequenceTaken
  split
  · split <;> simp
  · rfl

@[simp] theorem State.staleTest_track (c : HallConfig) (u : Fin 24) : (s.staleTest c u).track = s.track := by
  unfold State.staleTest
  split
  · split <;> simp
  · rfl

@[simp] theorem State.forwardFrame_track (c : HallConfig) (u : Fin 24) (x : Txn) (data : List Word) :
    (s.forwardFrame c u x data).track = s.track := by
  unfold State.forwardFrame
  split <;> simp

/-- A confirmed decision keeps the slot's bottle (R72). -/
@[simp] theorem State.examine_track (g : Fin 2) (h : Bottle) (x : Bool) : (s.examine g h x).track = s.track := by
  unfold State.examine
  split <;> simp [State.onSlot_track, Slot.confirm]

@[simp] theorem State.takeReport_track (g : Fin 2) (f : StatusFrame) : (s.takeReport g f).track = s.track := by
  unfold State.takeReport
  split
  · rfl
  · split <;> simp

@[simp] theorem State.gateStatusTaken_track (g : Fin 2) (f : StatusFrame) :
    (s.gateStatusTaken g f).track = s.track := by
  unfold State.gateStatusTaken
  split
  · rfl
  · split <;> simp

@[simp] theorem State.gateLost_track (g : Fin 2) : (s.gateLost g).track = s.track := rfl

/-- A delivered decision keeps the slot's bottle (R71). -/
@[simp] theorem State.readGateFrame_track (c : HallConfig) (g : Fin 2) (x : Txn) (data : List Word) :
    (s.readGateFrame c g x data).track = s.track :=
  State.track_congr rfl rfl (map_bottle_map _ (fun q => by split <;> rfl) _)

/-! ### Zones -/

@[simp] theorem State.forceZone_track (c : HallConfig) (z : Fin 8) : (s.forceZone c z).track = s.track := by
  simp only [State.forceZone, State.confirmMembers_track]
  repeat' split
  all_goals simp

@[simp] theorem State.reopenZone_track (c : HallConfig) (z : Fin 8) : (s.reopenZone c z).track = s.track := rfl

@[simp] theorem State.guardOpened_track (c : HallConfig) (z : Fin 8) : (s.guardOpened c z).track = s.track := by
  unfold State.guardOpened
  split <;> simp

@[simp] theorem State.guardClosed_track (c : HallConfig) (z : Fin 8) : (s.guardClosed c z).track = s.track := by
  unfold State.guardClosed
  split <;> simp

@[simp] theorem State.accessExpired_track (c : HallConfig) (z : Fin 8) : (s.accessExpired c z).track = s.track := by
  unfold State.accessExpired
  split <;> simp

/-- A word received by a zone slot moves what its handling moves (R109). -/
theorem State.zoneReceives_track (z : Fin 8) (w : Word) (act : HallConfig → Byte → State → State)
    (h : ∀ c q s, (act c q s).track = s.track) : (s.zoneReceives z w act).track = s.track := by
  unfold State.zoneReceives
  split
  · rfl
  · split <;> simp [h]

theorem State.unlessPending_track (z : Fin 8) (act : State → State) (h : ∀ s, (act s).track = s.track) :
    (s.unlessPending z act).track = s.track := by
  unfold State.unlessPending
  split <;> simp [h]

@[simp] theorem State.requestZone_track (c : HallConfig) (z : Fin 8) (q : Byte) :
    (s.requestZone c z q).track = s.track := by
  simp only [State.requestZone, State.grantAtOnce]
  split <;> simp

@[simp] theorem State.enterZone_track (c : HallConfig) (z : Fin 8) (q : Byte) :
    (s.enterZone c z q).track = s.track := by
  unfold State.enterZone
  split
  · split <;> simp
  · simp

@[simp] theorem State.confirmZone_track (c : HallConfig) (z : Fin 8) (q : Byte) :
    (s.confirmZone c z q).track = s.track := by
  unfold State.confirmZone
  split <;> simp

@[simp] theorem State.extendZone_track (z : Fin 8) (q : Byte) : (s.extendZone z q).track = s.track := by
  simp only [State.extendZone]
  split <;> simp

@[simp] theorem State.cancelZone_track (c : HallConfig) (z : Fin 8) (q : Byte) :
    (s.cancelZone c z q).track = s.track := by
  unfold State.cancelZone
  split
  case h_3 => split <;> simp
  all_goals simp

@[simp] theorem State.returnToRun_track (c : HallConfig) (z : Fin 8) (q : Byte) :
    (s.returnToRun c z q).track = s.track := by
  unfold State.returnToRun
  split <;> simp

@[simp] theorem State.resetZone_track (c : HallConfig) (z : Fin 8) (q : Byte) :
    (s.resetZone c z q).track = s.track := by
  simp only [State.resetZone]
  split <;> simp

@[simp] theorem State.resumeZone_track (c : HallConfig) (z : Fin 8) (q : Byte) :
    (s.resumeZone c z q).track = s.track := by
  unfold State.resumeZone
  split <;> simp

/-! ### The general slot and the notice ring -/

@[simp] theorem State.completeGeneral_track (w : Word) (code : Completion) :
    (s.completeGeneral w code).track = s.track := rfl

/-- A word received by the general slot moves what its command moves (R164). -/
theorem State.generalReceives_track (w : Word) (act : HallConfig → State → State)
    (h : ∀ c s, (act c s).track = s.track) : (s.generalReceives w act).track = s.track := by
  unfold State.generalReceives
  split
  · rfl
  · split
    · rfl
    · simp only
      split
      · rfl
      · simp [h]

@[simp] theorem State.releaseTaken_track (c : HallConfig) (w : Word) : (s.releaseTaken c w).track = s.track := by
  unfold State.releaseTaken
  split
  · split <;> rfl
  · rfl

@[simp] theorem State.clearSuspectTaken_track (c : HallConfig) (w : Word) :
    (s.clearSuspectTaken c w).track = s.track := by
  unfold State.clearSuspectTaken
  split <;> simp

@[simp] theorem State.portClearTaken_track (c : HallConfig) (w : Word) : (s.portClearTaken c w).track = s.track := by
  unfold State.portClearTaken
  split
  · simp only [State.clearPort]
    split <;> simp
  · simp

/-- A purged slot keeps its bottle (R42). -/
@[simp] theorem State.purgeQueue_track : s.purgeQueue.track = s.track :=
  State.track_congr rfl rfl (map_bottle_map (fun q => { q with purged := true }) (fun _ => rfl) _)

@[simp] theorem State.resumeGate_track (c : HallConfig) (g : Fin 2) : (s.resumeGate c g).track = s.track := by
  unfold State.resumeGate
  split <;> simp

@[simp] theorem State.lineResumeTaken_track (c : HallConfig) (w : Word) : (s.lineResumeTaken c w).track = s.track := by
  simp [State.lineResumeTaken]

@[simp] theorem State.snapshotTaken_track (c : HallConfig) (w : Word) : (s.snapshotTaken c w).track = s.track := by
  unfold State.snapshotTaken
  split
  · simp only [State.startSnapshot]
    split <;> simp
  · simp

@[simp] theorem State.snapshotAnswered_track (k : Snapshot) (ok : Bool) :
    (s.snapshotAnswered k ok).track = s.track := by
  simp only [State.snapshotAnswered, State.snapshotSecond, State.snapshotDone]
  repeat' split
  all_goals rfl

@[simp] theorem State.noticeAnswered_track (o : OwnTxn) (ok : Bool) : (s.noticeAnswered o ok).track = s.track := by
  unfold State.noticeAnswered
  split <;> simp

/-! ### Ports -/

@[simp] theorem State.linkDown_track (c : HallConfig) (p : Fin 16) (reason : PortReason) :
    (s.linkDown c p reason).track = s.track := by
  simp only [State.linkDown]
  split <;> simp

@[simp] theorem State.linkUp_track (c : HallConfig) (p : Fin 16) : (s.linkUp c p).track = s.track := by
  simp only [State.linkUp]
  split <;> simp

@[simp] theorem State.applyEntry_track (c : HallConfig) (p : Fin 16) (e : TableEntry) :
    (s.applyEntry c p e).track = s.track := by
  simp only [State.applyEntry, State.applyLink]
  repeat' split
  all_goals simp

@[simp] theorem State.restartTable_track : s.restartTable.track = s.track := by
  simp only [State.restartTable]
  split <;> simp

@[simp] theorem State.tableTaken_track (b : List Byte) : (s.tableTaken b).track = s.track := by
  unfold State.tableTaken
  split
  · rfl
  · simp [State.foldl_track]

@[simp] theorem State.stalePort_track (c : HallConfig) (p : Fin 16) : (s.stalePort c p).track = s.track := by
  simp only [State.stalePort]
  split <;> simp

@[simp] theorem State.tableStale_track (c : HallConfig) : (s.tableStale c).track = s.track := by
  simp [State.tableStale, State.foldl_track]

@[simp] theorem State.enterListen_track (c : HallConfig) (p : Fin 16) (reason : PortReason) :
    (s.enterListen c p reason).track = s.track := by
  simp only [State.enterListen]
  split <;> simp

@[simp] theorem State.wouldQuarantine_track (p : Fin 16) (reason : PortReason) :
    (s.wouldQuarantine p reason).track = s.track := by
  unfold State.wouldQuarantine
  split <;> simp

@[simp] theorem State.violation_track (c : HallConfig) (p : Fin 16) : (s.violation c p).track = s.track := by
  simp only [State.violation]
  repeat' split
  all_goals simp

@[simp] theorem State.chargeBudget_track (c : HallConfig) (p : Fin 16) (w : Nat) :
    (s.chargeBudget c p w).track = s.track := by
  unfold State.chargeBudget
  split
  · simp
  · split <;> simp

@[simp] theorem State.writeAttempt_track (p : Fin 16) : (s.writeAttempt p).track = s.track := by
  unfold State.writeAttempt
  split <;> simp

/-! ### Transactions -/

@[simp] theorem State.forward_track (x : Txn) (how : Treatment) : (s.forward x how).track = s.track := rfl

@[simp] theorem State.refuse_track (x : Txn) : (s.refuse x).track = s.track := by simp [State.refuse]

@[simp] theorem State.treat_track (x : Txn) (how : Treatment) : (s.treat x how).track = s.track := by
  cases how <;> simp [State.treat, State.holdView]

@[simp] theorem State.portWrite_track (c : HallConfig) (p : Fin 16) (x : Txn) (how : Treatment) :
    (s.portWrite c p x how).track = s.track := by
  simp only [State.portWrite, State.countFragment]
  repeat' split
  all_goals simp

@[simp] theorem State.portPresents_track (c : HallConfig) (p : Fin 16) (x : Txn) :
    (s.portPresents c p x).track = s.track := by
  unfold State.portPresents
  repeat' split
  all_goals simp

@[simp] theorem State.agentPresents_track (c : HallConfig) (x : Txn) : (s.agentPresents c x).track = s.track := by
  unfold State.agentPresents
  repeat' split
  all_goals simp

@[simp] theorem State.presents_track (c : HallConfig) (x : Txn) : (s.presents c x).track = s.track := by
  unfold State.presents
  repeat' split
  all_goals simp

@[simp] theorem State.presentsUnconfigured_track (x : Txn) : (s.presentsUnconfigured x).track = s.track := by
  unfold State.presentsUnconfigured
  split <;> simp

@[simp] theorem State.respondOkay_track (f : Flight) (data : List Word) : (s.respondOkay f data).track = s.track := by
  unfold State.respondOkay
  repeat' split
  all_goals simp

/-! ### Load requests -/

@[simp] theorem State.recordOutcome_track (o : LoadOutcome) : (s.recordOutcome o).track = s.track := rfl

@[simp] theorem State.refuseLoad_track (k : LoadKind) (r : Refused) : (s.refuseLoad k r).track = s.track := rfl

@[simp] theorem State.loadApplied_track (k : LoadKind) : (s.loadApplied k).track = s.track := rfl

@[simp] theorem State.requestLoad_track (n : Nat) : (s.requestLoad n).track = s.track := by
  simp only [State.requestLoad]
  split <;> rfl

end Sys2Proof.Machine
end

section
/-! SUPPORT. The commands that leave the track alone: all but ten. -/

namespace Sys2Proof.Machine

/-- The commands that may move the configuration, the time unit or the bottles of the queue. -/
def movesTrack : Instr → Bool
  | .resetN _ => true
  | .pitchEdge => true
  | .stopTimerExpiry => true
  | .slewMove => true
  | .holdoverExpiry => true
  | .timeFrame _ => true
  | .accountSecond _ => true
  | .accountClear => true
  | .configReadAnswered _ _ => true
  | .referencePeriod => true
  | _ => false

/-- A record taken by an action that keeps the track keeps it. -/
theorem State.taking_track {α : Type} (s : State) (tag : Fin 32) (sel : Handover → Option α) (act : α → State → State)
    (h : ∀ a s, (act a s).track = s.track) : Answers (s.taking tag sel act) fun t => t.track = s.track :=
  State.taking_answers rfl fun a s1 h1 => by rw [State.settle_track, h, State.take_track h1]

/-- A zone command other than SENSE keeps the track when its handling does. -/
theorem State.zoneCommand_track (s : State) (z : Fin 8) (k : ZoneCommand) (act : HallConfig → Byte → State → State)
    (h : ∀ c q s, (act c q s).track = s.track) : Answers (s.zoneCommand z k act) fun t => t.track = s.track :=
  State.taking_track s _ _ _ fun w s => State.zoneReceives_track s z w _ fun c q s => State.unlessPending_track s z _ (h c q)

/-- A general command keeps the track when its handling does. -/
theorem State.generalCommand_track (s : State) (k : GeneralCommand) (act : HallConfig → Word → State → State)
    (h : ∀ c w s, (act c w s).track = s.track) : Answers (s.generalCommand k act) fun t => t.track = s.track :=
  State.taking_track s _ _ _ fun w s => State.generalReceives_track s w _ fun c s => h c w s

theorem execRobotCommandRead_track (tag : Fin 32) (data : List Word) (s : State) :
    Answers (execRobotCommandRead tag data s) fun t => t.track = s.track := by
  unfold execRobotCommandRead
  repeat' split
  all_goals simp

theorem execGateCommandRead_track (tag : Fin 32) (data : List Word) (s : State) :
    Answers (execGateCommandRead tag data s) fun t => t.track = s.track := by
  unfold execGateCommandRead
  repeat' split
  all_goals simp

theorem execGuardOpen_track (z : Fin 8) (s : State) : Answers (execGuardOpen z s) fun t => t.track = s.track := by
  unfold execGuardOpen
  repeat' split
  all_goals simp

theorem execGuardClosed_track (z : Fin 8) (s : State) : Answers (execGuardClosed z s) fun t => t.track = s.track := by
  unfold execGuardClosed
  repeat' split
  all_goals simp

theorem execRobotStatusTimeout_track (u : Fin 24) (s : State) :
    Answers (execRobotStatusTimeout u s) fun t => t.track = s.track := by
  unfold execRobotStatusTimeout
  repeat' split
  all_goals simp

theorem execGateStatusTimeout_track (g : Fin 2) (s : State) :
    Answers (execGateStatusTimeout g s) fun t => t.track = s.track := by
  unfold execGateStatusTimeout
  repeat' split
  all_goals simp

theorem execAccessTimerExpiry_track (z : Fin 8) (s : State) :
    Answers (execAccessTimerExpiry z s) fun t => t.track = s.track := by
  unfold execAccessTimerExpiry
  repeat' split
  all_goals simp

theorem execClearingWindowExpiry_track (z : Fin 8) (s : State) :
    Answers (execClearingWindowExpiry z s) fun t => t.track = s.track := by
  unfold execClearingWindowExpiry
  repeat' split
  all_goals simp

theorem execTableTimerExpiry_track (s : State) :
    Answers (execTableTimerExpiry s) fun t => t.track = s.track := by
  unfold execTableTimerExpiry
  repeat' split
  all_goals simp

theorem execSilenceExpiry_track (p : Fin 16) (s : State) :
    Answers (execSilenceExpiry p s) fun t => t.track = s.track := by
  unfold execSilenceExpiry
  repeat' split
  all_goals simp

theorem execUpstreamTransaction_track (x : Txn) (b : Bool) (s : State) :
    Answers (execUpstreamTransaction x b s) fun t => t.track = s.track := by
  simp only [execUpstreamTransaction]
  split <;> simp only [answers_next, State.settle_track, State.presents_track, State.presentsUnconfigured_track] <;> rfl

theorem execForwardedResponse_track (tag : Fin 32) (ok : Bool) (data : List Word) (s : State) :
    Answers (execForwardedResponse tag ok data s) fun t => t.track = s.track := by
  unfold execForwardedResponse
  repeat' split
  all_goals simp

theorem execViewRead_track (b : Bool) (s : State) : Answers (execViewRead b s) fun t => t.track = s.track := by
  unfold execViewRead
  repeat' split
  · exact (answers_next _ _).2 rfl
  all_goals simp

theorem execMailboxRead_track (data : List Word) (s : State) :
    Answers (execMailboxRead data s) fun t => t.track = s.track := by
  unfold execMailboxRead
  repeat' split
  all_goals simp

theorem execSnapshotWriteAnswered_track (ok : Bool) (s : State) :
    Answers (execSnapshotWriteAnswered ok s) fun t => t.track = s.track := by
  unfold execSnapshotWriteAnswered
  split <;> simp

theorem execNoticeWriteAnswered_track (ok : Bool) (s : State) :
    Answers (execNoticeWriteAnswered ok s) fun t => t.track = s.track := by
  unfold execNoticeWriteAnswered
  split <;> simp

theorem execOtherCommandCode_track (slot : Fin 9) (s : State) :
    Answers (execOtherCommandCode slot s) fun t => t.track = s.track := by
  unfold execOtherCommandCode
  split
  · exact State.taking_track s _ _ _ fun w s => State.zoneReceives_track s _ w _ fun _ _ s =>
      State.unlessPending_track s _ _ fun _ => State.completeNow_track _ _ _ _
  · exact State.taking_track s _ _ _ fun w s => State.generalReceives_track s w _ fun _ _ => rfl

theorem execIntervalBoundary_track (s : State) : Answers (execIntervalBoundary s) fun t => t.track = s.track := by
  unfold execIntervalBoundary
  split
  · exact (answers_next _ _).2 rfl
  · simp

/-- Every command but the ten leaves the configuration, the time unit and the bottles of the queue. -/
theorem exec_track (i : Instr) (s : State) (hi : movesTrack i = false) : Answers (exec i s) fun t => t.track = s.track := by
  cases i with
  | resetN _ => cases hi
  | pitchEdge => cases hi
  | stopTimerExpiry => cases hi
  | slewMove => cases hi
  | holdoverExpiry => cases hi
  | timeFrame _ => cases hi
  | accountSecond _ => cases hi
  | accountClear => cases hi
  | configReadAnswered _ _ => cases hi
  | referencePeriod => cases hi
  | verdictRecord tag => exact State.taking_track s _ _ _ fun r s => State.verdictTaken_track s _ _
  | robotStatusFrame tag => exact State.taking_track s _ _ _ fun r s => State.robotStatusTaken_track s _ _
  | gateStatusFrame tag => exact State.taking_track s _ _ _ fun r s => State.gateStatusTaken_track s _ _
  | sequenceWrite u => exact State.taking_track s _ _ _ fun q s => State.sequenceTaken_track s _ _
  | robotStatusTimeout u => exact execRobotStatusTimeout_track u s
  | gateStatusTimeout g => exact execGateStatusTimeout_track g s
  | accessTimerExpiry z => exact execAccessTimerExpiry_track z s
  | clearingWindowExpiry z => exact execClearingWindowExpiry_track z s
  | tableTimerExpiry => exact execTableTimerExpiry_track s
  | silenceExpiry p => exact execSilenceExpiry_track p s
  | robotCommandRead tag data => exact execRobotCommandRead_track tag data s
  | gateCommandRead tag data => exact execGateCommandRead_track tag data s
  | guardRawChange z opened => exact (answers_next _ _).2 rfl
  | guardOpen z => exact execGuardOpen_track z s
  | guardClosed z => exact execGuardClosed_track z s
  | enter z => exact State.zoneCommand_track s _ _ _ fun c q s => State.enterZone_track s c z q
  | confirm z => exact State.zoneCommand_track s _ _ _ fun c q s => State.confirmZone_track s c z q
  | extend z => exact State.zoneCommand_track s _ _ _ fun c q s => State.extendZone_track s z q
  | cancel z => exact State.zoneCommand_track s _ _ _ fun c q s => State.cancelZone_track s c z q
  | reset z => exact State.zoneCommand_track s _ _ _ fun c q s => State.resetZone_track s c z q
  | resume z => exact State.zoneCommand_track s _ _ _ fun c q s => State.resumeZone_track s c z q
  | sense z => exact State.taking_track s _ _ _ fun w s => State.zoneReceives_track s z w _ fun _ _ _ => rfl
  | release => exact State.generalCommand_track s _ _ fun c w s => State.releaseTaken_track s c w
  | clearSuspect => exact State.generalCommand_track s _ _ fun c w s => State.clearSuspectTaken_track s c w
  | portClear => exact State.generalCommand_track s _ _ fun c w s => State.portClearTaken_track s c w
  | snapshot => exact State.generalCommand_track s _ _ fun c w s => State.snapshotTaken_track s c w
  | purge => exact State.generalCommand_track s _ _ fun _ w s => State.purgeQueue_track s
  | lineResume => exact State.generalCommand_track s _ _ fun c w s => State.lineResumeTaken_track s c w
  | otherCommandCode slot => exact execOtherCommandCode_track slot s
  | consumerWrite => exact State.taking_track s _ _ _ fun _ _ => rfl
  | switchTable => exact State.taking_track s _ _ _ fun b s => State.tableTaken_track s b
  | intervalBoundary => exact execIntervalBoundary_track s
  | upstreamTransaction x b => exact execUpstreamTransaction_track x b s
  | forwardedResponse tag ok data => exact execForwardedResponse_track tag ok data s
  | viewRead b => exact execViewRead_track b s
  | mailboxRead data => exact execMailboxRead_track data s
  | snapshotWriteAnswered ok => exact execSnapshotWriteAnswered_track ok s
  | noticeWriteAnswered ok => exact execNoticeWriteAnswered_track ok s
  | arbiterGrant => exact (answers_next _ _).2 rfl
  | fullLoad => exact State.taking_track s _ _ _ fun _ s => State.requestLoad_track s _
  | parameterLoad => exact State.taking_track s _ _ _ fun _ s => State.requestLoad_track s _
  | changeoverLoad => exact State.taking_track s _ _ _ fun _ s => State.requestLoad_track s _
  | otherLoadKind => exact State.taking_track s _ _ _ fun _ s => State.requestLoad_track s _

end Sys2Proof.Machine
end

section
/-! SUPPORT. What the ten commands that move the track do to it: `TrackStep` lists everything a step can do to the
configuration, the time unit and the bottles of the queue. -/

namespace Sys2Proof.Machine

/-! ## What an accepted image guarantees (R158, R161) -/

/-- No refusal is the first of a list in which each is absent. -/
theorem firstRefusal_eq_none (rs : List (Option Refused)) : firstRefusal rs = none ↔ ∀ r ∈ rs, r = none := by
  simp [firstRefusal, List.findSome?_eq_none_iff]

/-- A section refuses nothing when it lists no failure. -/
theorem refusal_eq_none (part : Nat) (fs : List Failure) : refusal part fs = none ↔ fs = [] := by
  rw [refusal, Option.map_eq_none_iff, firstFailure_eq_none]

/-- A check that is not listed as failing holds. -/
theorem fails_eq_nil (bad : Bool) (entry : Nat) (code : LoadCode) : fails bad entry code = [] ↔ bad = false := by
  cases bad <;> simp [fails]

/-- Entries that list no failure pass both checks. -/
theorem each_eq_nil {n : Nat} (range consistent : Fin n → Bool) (number : Fin n → Nat) :
    each range consistent number = [] ↔ ∀ i, range i = false ∧ consistent i = false := by
  simp [each, fails_eq_nil]

/-- Entries that list no difference agree. -/
theorem differing_eq_nil {n : Nat} (differs : Fin n → Bool) : differing differs = [] ↔ ∀ i, differs i = false := by
  simp [differing, fails_eq_nil]

/-- A validated image has a minimum pitch of at least 5 ms (11.6). -/
theorem validateWhole_minPitch {m : Image} (h : Image.validateWhole m = none) :
    1 ≤ (Image.config m).timers.minPitch := by
  have ht : checkTimers (Image.config m).timers = [] :=
    (refusal_eq_none 9 _).1 ((firstRefusal_eq_none _).1 h _ (by simp))
  simp only [checkTimers, List.append_eq_nil_iff, fails_eq_nil] at ht
  obtain ⟨hr, -⟩ := ht
  simp only [timersRange, outside, Bool.or_eq_false_iff, decide_eq_false_iff_not] at hr
  omega

/-- The farthest gate distance, gate by gate. -/
theorem HallConfig.farthest_eq (c : HallConfig) :
    c.farthest = max (if c.hasGate 0 then (c.gates.get 0).distance else 0)
      (if c.hasGate 1 then (c.gates.get 1).distance else 0) := by
  have h2 : List.finRange 2 = [0, 1] := rfl
  rw [HallConfig.farthest, h2, List.foldl_cons, List.foldl_cons, List.foldl_nil]
  split <;> split <;> simp

/-- A validated image has a retention depth of at most 511 (R65, R22). -/
theorem validateWhole_retention {m : Image} (h : Image.validateWhole m = none) : (Image.config m).retention ≤ 511 := by
  have hg : checkGates (Image.config m) = [] :=
    (refusal_eq_none 5 _).1 ((firstRefusal_eq_none _).1 h _ (by simp))
  simp only [checkGates, List.append_eq_nil_iff, each_eq_nil] at hg
  obtain ⟨hr, -⟩ := hg
  have hd : ∀ g, (Image.config m).hasGate g = true → ((Image.config m).gates.get g).distance ≤ 509 := by
    intro g hp
    have hp' : ((Image.config m).gates.get g).present = true := hp
    have := (hr g).1
    simp only [gateRange, hp', Bool.true_or, Bool.and_true, Bool.or_eq_false_iff, decide_eq_false_iff_not] at this
    omega
  rw [HallConfig.retention, HallConfig.farthest_eq]
  have h0 := hd 0
  have h1 := hd 1
  split <;> split <;> simp_all

/-- A PARAMETER image that differs in nothing R161 keeps has the gates' distances of the configuration in force. -/
theorem mismatch_retention {c new : HallConfig} {b image : Bank} (h : mismatch c new b image = none) :
    new.retention = c.retention := by
  have hg := (refusal_eq_none 5 (differing fun g => decide ((new.gates.get g).fixed ≠ (c.gates.get g).fixed))).1
    ((firstRefusal_eq_none _).1 h _ (by simp))
  rw [differing_eq_nil] at hg
  have hf : ∀ g, (new.gates.get g).fixed = (c.gates.get g).fixed := fun g => by simpa using hg g
  have hd : ∀ g, (new.gates.get g).distance = (c.gates.get g).distance := fun g => by
    simpa only [GateCfg.fixed] using congrArg GateCfg.distance (hf g)
  have hp : ∀ g, new.hasGate g = c.hasGate g := fun g => by
    simpa only [GateCfg.fixed, HallConfig.hasGate] using congrArg GateCfg.present (hf g)
  simp only [HallConfig.retention, HallConfig.farthest_eq, hd, hp]

/-! ## The time unit between marks -/

/-- From `t` to `t'` the time unit moves on without numbering a mark, its pitch log standing, and stays in its ranges. -/
structure TimeUnit.Runs (t t' : TimeUnit) : Prop where
  /-- The next index stands. -/
  index : t'.nextIndex = t.nextIndex
  /-- The newest bottle stands. -/
  newest : t'.newest = t.newest
  /-- The pitch log stands. -/
  log : t'.pitchLog = t.pitchLog
  /-- The ranges are kept. -/
  sound : t.Sound → t'.Sound

theorem TimeUnit.Runs.refl (t : TimeUnit) : t.Runs t := ⟨rfl, rfl, rfl, id⟩

theorem TimeUnit.Runs.trans {a b c : TimeUnit} (h : a.Runs b) (h' : b.Runs c) : a.Runs c :=
  ⟨h'.index.trans h.index, h'.newest.trans h.newest, h'.log.trans h.log, fun ha => h'.sound (h.sound ha)⟩

/-- From `s` to `t` the time unit moves on without a mark, and configuration and bottles stand. -/
structure State.Runs (s t : State) : Prop where
  /-- The configuration stands. -/
  config : t.config = s.config
  /-- The time unit moves on. -/
  time : s.time.Runs t.time
  /-- The bottles stand. -/
  bottles : t.queue.map Slot.bottle = s.queue.map Slot.bottle

/-- Where the track stands, nothing moves. -/
theorem State.Runs.of_track {s t : State} (h : t.track = s.track) : s.Runs t := by
  obtain ⟨hc, ht, hq⟩ := State.track_eq_iff.1 h
  exact ⟨hc, ht ▸ TimeUnit.Runs.refl _, hq⟩

theorem State.Runs.trans {a b c : State} (h : a.Runs b) (h' : b.Runs c) : a.Runs c :=
  ⟨h'.config.trans h.config, h.time.trans h'.time, h'.bottles.trans h.bottles⟩

/-- Moving on, then an operation that leaves the track. -/
theorem State.Runs.then_track {a b c : State} (h : a.Runs b) (h' : c.track = b.track) : a.Runs c :=
  h.trans (.of_track h')

/-- A fold of operations that move on moves on. -/
theorem State.Runs.foldl {α : Type} (f : State → α → State) (h : ∀ (s : State) (a : α), s.Runs (f s a)) (l : List α) (s : State) :
    s.Runs (l.foldl f s) := by
  induction l generalizing s with
  | nil => exact .of_track rfl
  | cons a l ih => exact (h s a).trans (ih (f s a))

/-- A change of the time unit alone. -/
theorem State.Runs.onTime {s : State} {f : TimeUnit → TimeUnit} (h : s.time.Runs (f s.time)) : s.Runs (s.onTime f) :=
  ⟨rfl, h, rfl⟩

/-- Hall time stays a 64-bit count, whatever a count out of range becomes (log 10). -/
theorem hallOf_lt (x : Int) : hallOf x < 2 ^ 64 := by
  unfold hallOf
  split
  · omega
  · exact Nat.mod_lt _ (by decide)

/-- Hall time is the exact count within its range. -/
theorem hallOf_of_mem {x : Int} (h0 : 0 ≤ x) (h1 : x < 2 ^ 64) : (hallOf x : Int) = x := by
  rw [hallOf, if_pos ⟨h0, h1⟩]
  exact Int.toNat_of_nonneg h0

/-- A saturating count stays in its width. -/
theorem satAdd_lt (bits n k : Nat) : satAdd bits n k < 2 ^ bits := by
  have := Nat.two_pow_pos bits
  unfold satAdd
  omega

/-- A change of one account that keeps its seconds in 32 bits. -/
theorem TimeUnit.Runs.account (t : TimeUnit) (u : Fin 24) (f : Account → Account)
    (h : (t.accounts.get u).seconds < 2 ^ 32 → (f (t.accounts.get u)).seconds < 2 ^ 32) :
    t.Runs { t with accounts := t.accounts.modify u f } where
  index := rfl
  newest := rfl
  log := rfl
  sound ht := { ht with
    seconds := fun v => by
      simp only [Table.get_modify]
      split
      · next e => exact e ▸ h (ht.seconds u)
      · exact ht.seconds v }

/-- An account changed within its width moves on. -/
theorem State.Runs.onAccount (s : State) (u : Fin 24) (f : Account → Account)
    (h : (s.time.accounts.get u).seconds < 2 ^ 32 → (f (s.time.accounts.get u)).seconds < 2 ^ 32) :
    s.Runs (s.onAccount u f) :=
  ⟨rfl, TimeUnit.Runs.account s.time u f h, rfl⟩

/-- A due flag set moves no index (R16). -/
theorem State.Runs.setDue (s : State) (u : Fin 24) : s.Runs (s.setDue u) :=
  (State.Runs.onAccount s u _ id).then_track rfl

/-- The line stopped moves no index (R14). -/
theorem State.Runs.stopLine (s : State) : s.Runs s.stopLine :=
  (State.Runs.onTime (f := fun t => { t with running := false, stopStart := none })
    ⟨rfl, rfl, rfl, fun h => { h with }⟩).then_track rfl

/-- The due flags re-tested move no index (R18). -/
theorem State.Runs.retestDues (s : State) (old : Option HallConfig) : s.Runs (s.retestDues old) := by
  refine State.Runs.foldl _ (fun s u => ?_) _ s
  have cleared := State.Runs.onAccount s u (fun a => { a with due := false }) id
  simp only [State.retestDue]
  split
  · exact .of_track rfl
  · split
    · exact cleared.trans (.setDue _ u)
    · exact cleared

/-- A reference period keeps the time unit in its ranges (R1, R2, R15). -/
theorem State.Runs.referencePeriod (s : State) : Answers (execReferencePeriod s) s.Runs := by
  refine (answers_next _ _).2 (State.Runs.onTime ⟨rfl, rfl, rfl, fun h => ?_⟩)
  have seconds : ∀ u, (if s.productive u then (s.time.accounts.get u).accumulate else s.time.accounts.get u).seconds <
      2 ^ 32 := by
    intro u
    simp only [Account.accumulate]
    repeat' split
    all_goals exact h.seconds u
  refine { h with hall := ?_, fraction := Nat.mod_lt _ (by norm_num), seconds := fun u => ?_ }
  · dsimp only
    exact hallOf_lt _
  · rw [Table.get_mapFin]
    exact seconds u

/-- A slew move keeps hall time a 64-bit count (R2). -/
theorem State.Runs.slewMove (s : State) : Answers (execSlewMove s) s.Runs := by
  unfold execSlewMove
  split
  · exact (answers_next _ _).2 (.onTime ⟨rfl, rfl, rfl, fun h => { h with hall := hallOf_lt _ }⟩)
  · exact (answers_next _ _).2 (.of_track rfl)

/-- The clock's fall to HOLDOVER moves no index (R9). -/
theorem State.Runs.holdoverExpiry (s : State) : Answers (execHoldoverExpiry s) s.Runs := by
  unfold execHoldoverExpiry
  split
  · have fallen : s.Runs (s.onTime fun t => { t with clock := .holdover, lastSeq := none, holdoverStart := none }) :=
      .onTime ⟨rfl, rfl, rfl, fun h => { h with }⟩
    exact (answers_next _ _).2 (fallen.then_track rfl)
  · exact (answers_next _ _).2 (.of_track rfl)

/-- The line's stop timer moves no index (R14). -/
theorem State.Runs.stopTimerExpiry (s : State) : Answers (execStopTimerExpiry s) s.Runs := by
  unfold execStopTimerExpiry
  split
  · exact (answers_next _ _).2 ((State.Runs.stopLine s).then_track rfl)
  · exact (answers_next _ _).2 (.of_track rfl)

/-- A second is added only below the largest count (R15). -/
theorem State.Runs.accountSecond (u : Fin 24) (s : State) : Answers (execAccountSecond u s) s.Runs := by
  unfold execAccountSecond
  split
  · next due =>
    simp only [State.secondDue, Bool.and_eq_true, decide_eq_true_eq] at due
    have added := State.Runs.onAccount s u Account.addSecond fun _ => by simp only [Account.addSecond]; omega
    simp only
    split
    · exact (answers_next _ _).2 ((added.trans (.setDue _ u)).then_track rfl)
    · exact (answers_next _ _).2 (added.then_track rfl)
  · exact (answers_next _ _).2 (.of_track rfl)

/-- An account cleared is one of no seconds (R17). -/
theorem State.Runs.accountClearTaken (s : State) (w : Word) : s.Runs (s.accountClearTaken w) := by
  unfold State.accountClearTaken
  split
  · exact (State.Runs.onAccount s _ _ fun _ => by decide).then_track rfl
  · exact .of_track rfl

theorem State.Runs.accountClear (s : State) : Answers (execAccountClear s) s.Runs := by
  refine State.taking_answers (.of_track rfl) fun w s1 h1 => ?_
  refine State.Runs.then_track ?_ (State.settle_track _)
  refine (State.Runs.of_track (State.take_track h1)).trans ?_
  unfold State.generalReceives
  split
  · exact .of_track rfl
  · simp only
    repeat' split
    · exact .of_track rfl
    · exact .of_track rfl
    · exact (State.Runs.of_track (State.onReport_track s1 _)).trans (.accountClearTaken _ w)

/-! ## What a step can do -/

/-- The bottles after the mark of bottle `k`: it joins, and the head leaves once it stands more than `depth` behind (R21, R22). -/
def bottlesAfter (depth : Nat) (k : Bottle) (bs : List Bottle) : List Bottle :=
  if depth < (k - (bs ++ [k]).headD k).toNat then (bs ++ [k]).tail else bs ++ [k]

/-- Everything that a command but RESET_N can do from `s` to `t` to the configuration, the time unit and the bottles of the
queue. -/
inductive TrackStep (s t : State) : Prop where
  /-- Time moves on between marks. -/
  | runs (h : s.Runs t)
  /-- A negative step of hall time empties the log and the queue (R6). -/
  | emptied (config : t.config = s.config) (time : { s.time with pitchLog := [] }.Runs t.time) (queue : t.queue = [])
  /-- A mark is accepted past the minimum pitch (R11, R12, R21). -/
  | marked (c : HallConfig) (before : s.config = some c) (config : t.config = some c)
      (pitch : s.time.glitchAt c.timers.minPitch = false) (time : t.time = s.time.acceptMark)
      (bottles : t.queue.map Slot.bottle = bottlesAfter c.retention s.time.nextIndex (s.queue.map Slot.bottle))
  /-- A FULL load of a valid image is applied (R160). -/
  | loaded (m : Image) (valid : Image.validateWhole m = none) (config : t.config = some (Image.config m))
      (time : s.time.reload.Runs t.time) (queue : t.queue = [])
  /-- A PARAMETER load of a valid image that agrees with the configuration in force is applied (R161). -/
  | replaced (old : HallConfig) (m : Image) (before : s.config = some old) (valid : Image.validateWhole m = none)
      (agrees : (Image.config m).retention = old.retention) (config : t.config = some (Image.config m))
      (time : s.time.Runs t.time) (bottles : t.queue.map Slot.bottle = s.queue.map Slot.bottle)

/-- Operations that leave the track may follow. -/
theorem TrackStep.then_track {s t t' : State} (h : TrackStep s t) (e : t'.track = t.track) : TrackStep s t' := by
  obtain ⟨hc, ht, hq⟩ := State.track_eq_iff.1 e
  have nil : t.queue = [] → t'.queue = [] := fun h => List.map_eq_nil_iff.1 (hq.trans (by rw [h]; rfl))
  cases h with
  | runs h => exact .runs (h.then_track e)
  | emptied config time queue => exact .emptied (hc.trans config) (ht ▸ time) (nil queue)
  | marked c before config pitch time bottles =>
    exact .marked c before (hc.trans config) pitch (ht.trans time) (hq.trans bottles)
  | loaded m valid config time queue => exact .loaded m valid (hc.trans config) (ht ▸ time) (nil queue)
  | replaced old m before valid agrees config time bottles =>
    exact .replaced old m before valid agrees (hc.trans config) (ht ▸ time) (hq.trans bottles)

/-- Operations that leave the track may go before. -/
theorem TrackStep.of_track {s s1 t : State} (e : s1.track = s.track) (h : TrackStep s1 t) : TrackStep s t := by
  obtain ⟨hc, ht, hq⟩ := State.track_eq_iff.1 e
  cases h with
  | runs h => exact .runs ((State.Runs.of_track e).trans h)
  | emptied config time queue => exact .emptied (config.trans hc) (ht ▸ time) queue
  | marked c before config pitch time bottles =>
    exact .marked c (hc ▸ before) config (ht ▸ pitch) (ht ▸ time) (by rw [← ht, ← hq]; exact bottles)
  | loaded m valid config time queue => exact .loaded m valid config (ht ▸ time) queue
  | replaced old m before valid agrees config time bottles =>
    exact .replaced old m (hc ▸ before) valid agrees config (ht ▸ time) (bottles.trans hq)

/-! ### Time frames -/

/-- The trim after a frame stays within its range (R7). -/
theorem trimAfter_mem {trim : Int} (lo : -200000 ≤ trim) (hi : trim ≤ 200000) (o interval : Int) :
    -200000 ≤ trimAfter trim o interval ∧ trimAfter trim o interval ≤ 200000 := by
  unfold trimAfter clampInt
  repeat' split
  all_goals omega

/-- The condition under which a frame's step empties the log and the queue (R6, R23). -/
def TimeUnit.empties (t : TimeUnit) (o : Int) : Prop :=
  clockAction (decide (t.clock = .none)) t.running o = .step ∧ o < 0

/-- A frame taken leaves the time unit in its ranges (R4 to R9). -/
theorem TimeUnit.takeFrame_sound {t : TimeUnit} (h : t.Sound) (seq : Seq) (o : Int) : (t.takeFrame seq o).Sound := by
  have trim : -200000 ≤ (t.takeFrame seq o).trim ∧ (t.takeFrame seq o).trim ≤ 200000 := by
    simp only [TimeUnit.takeFrame]
    split
    · exact trimAfter_mem h.trimLow h.trimHigh _ _
    · exact ⟨h.trimLow, h.trimHigh⟩
  have hall : (t.takeFrame seq o).hall < 2 ^ 64 := by
    simp only [TimeUnit.takeFrame]
    split
    · exact hallOf_lt _
    · exact h.hall
  have log : (t.takeFrame seq o).pitchLog.length ≤ 16 := by
    simp only [TimeUnit.takeFrame]
    split
    · exact Nat.zero_le _
    · exact h.log
  exact { h with hall := hall, trimLow := trim.1, trimHigh := trim.2, log := log }

/-- The pitch log after a frame taken (R6). -/
theorem TimeUnit.takeFrame_log (t : TimeUnit) (seq : Seq) (o : Int) [Decidable (t.empties o)] :
    (t.takeFrame seq o).pitchLog = if t.empties o then [] else t.pitchLog := by
  by_cases h : t.empties o
  · exact (if_pos h).trans (if_pos h).symm
  · exact (if_neg h).trans (if_neg h).symm

/-- A frame taken moves no index, and its log stands unless it is a negative step. -/
theorem TimeUnit.takeFrame_runs (t : TimeUnit) (seq : Seq) (o : Int) (h : ¬ t.empties o) :
    t.Runs (t.takeFrame seq o) := by
  classical
  exact ⟨rfl, rfl, by rw [TimeUnit.takeFrame_log, if_neg h], fun ht => TimeUnit.takeFrame_sound ht seq o⟩

/-- After a negative step the log is empty, and the rest as without a log before. -/
theorem TimeUnit.takeFrame_emptied (t : TimeUnit) (seq : Seq) (o : Int) (h : t.empties o) :
    { t with pitchLog := [] }.Runs (t.takeFrame seq o) := by
  classical
  have log := TimeUnit.takeFrame_log t seq o
  rw [if_pos h] at log
  refine ⟨rfl, rfl, log, fun ht => ?_⟩
  have same : ({ t with pitchLog := [] } : TimeUnit).takeFrame seq o = { t.takeFrame seq o with pitchLog := [] } := by
    simp only [TimeUnit.takeFrame, ite_self]
  have kept : { t.takeFrame seq o with pitchLog := [] } = t.takeFrame seq o := by rw [← log]
  rw [← kept, ← same]
  exact TimeUnit.takeFrame_sound ht seq o

/-- The notices of a frame leave the track. -/
@[simp] theorem State.giveFrameNotices_track (s : State) (u : Fin 24) (b : TimeUnit) (o : Int) (stamp : Nat) :
    (s.giveFrameNotices u b o stamp).track = s.track := by
  simp only [State.giveFrameNotices]
  repeat' split
  all_goals rfl

/-- A time frame handed to the time unit (R3 to R9). -/
theorem State.timeFrameTaken_trackStep (s : State) (u : Fin 24) (f : TimeFrame) :
    TrackStep s (s.timeFrameTaken u f) := by
  unfold State.timeFrameTaken
  split
  · exact .runs (.of_track rfl)
  · next c _ =>
    split
    · simp only
      refine TrackStep.then_track ?_ (State.giveFrameNotices_track _ _ _ _ _)
      by_cases e : s.time.empties (f.masterTime c - s.time.hall)
      · exact .emptied rfl (TimeUnit.takeFrame_emptied _ _ _ e) (if_pos e)
      · exact .runs ⟨rfl, TimeUnit.takeFrame_runs _ _ _ e, congrArg (List.map Slot.bottle) (if_neg e)⟩
    · exact .runs (.onTime ⟨rfl, rfl, rfl, fun h => { h with rejected := satAdd_lt 16 _ _ }⟩)

/-! ### Marks -/

@[simp] theorem State.markFirst_track (s : State) (c : HallConfig) (z : Fin 8) : (s.markFirst c z).track = s.track := by
  unfold State.markFirst
  split
  · exact State.onSlot_track s _ _ fun _ => rfl
  · rfl

@[simp] theorem State.markFirsts_track (s : State) (c : HallConfig) : (s.markFirsts c).track = s.track :=
  State.foldl_track s _ (fun s z => State.markFirst_track s c z) _

@[simp] theorem State.formAt_track (s : State) (c : HallConfig) (g : Fin 2) : (s.formAt c g).track = s.track := by
  unfold State.formAt
  repeat' split
  all_goals simp [State.onSlot_track]

@[simp] theorem State.checkGate_track (s : State) (c : HallConfig) (g : Fin 2) : (s.checkGate c g).track = s.track := by
  unfold State.checkGate
  simp only
  repeat' split
  all_goals simp

@[simp] theorem State.feedRing_track (s : State) (c : HallConfig) (u : Fin 24) (e : Bool) (b : Bottle) :
    (s.feedRing c u e b).track = s.track := by
  simp only [State.feedRing, State.latchSuspect]
  repeat' split
  all_goals simp

@[simp] theorem State.attribute_track (s : State) (c : HallConfig) : (s.attribute c).track = s.track := by
  unfold State.attribute
  repeat' split
  all_goals simp

@[simp] theorem State.decideMark_track (s : State) (c : HallConfig) : (s.decideMark c).track = s.track := by
  simp [State.decideMark]

@[simp] theorem State.applyChangeover_track (s : State) (k : Bottle) : (s.applyChangeover k).track = s.track := by
  unfold State.applyChangeover
  split <;> rfl

/-- A mark accepted starts the line and moves the time unit (R12). -/
@[simp] theorem State.acceptMark_track (s : State) :
    s.acceptMark.track = (s.config, s.time.acceptMark, s.queue.map Slot.bottle) := by
  simp only [State.acceptMark]
  split <;> rfl

/-- The leaving of the head, on the bottles of the queue (R22). -/
theorem State.leave_track (s : State) (c : HallConfig) (k : Bottle) (hk : s.time.newest = some k) :
    (s.leave c).track = (s.config, s.time,
      if c.retention < (k - (s.queue.map Slot.bottle).headD k).toNat then (s.queue.map Slot.bottle).tail
      else s.queue.map Slot.bottle) := by
  have pos : ∀ b, s.position b = (k - b).toNat := fun b => by simp [State.position, hk]
  unfold State.leave
  split
  · next h => simp [State.track, h]
  · next q qs h =>
    simp only [pos, h, List.map_cons, List.headD_cons, List.tail_cons]
    split <;> simp [State.track, h]

/-- The bottles after a mark is tracked (R21). -/
theorem State.trackMark_track (s : State) (c : HallConfig) (k : Bottle) (x : Nat) (hk : s.time.newest = some k) :
    (s.trackMark c k x).track = (s.config, s.time, bottlesAfter c.retention k (s.queue.map Slot.bottle)) := by
  obtain ⟨hc, ht, hq⟩ := State.track_eq_iff.1 (State.markFirsts_track (s.join c k x) c)
  have joined : (s.join c k x).queue.map Slot.bottle = s.queue.map Slot.bottle ++ [k] := by
    simp [State.join, State.joiningSlot]
  rw [State.trackMark, State.leave_track _ c k (by rw [ht]; exact hk), hc, ht, hq, joined]
  rfl

/-- The track after an accepted mark: the time unit's move, and the bottles (R12, R21). -/
theorem State.pitchMark_track (s : State) (c : HallConfig) :
    (s.pitchMark c).track =
      (s.config, s.time.acceptMark, bottlesAfter c.retention s.time.nextIndex (s.queue.map Slot.bottle)) := by
  have before : (s.acceptMark.applyChangeover s.time.nextIndex).track =
      (s.config, s.time.acceptMark, s.queue.map Slot.bottle) := by simp
  simp only [State.track, Prod.mk.injEq] at before
  obtain ⟨hc, ht, hq⟩ := before
  simp only [State.pitchMark, State.handOn_track, State.decideMark_track]
  rw [State.trackMark_track _ c _ _ (by rw [ht]; rfl), hc, ht, hq]

theorem execPitchEdge_trackStep (s : State) : Answers (execPitchEdge s) (TrackStep s) := by
  unfold execPitchEdge
  split
  · exact (answers_next _ _).2 (.runs (.of_track rfl))
  · next c hc =>
    split
    · exact (answers_next _ _).2 (.runs (.onTime ⟨rfl, rfl, rfl, fun h => { h with glitches := satAdd_lt 16 _ _ }⟩))
    · next hg =>
      have moved := State.pitchMark_track s c
      simp only [State.track, Prod.mk.injEq] at moved
      obtain ⟨config, time, bottles⟩ := moved
      refine (answers_next _ _).2 (TrackStep.then_track ?_ (State.settle_track _))
      exact .marked c hc (config.trans hc) (by simpa using hg) time bottles

/-! ### Loads -/

@[simp] theorem State.followGate_track (s : State) (c : HallConfig) (g : Fin 2) :
    (s.followGate c g).track = s.track := by
  simp [State.track]

/-- A FULL load applied: the new configuration, the time unit reloaded, an empty queue (R160). -/
theorem State.applyFull_runs (s : State) (c : HallConfig) (b : Bank) :
    ({ s with config := some c, time := s.time.reload, queue := [] } : State).Runs (s.applyFull c b) := by
  refine State.Runs.trans (.of_track ?_) (.retestDues _ s.config)
  have robots : ∀ s : State, (s.reloadRobots c).track = s.track := fun _ => rfl
  rw [robots, State.followGate_track, State.followGate_track]
  rfl

@[simp] theorem State.retestGate_track (s : State) (old new : HallConfig) (g : Fin 2) :
    (s.retestGate old new g).track = s.track := by
  unfold State.retestGate
  split <;> rfl

@[simp] theorem State.retestSuspect_track (s : State) (new : HallConfig) (u : Fin 24) :
    (s.retestSuspect new u).track = s.track := by
  unfold State.retestSuspect
  repeat' split
  all_goals rfl

@[simp] theorem State.retestSilence_track (s : State) (new : HallConfig) (p : Fin 16) :
    (s.retestSilence new p).track = s.track := by
  unfold State.retestSilence
  split <;> simp

/-- A changed stop time that has run out stops the line and moves no index (R14). -/
theorem State.Runs.retestStop (s : State) (old new : HallConfig) : s.Runs (s.retestStop old new) := by
  unfold State.retestStop
  split
  · exact .stopLine s
  · exact .of_track rfl

/-- A PARAMETER load applied: the new configuration, and the re-tests (R161). -/
theorem State.applyParameter_runs (s : State) (old new : HallConfig) :
    ({ s with config := some new } : State).Runs (s.applyParameter old new) := by
  have timed := (State.Runs.retestDues { s with config := some new } (some old)).trans (.retestStop _ old new)
  refine timed.then_track ?_
  simp [State.applyParameter, State.foldl_track]

/-- A staged image that is complete is refused, or applied (R158 to R162). -/
theorem State.finishLoad_trackStep (s : State) (k : LoadKind) (m : Image) : TrackStep s (s.finishLoad k m) := by
  unfold State.finishLoad
  split
  · exact .runs (.of_track rfl)
  · next accepted =>
    refine TrackStep.then_track ?_ (State.loadApplied_track _ k)
    cases k with
    | full =>
      obtain ⟨config, time, bottles⟩ := State.applyFull_runs s (Image.config m) (Image.bank m)
      exact .loaded m accepted config time (List.map_eq_nil_iff.1 bottles)
    | parameter =>
      cases hc : s.config with
      | none =>
        simp only [State.applyImage, hc]
        exact .runs (.of_track rfl)
      | some old =>
        simp only [State.imageRefusal, hc, firstRefusal_eq_none] at accepted
        have differs : mismatch old (Image.config m) s.grading.current (Image.bank m) = none := accepted _ (by simp)
        obtain ⟨config, time, bottles⟩ := State.applyParameter_runs s old (Image.config m)
        simp only [State.applyImage, hc]
        exact .replaced old m hc (accepted _ (by simp)) (mismatch_retention differs) config time bottles
    | changeover => exact .runs (.of_track rfl)

theorem execConfigReadAnswered_trackStep (ok : Bool) (data : List Word) (s : State) :
    Answers (execConfigReadAnswered ok data s) (TrackStep s) := by
  unfold execConfigReadAnswered
  split
  · next k _ _ =>
    split
    · refine (answers_next _ _).2 (TrackStep.then_track ?_ (State.settle_track _))
      refine TrackStep.of_track (State.ownAnswered_track s) ?_
      simp only [State.lineStaged]
      split
      · exact .runs (.of_track rfl)
      · exact State.finishLoad_trackStep _ k _
    · exact (answers_next _ _).2 (.runs (.of_track rfl))
  · exact (answers_next _ _).2 (.runs (.of_track rfl))

/-! ### Every command -/

/-- What any command but RESET_N can do to the track. -/
theorem exec_trackStep (i : Instr) (s : State) (hr : ∀ straps, i ≠ .resetN straps) :
    Answers (exec i s) (TrackStep s) := by
  cases hi : movesTrack i with
  | false => exact fun t h => .runs (.of_track (exec_track i s hi t h))
  | true =>
    have runs : ∀ {o}, Answers o s.Runs → Answers o (TrackStep s) := fun h t ht => .runs (h t ht)
    cases i with
    | resetN straps => exact absurd rfl (hr straps)
    | pitchEdge => exact execPitchEdge_trackStep s
    | stopTimerExpiry => exact runs (.stopTimerExpiry s)
    | slewMove => exact runs (.slewMove s)
    | holdoverExpiry => exact runs (.holdoverExpiry s)
    | timeFrame tag =>
      refine State.taking_answers (.runs (.of_track rfl)) fun r s1 h1 => ?_
      exact ((State.timeFrameTaken_trackStep s1 _ _).of_track (State.take_track h1)).then_track (State.settle_track _)
    | accountSecond u => exact runs (.accountSecond u s)
    | accountClear => exact runs (.accountClear s)
    | configReadAnswered ok data => exact execConfigReadAnswered_trackStep ok data s
    | referencePeriod => exact runs (.referencePeriod s)
    | _ => cases hi

/-- A step resets the part, or is one of the cases of `TrackStep` (the queue of commands is no part of the track). -/
theorem step_trackStep {s t : State} (h : step s = .next t) :
    (∃ s' straps, t = State.resetWith s' straps) ∨ TrackStep s t := by
  unfold step at h
  split at h
  · cases h
    exact .inr (.runs (.of_track rfl))
  · next i rest _ =>
    by_cases hr : ∃ straps, i = .resetN straps
    · obtain ⟨straps, rfl⟩ := hr
      cases h
      exact .inl ⟨_, straps, rfl⟩
    · rw [not_exists] at hr
      exact .inr (TrackStep.of_track (s1 := { s with pending := rest }) rfl (exec_trackStep i _ hr t h))

end Sys2Proof.Machine
end

section
/-! The invariants of the time unit and of the tracking queue (O4, O5): each case of `TrackStep` keeps them. -/

namespace Sys2Proof.Machine

/-! ## Chains -/

/-- The pitch log's law is one of neighbours. -/
theorem logOrdered_iff_isChain (l : List Mark) :
    logOrdered l ↔ l.IsChain fun a b => b.bottle = a.bottle + 1 ∧ a.time < b.time := by
  induction l with
  | nil => simp [logOrdered]
  | cons a l ih =>
    cases l with
    | nil => simp [logOrdered]
    | cons b l => simp [logOrdered, ih, and_assoc]

/-- The queue's law is one of neighbours. -/
theorem consecutive_iff_isChain (l : List Bottle) : consecutive l ↔ l.IsChain fun a b => b = a + 1 := by
  induction l with
  | nil => simp [consecutive]
  | cons a l ih =>
    cases l with
    | nil => simp [consecutive]
    | cons b l => simp [consecutive, ih]

/-- In a consecutive list the entry at place `i` is the head's bottle and `i` more. -/
theorem consecutive_getElem {b : Bottle} {l : List Bottle} (h : consecutive (b :: l)) (i : Nat)
    (hi : i < (b :: l).length) : (b :: l)[i] = b + BitVec.ofNat 32 i := by
  rw [consecutive_iff_isChain] at h
  induction i with
  | zero => simp
  | succ i ih =>
    rw [h.getElem i hi, ih (by omega), BitVec.add_assoc, BitVec.ofNat_add]
    rfl

/-- The head of a consecutive list that ends with `k`. -/
theorem consecutive_head {b k : Bottle} {l : List Bottle} (h : consecutive (b :: l)) (hk : (b :: l).getLast? = some k) :
    k - b = BitVec.ofNat 32 l.length := by
  have last := consecutive_getElem h l.length (by simp)
  rw [List.getLast?_eq_getElem?, List.getElem?_eq_getElem (by simp)] at hk
  have hk' : (b :: l)[l.length] = k := by simpa using hk
  rw [← hk', last, BitVec.add_comm, BitVec.add_sub_cancel]

/-! ## The time unit -/

/-- An accepted mark leaves the time unit in its ranges (R12, R13). -/
theorem TimeUnit.acceptMark_sound {t : TimeUnit} (h : t.Sound) : t.acceptMark.Sound := by
  have log : (logAdd t.pitchLog ⟨t.nextIndex, t.hall⟩).length ≤ 16 := by
    have := h.log
    unfold logAdd
    split <;> simp <;> omega
  exact { h with log := log }

/-- A FULL load leaves the time unit in its ranges (R10 to R14). -/
theorem TimeUnit.reload_sound {t : TimeUnit} (h : t.Sound) : t.reload.Sound :=
  { h with log := Nat.zero_le _, rejected := Nat.two_pow_pos 16, glitches := Nat.two_pow_pos 16 }

/-- The time unit after reset is in its ranges. -/
theorem reset_timeSound : State.reset.time.Sound := by
  have seconds : ∀ u, (State.reset.time.accounts.get u).seconds < 2 ^ 32 := fun u => by simp [State.reset]
  exact ⟨by decide, by decide, by decide, by decide, by decide, seconds, by decide, by decide⟩

/-- Whatever a step does to the track keeps the time unit in its ranges. -/
theorem TrackStep.timeSound {s t : State} (h : TrackStep s t) (hs : s.time.Sound) : t.time.Sound := by
  cases h with
  | runs h => exact h.time.sound hs
  | emptied config time queue => exact time.sound { hs with log := Nat.zero_le _ }
  | marked c before config pitch time bottles => exact time ▸ TimeUnit.acceptMark_sound hs
  | loaded m valid config time queue => exact time.sound (TimeUnit.reload_sound hs)
  | replaced old m before valid agrees config time bottles => exact time.sound hs

/-! ## The pitch log -/

/-- A mark past the minimum pitch continues the log (R11, R13). -/
theorem logOrdered_logAdd {log : List Mark} {m : Mark} (h : logOrdered log)
    (hm : ∀ a, log.getLast? = some a → m.bottle = a.bottle + 1 ∧ a.time < m.time) : logOrdered (logAdd log m) := by
  rw [logOrdered_iff_isChain] at h ⊢
  unfold logAdd
  split
  · exact h.append (.singleton m) (by simpa using hm)
  · next long =>
    refine (h.drop _).append (.singleton m) ?_
    have last : (log.drop (log.length - 15)).getLast? = log.getLast? := by
      rw [List.getLast?_drop, if_neg (by omega)]
    simpa [last] using hm

/-- The newest entry of a log to which a mark has been added. -/
theorem getLast?_logAdd (log : List Mark) (m : Mark) : (logAdd log m).getLast? = some m := by
  simp [logAdd]

/-- Whatever a step does to the track keeps the pitch log consecutive and strictly rising (R13). -/
theorem TrackStep.pitchLogSound {s t : State} (h : TrackStep s t) (hs : s.PitchLogSound) : t.PitchLogSound := by
  cases h with
  | runs h => exact ⟨h.time.log ▸ hs.order, h.time.log ▸ h.time.index ▸ hs.newest, h.config ▸ hs.pitch⟩
  | emptied config time queue =>
    have log : t.time.pitchLog = [] := time.log
    exact ⟨log ▸ trivial, by simp [log], config ▸ hs.pitch⟩
  | marked c before config pitch time bottles =>
    refine ⟨?_, ?_, ?_⟩
    · rw [time]
      refine logOrdered_logAdd hs.order fun a ha => ⟨(hs.newest a ha).symm, ?_⟩
      have hp := hs.pitch c before
      simp only [TimeUnit.glitchAt, ha, ms] at pitch
      have past := of_decide_eq_false pitch
      change a.time < s.time.hall
      omega
    · rw [time]
      intro m hm
      rw [show s.time.acceptMark.pitchLog = logAdd s.time.pitchLog ⟨s.time.nextIndex, s.time.hall⟩ from rfl,
        getLast?_logAdd] at hm
      obtain rfl := Option.some.inj hm
      rfl
    · rw [config, ← before]
      exact hs.pitch
  | loaded m valid config time queue =>
    have log : t.time.pitchLog = [] := time.log
    exact ⟨log ▸ trivial, by simp [log], by simp [config, validateWhole_minPitch valid]⟩
  | replaced old m before valid agrees config time bottles =>
    exact ⟨time.log ▸ hs.order, time.log ▸ time.index ▸ hs.newest, by simp [config, validateWhole_minPitch valid]⟩

/-- Settles O4: every case of `TrackStep` keeps the ranges of the time unit and the law of the pitch log. -/
theorem stepKeepsTimeSound : Obligations.StepKeepsTimeSound := by
  intro s t h
  rcases step_trackStep h with ⟨s', straps, rfl⟩ | moved
  · exact ⟨fun _ => reset_timeSound, fun _ => ⟨trivial, by simp [State.resetWith, State.reset], nofun⟩⟩
  · exact ⟨moved.timeSound, moved.pitchLogSound⟩

/-! ## The tracking queue -/

/-- The queue's laws, on its bottles. -/
theorem State.queueSound_iff (s : State) :
    s.QueueSound ↔ consecutive (s.queue.map Slot.bottle) ∧
      (s.queue.map Slot.bottle = [] ∨ (s.queue.map Slot.bottle).getLast? = s.time.newest) ∧
      (s.time.newest = none ∨ s.time.newest = some (s.time.nextIndex - 1)) := by
  rw [List.map_eq_nil_iff, List.getLast?_map]
  exact ⟨fun h => ⟨h.order, h.tail, h.next⟩, fun ⟨order, tail, next⟩ => ⟨order, tail, next⟩⟩

/-- A state without slots and marks has a sound queue. -/
theorem State.queueSound_of_nil {s : State} (hq : s.queue = []) (hn : s.time.newest = none) : s.QueueSound :=
  ⟨by rw [hq]; trivial, .inl hq, .inl hn⟩

/-- The bottle that joins follows the tail of a sound queue (R12, R21). -/
theorem State.QueueSound.joined {s : State} (h : s.QueueSound) :
    consecutive (s.queue.map Slot.bottle ++ [s.time.nextIndex]) := by
  obtain ⟨order, tail, next⟩ := (State.queueSound_iff s).1 h
  rw [consecutive_iff_isChain] at order ⊢
  refine order.append (.singleton _) ?_
  intro b hb k hk
  obtain rfl : s.time.nextIndex = k := by simpa using hk
  rcases tail with e | e
  · rw [e] at hb
    cases hb
  · rcases next with n | n
    · rw [Option.mem_def, e, n] at hb
      cases hb
    · rw [Option.mem_def, e, n] at hb
      obtain rfl := Option.some.inj hb
      rw [BitVec.sub_add_cancel]

/-- The bottles after the mark of `k` where `b` stands at the head. -/
theorem bottlesAfter_cons (depth : Nat) (k b : Bottle) (bs : List Bottle) :
    bottlesAfter depth k (b :: bs) = if depth < (k - b).toNat then bs ++ [k] else b :: bs ++ [k] := rfl

/-- The bottles after a mark are consecutive and end with the marked one (R21, R22). -/
theorem bottlesAfter_sound {bs : List Bottle} {k : Bottle} (depth : Nat) (h : consecutive (bs ++ [k])) :
    consecutive (bottlesAfter depth k bs) ∧ (bottlesAfter depth k bs).getLast? = some k := by
  cases bs with
  | nil => simp [bottlesAfter, consecutive]
  | cons b bs =>
    rw [bottlesAfter_cons, consecutive_iff_isChain]
    rw [consecutive_iff_isChain] at h
    split
    · exact ⟨h.tail, by simp⟩
    · exact ⟨h, List.getLast?_concat (l := b :: bs)⟩

/-- Of at most 512 bottles in the queue one more joins, and the head has left if that makes more than the depth and one. -/
theorem bottlesAfter_length {bs : List Bottle} {k : Bottle} {depth : Nat} (h : consecutive (bs ++ [k]))
    (hb : bs.length ≤ depth + 1) (hd : depth ≤ 511) : (bottlesAfter depth k bs).length ≤ depth + 1 := by
  cases bs with
  | nil => simp [bottlesAfter]
  | cons b bs =>
    have head : k - b = BitVec.ofNat 32 (bs ++ [k]).length :=
      consecutive_head h (List.getLast?_concat (l := b :: bs))
    simp only [List.length_cons] at hb
    rw [bottlesAfter_cons, head, BitVec.toNat_ofNat, List.length_append, List.length_singleton]
    split <;> simp <;> omega

/-- Whatever a step does to the track keeps the queue sound (R12, R19). -/
theorem TrackStep.queueSound {s t : State} (h : TrackStep s t) (hs : s.QueueSound) : t.QueueSound := by
  obtain ⟨order, tail, next⟩ := (State.queueSound_iff s).1 hs
  cases h with
  | runs h =>
    rw [State.queueSound_iff, h.bottles, h.time.newest, h.time.index]
    exact ⟨order, tail, next⟩
  | emptied config time queue =>
    refine ⟨by rw [queue]; trivial, .inl queue, ?_⟩
    rw [time.newest, time.index]
    exact next
  | marked c before config pitch time bottles =>
    obtain ⟨order', last⟩ := bottlesAfter_sound c.retention hs.joined
    rw [State.queueSound_iff, bottles, time]
    refine ⟨order', .inr last, .inr ?_⟩
    change some s.time.nextIndex = some (s.time.nextIndex + 1 - 1)
    rw [BitVec.add_sub_cancel]
  | loaded m valid config time queue => exact State.queueSound_of_nil queue time.newest
  | replaced old m before valid agrees config time bottles =>
    rw [State.queueSound_iff, bottles, time.newest, time.index]
    exact ⟨order, tail, next⟩

/-- A state with configuration `c` whose queue and retention depth are within their bounds. -/
theorem State.queueBounded_of_some {t : State} {c : HallConfig} (hc : t.config = some c)
    (length : (t.queue.map Slot.bottle).length ≤ c.retention + 1) (depth : c.retention ≤ 511) : t.QueueBounded := by
  rw [List.length_map] at length
  exact ⟨fun c' h => by rw [hc] at h; cases h; exact length, fun c' h => by rw [hc] at h; cases h; exact depth⟩

/-- Whatever a step does to the track keeps the queue within the retention depth and one slot (R22). -/
theorem TrackStep.queueBounded {s t : State} (h : TrackStep s t) (hq : s.QueueSound) (hs : s.QueueBounded) :
    t.QueueBounded := by
  cases h with
  | runs h =>
    have length : t.queue.length = s.queue.length := by simpa using congrArg List.length h.bottles
    exact ⟨fun c hc => length ▸ hs.length c (h.config ▸ hc), fun c hc => hs.depth c (h.config ▸ hc)⟩
  | emptied config time queue =>
    exact ⟨fun c hc => by simp [queue], fun c hc => hs.depth c (config ▸ hc)⟩
  | marked c before config pitch time bottles =>
    have length := hs.length c before
    have depth := hs.depth c before
    refine State.queueBounded_of_some config ?_ depth
    rw [bottles]
    exact bottlesAfter_length hq.joined (by simpa using length) depth
  | loaded m valid config time queue =>
    exact State.queueBounded_of_some config (by simp [queue]) (validateWhole_retention valid)
  | replaced old m before valid agrees config time bottles =>
    refine State.queueBounded_of_some config ?_ (validateWhole_retention valid)
    rw [bottles, agrees, List.length_map]
    exact hs.length old before

/-- A bounded queue holds at most 512 slots. -/
theorem State.QueueBounded.length_le {t : State} (h : t.QueueBounded) (hc : t.config ≠ none) : t.queue.length ≤ 512 := by
  obtain ⟨c, hc⟩ := Option.ne_none_iff_exists'.1 hc
  have := h.length c hc
  have := h.depth c hc
  omega

/-- Settles O5: every case of `TrackStep` keeps the queue consecutive, ending at newest, and within its bound. -/
theorem stepKeepsQueueSound : Obligations.StepKeepsQueueSound := by
  intro s t hq h
  rcases step_trackStep h with ⟨s', straps, rfl⟩ | moved
  · exact ⟨State.queueSound_of_nil rfl rfl, fun _ => ⟨⟨nofun, nofun⟩, fun hc => absurd rfl hc⟩⟩
  · refine ⟨moved.queueSound hq, fun hs => ?_⟩
    have bounded := moved.queueBounded hq hs
    exact ⟨bounded, bounded.length_le⟩

/-! ## The state after reset -/

/-- Settles O3: after reset there is no configuration, robot or gate, and every other block holds its first values. -/
theorem resetIsSound : Obligations.ResetIsSound := by
  have config : State.reset.config = none := rfl
  have robots : ∀ u, State.reset.robots.get u = none := fun u => by simp [State.reset]
  have gates : ∀ g, State.reset.gates.get g = none := fun g => by simp [State.reset]
  have zones : ∀ z, State.reset.zones.get z = Zone.fresh := fun z => by simp [State.reset]
  have ports : ∀ p, State.reset.ports.get p = Port.fresh := fun p => by simp [State.reset]
  have cameras : ∀ n, State.reset.grading.cameras.get n = CameraRec.fresh := fun n => by simp [State.reset]
  have flights : State.reset.path.Ordered := fun tag f h => by cases h
  refine ⟨reset_timeSound, ⟨trivial, by simp [State.reset], by simp [config]⟩, State.queueSound_of_nil rfl rfl,
    ⟨by simp [config], by simp [config]⟩, fun u r h => by simp [robots] at h, fun h => absurd config h, fun z => ?_,
    fun p => ?_, ⟨rfl, rfl, by decide, by decide, by decide, fun _ => rfl, flights⟩,
    ⟨by decide, rfl, by decide, by decide⟩,
    ⟨fun _ => robots, fun _ => gates, fun _ => rfl, fun _ => rfl, fun _ => ⟨rfl, rfl, rfl⟩, fun _ => rfl, fun _ => rfl⟩,
    ⟨by simp [config], by simp [config]⟩, ⟨fun n _ => ?_, fun k h => by cases h⟩⟩
  · rw [zones]
    exact ⟨by decide, by decide, by decide, by decide, by decide⟩
  · rw [ports]
    exact ⟨by decide, by decide, by decide, by decide, by decide, by decide, by decide, by decide, by decide⟩
  · rw [cameras]
    exact ⟨rfl, rfl, rfl, Nat.le_refl _, Nat.le_refl _⟩

end Sys2Proof.Machine
end

section
/-! The invariant of the UNCONFIGURED part (O11): once configured the part stays so until RESET_N, and while UNCONFIGURED no
command finds a configuration, a robot or a gate to act on. -/

namespace Sys2Proof.Machine

/-! ## A configured part stays configured -/

/-- No command but RESET_N takes the configuration away. -/
theorem TrackStep.configured {s t : State} (h : TrackStep s t) (hs : s.config ≠ none) : t.config ≠ none := by
  cases h with
  | runs h => exact h.config ▸ hs
  | emptied config time queue => exact config ▸ hs
  | marked c before config pitch time bottles => simp [config]
  | loaded m valid config time queue => simp [config]
  | replaced old m before valid agrees config time bottles => simp [config]

/-! ## The bare part -/

/-- The part without configuration, robots, gates, slots, causes and marks, ATTENTION low and no notice write presented. -/
structure State.Bare (s : State) : Prop where
  /-- UNCONFIGURED. -/
  config : s.config = none
  /-- No robot. -/
  robots : ∀ u, s.robots.get u = none
  /-- No gate. -/
  gates : ∀ g, s.gates.get g = none
  /-- No slot. -/
  queue : s.queue = []
  /-- No line-hold cause. -/
  lineHold : s.lineHold = 0
  /-- The line is STOPPED without a mark. -/
  line : s.time.running = false ∧ s.time.newest = none ∧ s.time.pitchLog = []
  /-- ATTENTION is low. -/
  attention : s.report.producer = s.report.consumer
  /-- No notice write. -/
  notice : s.path.noticeOut = false

/-- The invariant says that an UNCONFIGURED part is bare. -/
theorem State.unconfiguredSound_iff (s : State) : s.UnconfiguredSound ↔ (s.config = none → s.Bare) := by
  constructor
  · intro h hc
    exact ⟨hc, h.robots hc, h.gates hc, h.queue hc, h.lineHold hc, h.line hc,
      by simpa [State.attention] using h.attention hc, h.notice hc⟩
  · intro h
    exact ⟨fun hc => (h hc).robots, fun hc => (h hc).gates, fun hc => (h hc).queue, fun hc => (h hc).lineHold,
      fun hc => (h hc).line, fun hc => by simp [State.attention, (h hc).attention], fun hc => (h hc).notice⟩

/-- The part after RESET_N is bare (R153). -/
theorem State.resetWith_bare (s : State) (straps : BitVec 4) : (s.resetWith straps).Bare where
  config := rfl
  robots u := by simp [State.resetWith, State.reset]
  gates g := by simp [State.resetWith, State.reset]
  queue := rfl
  lineHold := rfl
  line := ⟨rfl, rfl, rfl⟩
  attention := rfl
  notice := rfl

/-! ### Operations that keep the part bare -/

namespace State.Bare

variable {s : State}

/-- The path moves without a notice write presented. -/
theorem onPath (h : s.Bare) {f : Path → Path} (hf : (f s.path).noticeOut = false) : (s.onPath f).Bare :=
  { h with notice := hf }

/-- A change of the time unit that leaves line and marks. -/
theorem onTime (h : s.Bare) {f : TimeUnit → TimeUnit}
    (hf : (f s.time).running = false ∧ (f s.time).newest = none ∧ (f s.time).pitchLog = []) : (s.onTime f).Bare :=
  { h with line := hf }

/-- A change of the report unit that leaves ATTENTION low. -/
theorem onReport (h : s.Bare) {f : Report → Report} (hf : (f s.report).producer = (f s.report).consumer) :
    (s.onReport f).Bare :=
  { h with attention := hf }

theorem onLoader (h : s.Bare) (f : Loader → Loader) : (s.onLoader f).Bare := { h with }

theorem onGrading (h : s.Bare) (f : Grading → Grading) : (s.onGrading f).Bare := { h with }

theorem give (h : s.Bare) (n : Notice) : (s.give n).Bare := { h with }

theorem giveCommandCompletion (h : s.Bare) (n : Nat) (q : Byte) (code : Completion) :
    (s.giveCommandCompletion n q code).Bare := h.give _

theorem setLevel (h : s.Bare) (z : Fin 8) (b : Bool) : (s.setLevel z b).Bare := { h with }

/-- An own transaction that is no notice write may be presented. -/
theorem present (h : s.Bare) {o : OwnTxn} (ho : o.requester ≠ .notice) : (s.present o).Bare := by
  refine h.onPath ?_
  have := h.notice
  simp_all [Path.noticeOut]

/-- The oldest own transaction answered leaves no notice write behind. -/
theorem ownAnswered (h : s.Bare) : s.ownAnswered.Bare := by
  refine h.onPath ?_
  have before := h.notice
  simp only [Path.noticeOut, List.any_append, Bool.or_eq_false_iff, List.any_eq_false, decide_eq_true_eq] at before ⊢
  exact ⟨before.1, fun o ho => before.2 o (List.mem_of_mem_tail ho)⟩

/-- At the end of a step notices are discarded and none is presented (R166, R167). -/
theorem settle (h : s.Bare) : s.settle.Bare := by
  have none_to_present : s.joinGiven.noticeToPresent = none := by
    simp [State.noticeToPresent, h.config]
  have ownQueue : s.settle.path.ownQueue = s.path.ownQueue := by
    simp [State.settle, State.presentNotice, none_to_present]
  exact { h with notice := by rw [Path.noticeOut, ownQueue]; exact h.notice }

/-- Taking a record moves no own transaction. -/
theorem take (h : s.Bare) {α : Type} {s1 : State} {tag : Fin 32} {sel : Handover → Option α} {a : α}
    (h1 : s.take tag sel = some (a, s1)) : s1.Bare := by
  obtain ⟨f, left, -, -, rfl⟩ := State.take_spec s h1
  refine h.onPath ?_
  unfold Path.handed
  split <;> exact h.notice

/-- A step that takes a record keeps the part bare when its action does. -/
theorem taking (h : s.Bare) {α : Type} {tag : Fin 32} {sel : Handover → Option α} {act : α → State → State}
    (hact : ∀ a s, s.Bare → (act a s).Bare) : Answers (s.taking tag sel act) State.Bare :=
  State.taking_answers h fun a s1 h1 => (hact a s1 (h.take h1)).settle

/-- A denial is counted under the other denied count (R145). -/
theorem countDenial (h : s.Bare) (tag : Fin 32) : (s.countDenial tag).Bare := by
  simp only [State.countDenial, h.config]
  exact h.onPath h.notice

theorem refuse (h : s.Bare) (x : Txn) : (s.refuse x).Bare := by
  unfold State.refuse
  exact (h.countDenial x.tag).onPath (h.countDenial x.tag).notice

theorem forward (h : s.Bare) (x : Txn) (how : Treatment) : (s.forward x how).Bare := by
  refine h.onPath ?_
  exact h.notice

theorem holdView (h : s.Bare) (x : Txn) : (s.holdView x).Bare := by
  refine h.onPath ?_
  exact h.notice

theorem treat (h : s.Bare) (x : Txn) (how : Treatment) : (s.treat x how).Bare := by
  cases how with
  | denied => exact h.refuse x
  | view => exact h.holdView x
  | plain => exact h.forward x _
  | image => exact h.forward x _
  | observed i w => exact h.forward x _
  | substituted i w => exact h.forward x _

theorem presentsUnconfigured (h : s.Bare) (x : Txn) : (s.presentsUnconfigured x).Bare := by
  unfold State.presentsUnconfigured
  split
  · exact h.treat x _
  · exact h.refuse x

/-- Without a configuration a zone's word is not received (R109). -/
theorem zoneReceives (h : s.Bare) (z : Fin 8) (w : Word) (act : HallConfig → Byte → State → State) :
    (s.zoneReceives z w act).Bare := by
  simpa [State.zoneReceives, h.config] using h

/-- Without a configuration a general command's word is not received (R164). -/
theorem generalReceives (h : s.Bare) (w : Word) (act : HallConfig → State → State) : (s.generalReceives w act).Bare := by
  simpa [State.generalReceives, h.config] using h

theorem zoneCommand (h : s.Bare) (z : Fin 8) (k : ZoneCommand) (act : HallConfig → Byte → State → State) :
    Answers (s.zoneCommand z k act) State.Bare :=
  h.taking fun w _ h => h.zoneReceives z w _

theorem generalCommand (h : s.Bare) (k : GeneralCommand) (act : HallConfig → Word → State → State) :
    Answers (s.generalCommand k act) State.Bare :=
  h.taking fun w _ h => h.generalReceives w _

/-- Without a configuration no read is substituted (R150). -/
theorem substituting (h : s.Bare) (tag : Fin 32) : s.substituting tag = none := by
  simp only [State.substituting, h.config]
  split
  · next hc => cases hc
  · rfl

theorem respondOkay (h : s.Bare) (f : Flight) (data : List Word) : (s.respondOkay f data).Bare := by
  have answered : ∀ r, (s.onPath fun p => p.answer r).Bare := fun r => h.onPath h.notice
  unfold State.respondOkay
  split
  · exact answered _
  · next hc => rw [h.config] at hc; cases hc
  · split
    · exact answered _
    · exact h
  · split
    · exact answered _
    · exact h
  all_goals exact h

/-- Without a configuration no view is answered (R151). -/
theorem viewRead (h : s.Bare) (b : Bool) : Answers (execViewRead b s) State.Bare := by
  unfold execViewRead
  split
  · next hc => rw [h.config] at hc; cases hc
  · exact (answers_next _ _).2 h

theorem upstreamTransaction (h : s.Bare) (x : Txn) (b : Bool) : Answers (execUpstreamTransaction x b s) State.Bare := by
  have observed : ({ s with observeAll := b } : State).Bare := { h with }
  simp only [execUpstreamTransaction]
  split
  · next hc => rw [h.config] at hc; cases hc
  · exact (answers_next _ _).2 (observed.presentsUnconfigured x).settle

theorem forwardedResponse (h : s.Bare) (tag : Fin 32) (ok : Bool) (data : List Word) :
    Answers (execForwardedResponse tag ok data s) State.Bare := by
  unfold execForwardedResponse
  repeat' split
  · exact (answers_next _ _).2 h
  · exact (answers_next _ _).2 (h.respondOkay _ data)
  · exact (answers_next _ _).2 (h.onPath h.notice)
  · exact (answers_next _ _).2 h

/-- The arbiter moves own transactions from one place to the other (R152). -/
theorem grant (h : s.Bare) : (s.onPath Path.grant).Bare := by
  have own : s.path.grantOwn.noticeOut = false := by
    have before := h.notice
    unfold Path.grantOwn
    split
    · exact before
    · next e => simp_all [Path.noticeOut]
  refine h.onPath ?_
  unfold Path.grant
  split
  · exact own
  · exact h.notice
  · split
    · exact h.notice
    · exact own

/-- A consumer word is taken only when it leaves ATTENTION low (R168). -/
theorem consume (h : s.Bare) (v : BitVec 32) : (s.onReport fun r => r.consume v).Bare := by
  refine h.onReport ?_
  unfold Report.consume
  split
  · next within =>
    rw [h.attention, BitVec.sub_self] at within
    have zero : s.report.consumer - v = 0 := BitVec.eq_of_toNat_eq (Nat.le_zero.1 within)
    change s.report.producer = v
    rw [h.attention]
    calc s.report.consumer = s.report.consumer - v + v := (BitVec.sub_add_cancel _ _).symm
      _ = v := by rw [zero]; exact BitVec.zero_add v
  · exact h.attention

theorem snapshotWriteAnswered (h : s.Bare) (ok : Bool) : Answers (execSnapshotWriteAnswered ok s) State.Bare := by
  have answered := h.ownAnswered
  have reported : ∀ f : Report → Report, (∀ r, (f r).producer = r.producer ∧ (f r).consumer = r.consumer) →
      (s.ownAnswered.onReport f).Bare := fun f hf => answered.onReport (by
        rw [(hf _).1, (hf _).2]
        exact answered.attention)
  unfold execSnapshotWriteAnswered
  split
  · refine (answers_next _ _).2 (Bare.settle ?_)
    simp only [State.snapshotAnswered, State.snapshotSecond, State.snapshotDone]
    repeat' split
    · refine present ?_ (by simp [snapshotWrite])
      exact reported _ fun _ => ⟨rfl, rfl⟩
    · refine give (giveCommandCompletion ?_ _ _ _) _
      exact reported _ fun _ => ⟨rfl, rfl⟩
    · refine giveCommandCompletion ?_ _ _ _
      exact reported _ fun _ => ⟨rfl, rfl⟩
  · exact (answers_next _ _).2 h

/-- No notice write is at memory. -/
theorem noticeWriteAnswered (h : s.Bare) (ok : Bool) : Answers (execNoticeWriteAnswered ok s) State.Bare := by
  have absent : s.path.ownHead .notice = none := by
    have before := h.notice
    simp only [Path.noticeOut, List.any_append, Bool.or_eq_false_iff, List.any_eq_false, decide_eq_true_eq] at before
    rw [Path.ownHead, Option.filter_eq_none_iff]
    intro o ho
    simpa using before.2 o (List.mem_of_mem_head? ho)
  simp only [execNoticeWriteAnswered, absent]
  exact (answers_next _ _).2 h

/-- A load request is counted and judged; an accepted one presents a read of the loader (R156, R157). -/
theorem requestLoad (h : s.Bare) (n : Nat) : (s.requestLoad n).Bare := by
  simp only [State.requestLoad]
  split
  · exact ((h.onLoader _).onLoader _).give _
  · exact ((h.onLoader _).onLoader _).present (by simp [State.lineRead])
  · exact h.onLoader _

theorem refuseLoad (h : s.Bare) (k : LoadKind) (r : Refused) : (s.refuseLoad k r).Bare :=
  ((h.onLoader _).onLoader _).give _

theorem loadApplied (h : s.Bare) (k : LoadKind) : (s.loadApplied k).Bare :=
  ((h.onLoader _).onLoader _).give _

theorem loadApplied_config (s : State) (k : LoadKind) : (s.loadApplied k).config = s.config := rfl

/-- A load that ends leaves the part bare, or configured by a FULL image (R158 to R160). -/
theorem finishLoad (h : s.Bare) (k : LoadKind) (m : Image) (hc : (s.finishLoad k m).config = none) :
    (s.finishLoad k m).Bare := by
  revert hc
  unfold State.finishLoad
  split
  · exact fun _ => h.refuseLoad k _
  · cases k with
    | full =>
      intro hc
      simp only [loadApplied_config, State.applyImage, (State.applyFull_runs s _ _).config] at hc
      cases hc
    | parameter =>
      intro _
      simp only [State.applyImage, h.config]
      exact h.loadApplied .parameter
    | changeover =>
      intro _
      simp only [State.applyImage]
      exact (h.onGrading _).loadApplied .changeover

theorem configReadAnswered (h : s.Bare) (ok : Bool) (data : List Word) :
    Answers (execConfigReadAnswered ok data s) fun t => t.config = none → t.Bare := by
  unfold execConfigReadAnswered
  split
  · next k _ _ =>
    split
    · refine (answers_next _ _).2 fun hc => settle ?_
      rw [State.settle_config] at hc
      revert hc
      simp only [State.lineStaged]
      split
      · exact fun _ => (h.ownAnswered.onLoader _).present (by simp [State.lineRead])
      · exact h.ownAnswered.finishLoad k _
    · exact (answers_next _ _).2 fun _ => (h.ownAnswered.refuseLoad k _).settle
  · exact (answers_next _ _).2 fun _ => h

/-- The clock of a bare part runs, and its frames find no configuration (R1 to R9). -/
theorem holdoverExpiry (h : s.Bare) : Answers (execHoldoverExpiry s) State.Bare := by
  unfold execHoldoverExpiry
  split
  · exact (answers_next _ _).2 ((h.onTime h.line).give _).settle
  · exact (answers_next _ _).2 h

theorem slewMove (h : s.Bare) : Answers (execSlewMove s) State.Bare := by
  unfold execSlewMove
  split
  · exact (answers_next _ _).2 (h.onTime h.line)
  · exact (answers_next _ _).2 h

theorem accountSecond (h : s.Bare) (u : Fin 24) : Answers (execAccountSecond u s) State.Bare := by
  have account : ∀ {s : State}, s.Bare → ∀ f, (s.onAccount u f).Bare := fun h _ => h.onTime h.line
  unfold execAccountSecond
  simp only
  split
  · split
    · exact (answers_next _ _).2 ((account (account h _) _).give _).settle
    · exact (answers_next _ _).2 (account h _).settle
  · exact (answers_next _ _).2 h

theorem intervalBoundary (h : s.Bare) : Answers (execIntervalBoundary s) State.Bare := by
  unfold execIntervalBoundary
  split
  · exact (answers_next _ _).2 { h with }
  · exact (answers_next _ _).2 h

theorem guardOpen (h : s.Bare) (z : Fin 8) : Answers (execGuardOpen z s) State.Bare := by
  simp only [execGuardOpen, h.config]
  split
  · exact (answers_next _ _).2 (h.setLevel z true)
  · exact (answers_next _ _).2 h

theorem guardClosed (h : s.Bare) (z : Fin 8) : Answers (execGuardClosed z s) State.Bare := by
  simp only [execGuardClosed, h.config]
  split
  · exact (answers_next _ _).2 (h.setLevel z false)
  · exact (answers_next _ _).2 h

theorem otherCommandCode (h : s.Bare) (slot : Fin 9) : Answers (execOtherCommandCode slot s) State.Bare := by
  unfold execOtherCommandCode
  split
  · exact h.taking fun w _ h => h.zoneReceives _ w _
  · exact h.taking fun w _ h => h.generalReceives w _

/-- Every command leaves a bare part bare, or configured. -/
theorem exec (h : s.Bare) (i : Instr) : Answers (Machine.exec i s) fun t => t.config = none → t.Bare := by
  have always : ∀ {o}, Answers o State.Bare → Answers o fun t => t.config = none → t.Bare :=
    fun h t ht _ => h t ht
  have stands : Answers (.next s) fun t => t.config = none → t.Bare := always ((answers_next _ _).2 h)
  cases i with
  | resetN straps => exact always ((answers_next _ _).2 (s.resetWith_bare straps))
  | configReadAnswered ok data => exact h.configReadAnswered ok data
  | pitchEdge => simpa only [Machine.exec, execPitchEdge, h.config] using stands
  | stopTimerExpiry => simpa [Machine.exec, execStopTimerExpiry, State.stopDue, h.config] using stands
  | slewMove => exact always h.slewMove
  | holdoverExpiry => exact always h.holdoverExpiry
  | accountSecond u => exact always (h.accountSecond u)
  | referencePeriod => exact always ((answers_next _ _).2 (h.onTime h.line))
  | timeFrame tag => exact always (h.taking fun r s h => by simpa [State.timeFrameTaken, h.config] using h)
  | verdictRecord tag => exact always (h.taking fun r s h => by simpa [State.verdictTaken, h.config] using h)
  | robotStatusFrame tag => exact always (h.taking fun r s h => by simpa [State.robotStatusTaken, h.config] using h)
  | gateStatusFrame tag => exact always (h.taking fun r s h => by simpa [State.gateStatusTaken, h.gates] using h)
  | sequenceWrite u => exact always (h.taking fun q s h => by simpa [State.sequenceTaken, h.robots] using h)
  | switchTable => exact always (h.taking fun b s h => by simpa [State.tableTaken, h.config] using h)
  | consumerWrite => exact always (h.taking fun v _ h => h.consume v)
  | robotStatusTimeout u => simpa only [Machine.exec, execRobotStatusTimeout, h.config] using stands
  | gateStatusTimeout g => simpa only [Machine.exec, execGateStatusTimeout, h.config] using stands
  | accessTimerExpiry z => simpa only [Machine.exec, execAccessTimerExpiry, h.config] using stands
  | clearingWindowExpiry z => simpa only [Machine.exec, execClearingWindowExpiry, h.config] using stands
  | tableTimerExpiry => simpa only [Machine.exec, execTableTimerExpiry, h.config] using stands
  | silenceExpiry p => simpa only [Machine.exec, execSilenceExpiry, h.config] using stands
  | robotCommandRead tag data => simpa only [Machine.exec, execRobotCommandRead, h.substituting] using stands
  | gateCommandRead tag data => simpa only [Machine.exec, execGateCommandRead, h.substituting] using stands
  | mailboxRead data => simpa only [Machine.exec, execMailboxRead, h.substituting] using stands
  | viewRead b => exact always (h.viewRead b)
  | guardRawChange z opened => exact always ((answers_next _ _).2 { h with })
  | guardOpen z => exact always (h.guardOpen z)
  | guardClosed z => exact always (h.guardClosed z)
  | intervalBoundary => exact always h.intervalBoundary
  | enter z => exact always (h.zoneCommand z _ _)
  | confirm z => exact always (h.zoneCommand z _ _)
  | extend z => exact always (h.zoneCommand z _ _)
  | cancel z => exact always (h.zoneCommand z _ _)
  | reset z => exact always (h.zoneCommand z _ _)
  | resume z => exact always (h.zoneCommand z _ _)
  | sense z => exact always (h.taking fun w _ h => h.zoneReceives z w _)
  | release => exact always (h.generalCommand _ _)
  | clearSuspect => exact always (h.generalCommand _ _)
  | accountClear => exact always (h.generalCommand _ _)
  | portClear => exact always (h.generalCommand _ _)
  | snapshot => exact always (h.generalCommand _ _)
  | purge => exact always (h.generalCommand _ _)
  | lineResume => exact always (h.generalCommand _ _)
  | otherCommandCode slot => exact always (h.otherCommandCode slot)
  | snapshotWriteAnswered ok => exact always (h.snapshotWriteAnswered ok)
  | noticeWriteAnswered ok => exact always (h.noticeWriteAnswered ok)
  | upstreamTransaction x b => exact always (h.upstreamTransaction x b)
  | forwardedResponse tag ok data => exact always (h.forwardedResponse tag ok data)
  | arbiterGrant => exact always ((answers_next _ _).2 h.grant)
  | fullLoad => exact always (h.taking fun _ _ h => h.requestLoad _)
  | parameterLoad => exact always (h.taking fun _ _ h => h.requestLoad _)
  | changeoverLoad => exact always (h.taking fun _ _ h => h.requestLoad _)
  | otherLoadKind => exact always (h.taking fun _ _ h => h.requestLoad _)

end State.Bare

/-- Settles O11: a configured part stays configured but for RESET_N, which leaves a bare part; a bare part stays bare. -/
theorem stepKeepsUnconfiguredSound : Obligations.StepKeepsUnconfiguredSound := by
  intro s t hs h
  rw [State.unconfiguredSound_iff] at hs ⊢
  intro ht
  cases hc : s.config with
  | some c =>
    rcases step_trackStep h with ⟨s', straps, rfl⟩ | moved
    · exact s'.resetWith_bare straps
    · exact absurd ht (moved.configured (by simp [hc]))
  | none =>
    have bare := hs hc
    unfold step at h
    split at h
    · cases h
      exact bare
    · next i rest _ =>
      have popped : ({ s with pending := rest } : State).Bare := { bare with }
      exact popped.exec i t h ht

end Sys2Proof.Machine
end

section
/-! The commands of the time unit (O15 to O20, O22). -/

namespace Sys2Proof.Machine

/-! ## Notices of a step -/

/-- A step that gives the notices `own`, and no others, gives them at its end. -/
theorem State.settle_givesOnly {s a : State} {own : List Notice} (hn : a.report.notices = s.report.notices)
    (hd : a.report.dropped = s.report.dropped) (hg : a.given = s.given ++ own) : s.GivesOnly a.settle own :=
  State.settle_notices hn hd fun h => by simp [hg, h]

/-- A detail word holds a value of 32 bits as it is (R172). -/
theorem detailNat_of_lt {n : Nat} (h : n < 2 ^ 32) : detailNat n = BitVec.ofNat 32 n := by
  rw [detailNat, Nat.min_eq_left (by omega)]

/-! ## The reference clock -/

/-- Hall time is a count of 64 bits as it stands. -/
theorem hallOf_natCast {n : Nat} (h : n < 2 ^ 64) : hallOf n = n := by
  have := hallOf_of_mem (x := n) (by omega) (by omega)
  exact Int.ofNat_inj.1 this

/-- A unit's port is ACTIVE exactly when it has a port, which is. -/
theorem State.portStateOf_active (s : State) (c : HallConfig) (u : Fin 24) :
    s.portStateOf c u = .active ↔ ∃ p, c.portOf u = some p ∧ (s.ports.get p).state = .active := by
  unfold State.portStateOf
  split <;> simp_all

/-- A unit's zone is in RUN exactly when it has a zone, which is. -/
theorem State.zoneStateOf_run (s : State) (c : HallConfig) (u : Fin 24) :
    s.zoneStateOf c u = .run ↔ ∃ z, c.zoneOf u = some z ∧ (s.zones.get z).state = .run := by
  unfold State.zoneStateOf
  split <;> simp_all

/-- The table of R15. -/
theorem State.productive_iff {s : State} {c : HallConfig} (hc : s.config = some c) (u : Fin 24) :
    s.productive u = true ↔
      (c.kindOf u = .filler ∧ ∃ r, s.robots.get u = some r ∧ r.gate = .released ∧ r.accepted = .running) ∨
        (c.kindOf u = .camera ∧ (∃ p, c.portOf u = some p ∧ (s.ports.get p).state = .active) ∧ s.time.running = true) ∨
        (c.kindOf u = .gate ∧ (∃ p, c.portOf u = some p ∧ (s.ports.get p).state = .active) ∧
          (∃ z, c.zoneOf u = some z ∧ (s.zones.get z).state = .run) ∧ s.time.running = true) := by
  rw [← State.portStateOf_active, ← State.zoneStateOf_run]
  simp only [State.productive, hc]
  cases hk : c.kindOf u with
  | filler => cases hr : s.robots.get u <;> simp
  | camera => simp
  | gate => simp [and_assoc]
  | clock => simp
  | absent => simp

/-- Settles O15: hall time and fraction are quotient and remainder of one sum; each account follows `State.productive`. -/
theorem referencePeriodAdvances : Obligations.ReferencePeriodAdvances := by
  intro s fraction low high hall
  have advance : ((periodAdvance s.time.trim : Nat) : Int) = 8 * (1000000000 + s.time.trim) :=
    Int.toNat_of_nonneg (by omega)
  have exact_hall := hallOf_natCast
    (n := s.time.hall + (s.time.fraction + periodAdvance s.time.trim) / 1000000000) (by omega)
  refine ⟨_, rfl, rfl, Nat.mod_lt _ (by norm_num), ?_, fun u hu => ?_, fun u hu hs => ?_, rfl,
    fun c u hc => State.productive_iff hc u, fun hc u => by simp [State.productive, hc], rfl, rfl⟩
  · dsimp only [State.onTime]
    rw [exact_hall]
    omega
  · simp [hu]
  · have below : (s.time.accounts.get u).seconds ≠ 2 ^ 32 - 1 := by omega
    simp only [State.onTime, Table.get_mapFin, hu, if_true, Account.accumulate, below, false_and, if_false]

/-- Settles O16: the sign of p passes from p to hall time. -/
theorem slewMovesOneNanosecond : Obligations.SlewMovesOneNanosecond := by
  intro s pending due low high
  have step : execSlewMove s = .next (s.onTime TimeUnit.slew) := by simp [execSlewMove, State.slewDue, pending, due]
  have sign : s.time.correction.sign = 1 ∨ s.time.correction.sign = -1 := by
    rcases lt_or_gt_of_ne pending with h | h
    · exact .inr (Int.sign_eq_neg_one_of_neg h)
    · exact .inl (Int.sign_eq_one_of_pos h)
  have exact_hall := hallOf_of_mem (x := s.time.hall + s.time.correction.sign) (by omega) (by omega)
  refine ⟨_, step, ?_, ?_, rfl, rfl, rfl⟩
  · dsimp only [State.onTime, TimeUnit.slew]
    rw [exact_hall]
    omega
  · dsimp only [State.onTime, TimeUnit.slew]
    rcases lt_or_gt_of_ne pending with h | h
    · rw [Int.sign_eq_neg_one_of_neg h]
      omega
    · rw [Int.sign_eq_one_of_pos h]
      omega

/-! ## Time frames -/

/-- When hall time steps by an offset `o` (R5, R6, R8). -/
theorem clockAction_step_iff (clock : ClockState) (running : Bool) (o : Int) :
    clockAction (decide (clock = .none)) running o = .step ↔
      if clock = .none then 0 ≤ o ∨ running = false else 1000000 ≤ o ∨ (o ≤ -1000000 ∧ running = false) := by
  unfold clockAction
  by_cases first : clock = .none
  · cases running <;> simp [first]
  · simp only [first, decide_false, Bool.false_eq_true, if_false]
    split
    · simp only [reduceCtorEq, false_iff]
      omega
    · split
      · simp only [true_iff]
        omega
      · cases running <;> simp <;> omega

/-- Where it does not step, it slews back with CLOCK_BACKSLEW for a first frame or a large offset (R6, R8). -/
theorem clockAction_backslew_iff (clock : ClockState) (running : Bool) (o : Int)
    (h : clockAction (decide (clock = .none)) running o ≠ .step) :
    clockAction (decide (clock = .none)) running o = .backslew ↔ clock = .none ∨ o ≤ -1000000 := by
  unfold clockAction at h ⊢
  by_cases first : clock = .none
  · simp only [first, decide_true, if_true] at h ⊢
    split <;> simp_all
  · simp only [first, decide_false, Bool.false_eq_true, if_false, false_or] at h ⊢
    split
    · simp only [reduceCtorEq, false_iff]
      omega
    · split
      · simp_all
      · cases running
        · simp_all
        · simp
          omega

/-- The notice of an action on offset `o` by a frame of unit `u` (R5, R6). -/
def State.actionNotices (s : State) (u : Fin 24) (o : Int) (stamp : Nat) : ClockAction → List Notice
  | .step => [{ s.note .clockStep with subject := u.val, detail := microDetail o, stamp := stamp }]
  | .backslew => [{ s.note .clockBackslew with detail := backslewDetail o, stamp := stamp }]
  | .slew => []

/-- The notice of the entry to LOCKED (R9). -/
def State.lockedNotices (s : State) (u : Fin 24) (stamp : Nat) : List Notice :=
  if s.time.clock = .locked then [] else [{ s.note .clockLocked with subject := u.val, stamp := stamp }]

/-- A frame's notices are all that is given. -/
theorem State.giveFrameNotices_eq (s b : State) (u : Fin 24) (o : Int) (stamp : Nat) :
    s.giveFrameNotices u b.time o stamp =
      { s with given := s.given ++
          (b.actionNotices u o stamp (clockAction (decide (b.time.clock = .none)) b.time.running o) ++
            b.lockedNotices u stamp) } := by
  unfold State.giveFrameNotices State.lockedNotices
  cases clockAction (decide (b.time.clock = .none)) b.time.running o <;>
    by_cases locked : b.time.clock = .locked <;>
    simp [locked, State.actionNotices, State.give, State.note]

/-- The offset of a frame (R4). -/
def State.offset (s : State) (c : HallConfig) (f : TimeFrame) : Int :=
  f.masterTime c - s.time.hall

/-- The state in which a frame that passes its tests leaves the part (R4 to R9). -/
def State.frameTaken (s : State) (u : Fin 24) (f : TimeFrame) (o : Int) : State :=
  let t := s.time.takeFrame f.seq o
  let act := clockAction (decide (s.time.clock = .none)) s.time.running o
  let stamp := if Config.stepStampsNew then t.hall else s.time.hall
  { s with
    time := t
    queue := if act = .step ∧ o < 0 then [] else s.queue
    given := s.given ++ (s.actionNotices u o stamp act ++ s.lockedNotices u stamp) }

/-- A frame that passes is taken (R3). -/
theorem State.timeFrameTaken_eq {s : State} {c : HallConfig} (hc : s.config = some c) (u : Fin 24) {f : TimeFrame}
    (hf : f.passes c s.time.lastSeq = true) : s.timeFrameTaken u f = s.frameTaken u f (s.offset c f) := by
  unfold State.timeFrameTaken
  split
  · next h =>
    rw [hc] at h
    cases h
  · next c' h =>
    obtain rfl : c' = c := Option.some.inj (h.symm.trans hc)
    rw [if_pos hf]
    exact State.giveFrameNotices_eq _ s u _ _

/-- A frame that fails a test is counted (R3). -/
theorem State.timeFrameTaken_rejected {s : State} {c : HallConfig} (hc : s.config = some c) (u : Fin 24) {f : TimeFrame}
    (hf : f.passes c s.time.lastSeq = false) :
    s.timeFrameTaken u f = s.onTime fun t => { t with rejected := satAdd 16 t.rejected 1 } := by
  simp [State.timeFrameTaken, hc, hf]

/-- The trim after a frame (R7). -/
theorem trimAfter_eq (trim o interval : Int) :
    trimAfter trim o interval =
      if 1000000 ≤ interval then max (-200000) (min 200000 (trim + (o * 250000000).tdiv interval)) else trim := by
  unfold trimAfter clampInt
  repeat' split
  all_goals omega

/-- The notices of a frame, by whether hall time steps (R5, R6). -/
theorem State.actionNotices_spec (s : State) (u : Fin 24) (o : Int) (stamp : Nat) {steps : Prop} {act : ClockAction}
    (hact : act = clockAction (decide (s.time.clock = .none)) s.time.running o) (hs : act = .step ↔ steps) :
    ∃ detail : BitVec 32,
      (detail = detailInt (o.tdiv 1000) ∨ (¬ steps ∧ detail = detailInt (o / 1000))) ∧
      (steps → s.actionNotices u o stamp act =
        [{ s.note .clockStep with subject := u.val, detail := detail, stamp := stamp }]) ∧
      (¬ steps → s.time.clock = .none ∨ o ≤ -1000000 → s.actionNotices u o stamp act =
        [{ s.note .clockBackslew with detail := detail, stamp := stamp }]) ∧
      (¬ steps → s.time.clock ≠ .none → -1000000 < o → s.actionNotices u o stamp act = []) := by
  have backslews := clockAction_backslew_iff s.time.clock s.time.running o
  rw [← hact] at backslews
  rw [← hs]
  cases act with
  | step => exact ⟨microDetail o, .inl rfl, fun _ => rfl, fun h => absurd rfl h, fun h => absurd rfl h⟩
  | slew =>
    refine ⟨microDetail o, .inl rfl, nofun, fun h hb => ?_, fun _ _ _ => rfl⟩
    cases (backslews h).2 hb
  | backslew =>
    refine ⟨backslewDetail o, ?_, nofun, fun _ _ => rfl, fun h hn ho => ?_⟩
    · unfold backslewDetail
      split
      · exact .inr ⟨nofun, rfl⟩
      · exact .inl rfl
    · rcases (backslews h).1 rfl with hc | hc
      · exact absurd hc hn
      · omega

/-- What a frame does to hall time and the pending correction, where it steps and where it does not (R5, R6). -/
theorem TimeUnit.takeFrame_acts (t : TimeUnit) (seq : Seq) (o : Int) {steps : Prop}
    (hs : clockAction (decide (t.clock = .none)) t.running o = .step ↔ steps) :
    (steps → (t.takeFrame seq o).hall = hallOf (t.hall + o) ∧ (t.takeFrame seq o).correction = 0) ∧
      (¬ steps → (t.takeFrame seq o).hall = t.hall ∧ (t.takeFrame seq o).correction = o) :=
  ⟨fun h => ⟨if_pos (hs.2 h), if_pos (hs.2 h)⟩,
    fun h => ⟨if_neg fun e => h (hs.1 e), if_neg fun e => h (hs.1 e)⟩⟩

/-- The trim after a frame taken (R7). -/
theorem TimeUnit.takeFrame_trim (t : TimeUnit) (seq : Seq) (o : Int) :
    (t.takeFrame seq o).trim =
      if t.clock = .locked ∧ 1000000 ≤ (t.hall : Int) - t.previousArrival then
        max (-200000) (min 200000 (t.trim + (o * 250000000).tdiv ((t.hall : Int) - t.previousArrival)))
      else t.trim := by
  simp only [TimeUnit.takeFrame, trimAfter_eq]
  by_cases locked : t.clock = .locked <;> simp [locked]

/-- Settles O17: the frame passes, `TimeUnit.takeFrame` acts on the offset, and its notices are those of the action and of the
entry to LOCKED. -/
theorem timeFrameTaken : Obligations.TimeFrameTaken := by
  intro tag s s1 c u f take config valid later nanos range o interval steps
  have answer : exec (.timeFrame tag) s = .next (s1.timeFrameTaken u f).settle := State.taking_some s _ take
  obtain ⟨flight, left, -, -, rfl⟩ := State.take_spec s take
  have passes : f.passes c s.time.lastSeq = true := by
    simp only [TimeFrame.passes, valid, later, Bool.true_and, Bool.and_eq_true]
    exact ⟨decide_eq_true nanos, decide_eq_true range⟩
  rw [State.timeFrameTaken_eq (s := s.onPath fun p => p.handed tag left) config u passes] at answer
  have acts : clockAction (decide (s.time.clock = .none)) s.time.running o = .step ↔ steps :=
    clockAction_step_iff s.time.clock s.time.running o
  have target : (hallOf (s.time.hall + o) : Int) = s.time.hall + o := hallOf_of_mem (by omega) (by omega)
  have empties : s.time.empties o ↔ steps ∧ o < 0 := and_congr_left' acts
  obtain ⟨stepping, slewing⟩ := s.time.takeFrame_acts f.seq o acts
  refine ⟨_, answer, rfl, rfl, rfl, fun h => ?_, slewing, rfl, rfl, fun h => ?_, fun h => ?_,
    s.time.takeFrame_trim f.seq o, rfl, ?_, rfl⟩
  · obtain ⟨hall, correction⟩ := stepping h
    exact ⟨(congrArg Nat.cast hall).trans target, correction⟩
  · exact ⟨if_pos (empties.2 h), if_pos (empties.2 h)⟩
  · exact ⟨if_neg fun e => h (empties.1 e), if_neg fun e => h (empties.1 e)⟩
  · obtain ⟨detail, shown, step, backslew, slew⟩ := s.actionNotices_spec u o
      (if Config.stepStampsNew then (s.time.takeFrame f.seq o).hall else s.time.hall) rfl acts
    refine ⟨_, detail, _, ?_, shown, step, backslew, slew, State.settle_givesOnly rfl rfl rfl⟩
    split
    · exact .inr rfl
    · exact .inl rfl

/-- Settles O18: a frame that fails a test is counted, and nothing else is done with it. -/
theorem timeFrameRejected : Obligations.TimeFrameRejected := by
  intro tag s s1 c u f take config bad
  have answer : exec (.timeFrame tag) s = .next (s1.timeFrameTaken u f).settle := State.taking_some s _ take
  obtain ⟨flight, left, -, -, rfl⟩ := State.take_spec s take
  have fails : f.passes c s.time.lastSeq = false := by
    rcases bad with h | h | h | h
    · simp [TimeFrame.passes, h]
    · simp [TimeFrame.passes, h]
    · simp [TimeFrame.passes, h]
    · have late : decide (f.masterTime c < 2 ^ 64) = false := decide_eq_false (Nat.not_lt.2 h)
      rw [TimeFrame.passes, late, Bool.and_false]
  rw [State.timeFrameTaken_rejected (s := s.onPath fun p => p.handed tag left) config u fails] at answer
  exact ⟨_, answer, rfl, State.settle_givesOnly rfl rfl (List.append_nil _).symm, rfl⟩

/-! ## Expiries, accounts, glitches -/

/-- The report unit after a step of a configured part that gives one notice. -/
theorem State.settle_report_one {s a : State} {c : HallConfig} {n : Notice} (hc : s.config = some c)
    (given : s.given = []) (config : a.config = s.config) (report : a.report = s.report)
    (gives : a.given = s.given ++ [n]) : a.settle.report = s.report.join n := by
  rw [State.settle_report a (config.trans hc), gives, given, report]
  rfl

/-- Settles O19: each timer is due, and its command gives one notice. -/
theorem clockAndStopTimersExpire : Obligations.ClockAndStopTimersExpire := by
  intro s c config given
  refine ⟨fun b locked start due => ?_, fun b running start due => ?_⟩
  · have isDue : s.holdoverDue = true := by
      simp only [State.holdoverDue, locked, start, timerDue, decide_true, Bool.true_and]
      exact decide_eq_true due
    have answer : exec .holdoverExpiry s = execHoldoverExpiry s := rfl
    rw [execHoldoverExpiry, if_pos isDue] at answer
    have subject : s.clockSubject = (c.clockUnit.map Fin.val).getD 0 := by
      simp only [State.clockSubject, config, Option.bind_some]
      cases c.clockUnit <;> rfl
    rw [subject] at answer
    exact ⟨_, answer, rfl, State.settle_report_one config given rfl rfl rfl, rfl⟩
  · have isDue : s.stopDue = true := by
      simp only [State.stopDue, config, running, start, timerDue, Bool.true_and]
      exact decide_eq_true due
    have answer : exec .stopTimerExpiry s = execStopTimerExpiry s := rfl
    rw [execStopTimerExpiry, if_pos isDue] at answer
    exact ⟨_, answer, rfl, State.settle_report_one config given rfl rfl rfl, rfl⟩

/-- Whether an account with one second more comes to its threshold (R16). -/
theorem Account.reaches_iff (a : Account) (threshold : Nat) :
    a.reaches threshold = true ↔ a.due = false ∧ threshold ≠ 0 ∧ a.seconds = threshold * 3600 := by
  simp only [Account.reaches, Bool.and_eq_true, decide_eq_true_eq, Bool.not_eq_true']
  tauto

/-- The notice of a due flag that is set (R16). -/
def State.accountNotices (s : State) (u : Fin 24) (threshold : Nat) : List Notice :=
  let a := (s.time.accounts.get u).addSecond
  if a.reaches threshold then [{ s.note .maintDue with subject := u.val, detail := detailNat a.seconds }] else []

/-- The state in which a second added to unit `u`'s account leaves the part, before its end (R15, R16). -/
def State.secondAdded (s : State) (u : Fin 24) (threshold : Nat) : State :=
  { s with
    time := { s.time with
      accounts := s.time.accounts.modify u fun a =>
        { a.addSecond with due := a.due || a.addSecond.reaches threshold } }
    given := s.given ++ s.accountNotices u threshold }

/-- ACCOUNT_SECOND of an account with a whole second to add. -/
theorem execAccountSecond_eq {s : State} {u : Fin 24} (hd : s.secondDue u = true) :
    execAccountSecond u s = .next (s.secondAdded u (thresholdOf s.config u)).settle := by
  have added : (s.onAccount u Account.addSecond).time.accounts.get u = (s.time.accounts.get u).addSecond := by simp
  have at_u : ∀ f g : Account → Account, f (s.time.accounts.get u) = g (s.time.accounts.get u) →
      s.time.accounts.modify u f = s.time.accounts.modify u g := fun f g h => by simp only [Table.modify, h]
  simp only [execAccountSecond, hd, if_true, added, State.onAccount_config]
  congr 2
  by_cases reach : (s.time.accounts.get u).addSecond.reaches (thresholdOf s.config u) = true
  · simp only [reach, if_true, State.setDue, State.secondAdded, State.accountNotices, added]
    rw [at_u _ (fun a => { a.addSecond with due := true }) (by simp [reach])]
    simp [State.onAccount, State.onTime, State.give, State.note]
  · simp only [reach, State.secondAdded, State.accountNotices]
    rw [at_u _ Account.addSecond (by simp only [reach]; exact congrArg _ (Bool.or_false _))]
    simp [State.onAccount, State.onTime]

/-- Settles O20: the second passes over, and the due flag is set where the account comes to its threshold. -/
theorem accountGainsSecond : Obligations.AccountGainsSecond := by
  intro u s c config whole below
  have answer : exec (.accountSecond u) s = .next (s.secondAdded u (c.timers.maintenance.get u)).settle := by
    have threshold : thresholdOf s.config u = c.timers.maintenance.get u := by rw [config]; rfl
    rw [← threshold]
    exact execAccountSecond_eq (by simp only [State.secondDue, Bool.and_eq_true, decide_eq_true_eq]; exact ⟨whole, below⟩)
  have account : (s.secondAdded u (c.timers.maintenance.get u)).settle.time.accounts.get u =
      { (s.time.accounts.get u).addSecond with
        due := (s.time.accounts.get u).due ||
          (s.time.accounts.get u).addSecond.reaches (c.timers.maintenance.get u) } := by
    simp [State.secondAdded]
  have reach := Account.reaches_iff (s.time.accounts.get u).addSecond (c.timers.maintenance.get u)
  refine ⟨_, answer, ?_⟩
  rw [account]
  refine ⟨rfl, Nat.sub_add_cancel whole, ?_, State.settle_givesOnly rfl rfl (congrArg (s.given ++ ·) ?_),
    fun v hv => Table.get_modify_ne _ _ hv, rfl, rfl⟩
  · rw [Bool.or_eq_true, reach]
    change _ ∨ (s.time.accounts.get u).due = false ∧ _ ↔ _
    cases (s.time.accounts.get u).due <;> simp
  · have fits : (s.time.accounts.get u).addSecond.seconds < 2 ^ 32 := by
      simp only [Account.addSecond]
      omega
    simp only [State.accountNotices, detailNat_of_lt fits]
    cases hr : (s.time.accounts.get u).addSecond.reaches (c.timers.maintenance.get u) with
    | true =>
      obtain ⟨notDue, -⟩ := reach.1 hr
      change (s.time.accounts.get u).due = false at notDue
      rw [notDue]
      rfl
    | false => cases (s.time.accounts.get u).due <;> rfl

/-- Settles O22: without a configuration the edge finds nothing to do, and within the minimum pitch it is counted. -/
theorem pitchEdgeIgnored : Obligations.PitchEdgeIgnored := by
  intro s
  refine ⟨fun config => ?_, fun c m config newest early => ?_⟩
  · simp only [exec, execPitchEdge, config]
  · have glitch : s.time.glitchAt c.timers.minPitch = true := by
      simp only [TimeUnit.glitchAt, newest]
      exact decide_eq_true early
    have answer : exec .pitchEdge s = .next (s.onTime fun t => { t with glitches := satAdd 16 t.glitches 1 }) := by
      simp only [exec, execPitchEdge, config, glitch, if_true]
    exact ⟨_, answer, rfl, rfl⟩

end Sys2Proof.Machine
end

section
/-! What the handing on of a change does to the line-hold set and to the robots (R67, R75, R86), and the commands of the general
slot that name a unit (O54). -/

namespace Sys2Proof.Machine

/-! ## The line-hold set -/

/-- The set has a bit for each cause of each gate. -/
theorem lineIndex_lt (g : Fin 2) (k : LineCause) : lineIndex g k < 14 := by
  have := g.isLt
  cases k <;> simp only [lineIndex, LineCause.code] <;> omega

/-- The causes have distinct bits. -/
theorem lineIndex_eq_iff {g g' : Fin 2} {k k' : LineCause} : lineIndex g' k' = lineIndex g k ↔ g' = g ∧ k' = k := by
  have code : ∀ j : LineCause, j.code < 7 := fun j => by cases j <;> decide
  have same : k'.code = k.code ↔ k' = k := by cases k' <;> cases k <;> decide
  have := code k
  have := code k'
  rw [← same, Fin.ext_iff, lineIndex, lineIndex]
  omega

/-- An added cause is in the set; the others stand. -/
theorem State.addHold_holds (s : State) (g : Fin 2) (k : LineCause) (b : Option Bottle) (g' : Fin 2) (k' : LineCause) :
    (s.addHold g k b).holds g' k' = (s.holds g' k' || decide (g' = g ∧ k' = k)) := by
  simp only [State.holds, s.addHold_bits g k b _ (lineIndex_lt g' k'), lineIndex_eq_iff]

/-- A conditional cause follows its condition; the others stand. -/
theorem State.followHold_holds (s : State) (g : Fin 2) (k : LineCause) (on : Bool) (g' : Fin 2) (k' : LineCause) :
    (s.followHold g k on).holds g' k' = if g' = g ∧ k' = k then on else s.holds g' k' := by
  simp only [State.holds, s.followHold_bits g k on _ (lineIndex_lt g' k'), lineIndex_eq_iff]

/-- The latched causes, and those of the other gate, stand when a gate's conditions are followed (R67, R75). -/
theorem State.followGate_holds_stands (s : State) (c : HallConfig) {g g' : Fin 2} {k : LineCause}
    (h : g' ≠ g ∨ k = .missed ∨ k = .mismatch ∨ k = .unconfirmed) : (s.followGate c g).holds g' k = s.holds g' k := by
  unfold State.followGate
  split
  · simp only [State.followHold_holds]
    rcases h with h | rfl | rfl | rfl <;> simp_all
  · rfl

/-- The conditional causes of a gate after they have followed (R67). -/
theorem State.followGate_holds (s : State) {c : HallConfig} {g : Fin 2} {u : Fin 24} {r : GateRec}
    (hu : c.gateUnit g = some u) (hr : s.gates.get g = some r) {k : LineCause}
    (hk : k = .port ∨ k = .lost ∨ k = .fault ∨ k = .zone) :
    (s.followGate c g).holds g k = s.gateCondition c u r k := by
  simp only [State.followGate, hu, hr, State.followHold_holds]
  rcases hk with rfl | rfl | rfl | rfl <;> simp

/-! ## Causes -/

/-- The byte of a cause holds that cause alone. -/
theorem causeIf_getLsbD (k j : Cause) (b : Bool) : (causeIf k b).getLsbD j.code = (b && decide (k = j)) := by
  cases b <;> cases k <;> cases j <;> rfl

/-- STALE stands in the set of causes (R86). -/
theorem State.causesOf_stale (s : State) (c : HallConfig) (u : Fin 24) (r : Robot) :
    (s.causesOf c u r).getLsbD Cause.stale.code = r.has .stale := by
  simp [State.causesOf, causeIf_getLsbD]

/-- SUSPECT is in the set of causes while the robot's latch is set (R86). -/
theorem State.causesOf_suspect (s : State) (c : HallConfig) (u : Fin 24) (r : Robot) :
    (s.causesOf c u r).getLsbD Cause.suspect.code = r.suspect := by
  simp [State.causesOf, causeIf_getLsbD]

/-- The state of a unit's zone is read from the zones. -/
theorem State.zoneStateOf_congr {s t : State} {c : HallConfig} {u : Fin 24} (hz : t.zones = s.zones) :
    t.zoneStateOf c u = s.zoneStateOf c u := by
  rw [State.zoneStateOf, hz, State.zoneStateOf]

/-- The state of a unit's port is read from the ports. -/
theorem State.portStateOf_congr {s t : State} {c : HallConfig} {u : Fin 24} (hp : t.ports = s.ports) :
    t.portStateOf c u = s.portStateOf c u := by
  rw [State.portStateOf, hp, State.portStateOf]

/-- The conditions of a gate are read from the ports, the zones and its record (R67). -/
theorem State.gateCondition_congr {s t : State} {c : HallConfig} {u : Fin 24} {r : GateRec} {k : LineCause}
    (hp : t.ports = s.ports) (hz : t.zones = s.zones) : t.gateCondition c u r k = s.gateCondition c u r k := by
  cases k <;> simp only [State.gateCondition, State.zoneStateOf_congr hz, State.portStateOf_congr hp]

/-- The causes of a robot are read from its accepted state, its latch, and STALE among its causes. -/
theorem State.causesOf_congr {s t : State} {c : HallConfig} {u : Fin 24} {r r' : Robot} (hp : t.ports = s.ports)
    (hz : t.zones = s.zones) (hl : t.lineHold = s.lineHold) (accepted : r'.accepted = r.accepted)
    (suspect : r'.suspect = r.suspect) (stale : r'.has .stale = r.has .stale) :
    t.causesOf c u r' = s.causesOf c u r := by
  rw [State.causesOf, State.zoneStateOf_congr hz, State.portStateOf_congr hp, hl, accepted, suspect, stale, State.causesOf]

/-- Following leaves a robot's own record. -/
theorem State.robotAfter_own (s : State) (c : HallConfig) (u : Fin 24) (r : Robot) : (s.robotAfter c u r).own = r.own :=
  (congrArg Robot.own (s.robotAfter_frame c u r) :)

/-- What a robot's own record holds. -/
theorem Robot.own_eq {r r' : Robot} (h : r'.own = r.own) :
    r'.accepted = r.accepted ∧ r'.suspect = r.suspect ∧ r'.ring = r.ring :=
  ⟨(congrArg Robot.accepted h :), (congrArg Robot.suspect h :), (congrArg Robot.ring h :)⟩

/-! ## Handing a change on -/

/-- Handing on moves the line-hold set, the robots and the notices given, and nothing else. -/
theorem State.handOn_eq (s : State) :
    s.handOn = { s with given := s.handOn.given, lineHold := s.handOn.lineHold, robots := s.handOn.robots } := by
  rw [show s.handOn = { s.handOn with given := s.handOn.given } from rfl]
  simp

/-- No robot's own record changes when a change is handed on. -/
theorem State.handOn_own (s : State) (u : Fin 24) :
    (s.handOn.robots.get u).map Robot.own = (s.robots.get u).map Robot.own := by
  cases hc : s.config with
  | none => rw [s.handOn_none hc]
  | some c =>
    rw [s.handOn_get hc, Option.map_map]
    exact congrArg (Option.map · _) (funext fun r => State.robotAfter_own _ c u r)

/-- No latched cause comes or goes when a change is handed on (R75). -/
theorem State.handOn_latchedStand (s : State) : s.LatchedStand s.handOn := by
  intro g k hk
  cases hc : s.config with
  | none => rw [s.handOn_none hc]
  | some c =>
    calc s.handOn.holds g k = ((s.followGate c 0).followGate c 1).holds g k := by
          simp only [State.holds, s.handOn_lineHold hc]
      _ = (s.followGate c 0).holds g k := State.followGate_holds_stands _ c (.inr hk)
      _ = s.holds g k := State.followGate_holds_stands _ c (.inr hk)

/-- After a change is handed on, the conditional line-hold causes and the robots' causes are those whose conditions hold (R67,
R86). -/
theorem State.handOn_causesFollow (s : State) : s.handOn.CausesFollow := by
  refine ⟨fun c g u r hc hu hr k hk => ?_, fun c u r' hc hr' => ?_⟩
  · rw [State.handOn_config] at hc
    rw [State.handOn_gates] at hr
    have set : s.handOn.holds g k = ((s.followGate c 0).followGate c 1).holds g k := by
      simp only [State.holds, s.handOn_lineHold hc]
    rw [set, State.gateCondition_congr (s := s) (by simp) (by simp)]
    match g with
    | 0 => rw [State.followGate_holds_stands _ c (.inl (by decide)), State.followGate_holds s hu hr hk]
    | 1 =>
      rw [State.followGate_holds (s.followGate c 0) hu (by simpa using hr) hk]
      exact State.gateCondition_congr (by simp) (by simp)
  · rw [State.handOn_config] at hc
    rw [s.handOn_get hc] at hr'
    obtain ⟨r, -, rfl⟩ := Option.map_eq_some_iff.1 hr'
    have causes := ((s.followGate c 0).followGate c 1).robotAfter_causes c u r
    obtain ⟨accepted, suspect, -⟩ := Robot.own_eq (((s.followGate c 0).followGate c 1).robotAfter_own c u r)
    refine causes.trans (State.causesOf_congr (by simp) (by simp) (s.handOn_lineHold hc) accepted suspect ?_).symm
    rw [Robot.has, causes, State.causesOf_stale]

/-! ## The general slot -/

/-- A fresh command word is acted on while the slot is not in progress (R164). -/
theorem State.generalReceives_acts {s : State} {c : HallConfig} {w : Word} (hc : s.config = some c)
    (fresh : s.report.lastSeq ≠ some (wordSeq w)) (idle : s.report.slot ≠ .inProgress) (act : HallConfig → State → State) :
    s.generalReceives w act = act c (s.onReport fun r => { r with lastSeq := some (wordSeq w) }) := by
  unfold State.generalReceives
  split
  · next h => exact absurd (h.symm.trans hc) nofun
  · next c' h =>
    obtain rfl : c' = c := Option.some.inj (h.symm.trans hc)
    rw [if_neg fresh]
    exact if_neg idle

/-- What a step gives that completes a command at once, read off the state `a` before the completion (R164). -/
theorem State.notices_of_complete {s a : State} {w : Word} {code : Completion} {p : Notice → Bool} {more : List Notice}
    (report : a.report = { s.report with lastSeq := some (wordSeq w) }) (hall : a.time.hall = s.time.hall)
    (gives : s.given = [] → a.given.filter p = more) (picks : p (s.commandNotice w code) = true) :
    s.Notices (a.completeGeneral w code).settle p (more ++ [s.commandNotice w code]) := by
  have given : (a.completeGeneral w code).given = a.given ++ [s.commandNotice w code] := by
    simp only [State.commandNotice, State.note, ← hall]
    rfl
  refine State.settle_notices (congrArg Report.notices report :) (congrArg Report.dropped report :) fun h => ?_
  rw [given, List.filter_append, gives h, List.filter_cons, picks]
  rfl

/-- A command that completes at once is done with its completion (R164). -/
theorem State.generalDone_of_complete {s a : State} {w : Word} {code : Completion} {more : List Notice}
    (report : a.report = { s.report with lastSeq := some (wordSeq w) }) (hall : a.time.hall = s.time.hall)
    (gives : s.given = [] → a.given.filter (fun n => !n.handed) = more) :
    s.GeneralDone (a.completeGeneral w code).settle w code more where
  slot := congrArg (fun r : Report =>
    { r with
      notices := s.report.notices, dropped := s.report.dropped, slot := .complete
      reply := some (wordSeq w, code) }) report
  notices := State.notices_of_complete report hall gives rfl

/-- A command of the general slot that its word reaches is acted on, and the step settles (R164). -/
theorem State.generalCommand_acts {s s1 : State} {c : HallConfig} {k : GeneralCommand} {w : Word}
    (take : s.take processorTag (selGeneral k) = some (w, s1)) (hc : s.config = some c)
    (fresh : s.report.lastSeq ≠ some (wordSeq w)) (idle : s.report.slot ≠ .inProgress)
    (act : HallConfig → Word → State → State) :
    s.generalCommand k act = .next (act c w (s1.onReport fun r => { r with lastSeq := some (wordSeq w) })).settle := by
  obtain ⟨flight, left, -, -, rfl⟩ := State.take_spec s take
  have acts := State.generalReceives_acts (s := s.onPath fun p => p.handed processorTag left) hc fresh idle (act · w)
  rw [State.generalCommand, State.taking_some s _ take, acts]

/-- The robot that a command's argument numbers. -/
theorem HallConfig.robotArg_eq {c : HallConfig} {w : Word} {u : Fin 24} (hu : unitNumber (wordArg w) = some u)
    (filler : c.kindOf u = .filler) : c.robotArg w = some u := by
  simp [HallConfig.robotArg, hu, HallConfig.isRobot, filler]

/-- RELEASE of an ARMING robot (R91). -/
theorem State.releaseTaken_robot {s : State} {c : HallConfig} {w : Word} {u : Fin 24} (robot : c.robotArg w = some u)
    (arming : s.isArming u = true) : s.releaseTaken c w = (s.releaseRobot u).completeGeneral w .normal := by
  simp only [State.releaseTaken, robot, arming, if_true]

/-- CLEAR_SUSPECT of a robot (R87). -/
theorem State.clearSuspectTaken_robot (s : State) {c : HallConfig} {w : Word} {u : Fin 24} (robot : c.robotArg w = some u) :
    s.clearSuspectTaken c w =
      ((s.onRobot u fun r => { r with suspect := false, ring := [] }).handOn).completeGeneral w .normal := by
  simp only [State.clearSuspectTaken, robot]

/-- ACCOUNT_CLEAR of a unit (R17). -/
theorem State.accountClearTaken_unit (s : State) {w : Word} {u : Fin 24} (unit : unitNumber (wordArg w) = some u) :
    s.accountClearTaken w =
      (s.onAccount u fun _ => { seconds := 0, remainder := 0, due := false }).completeGeneral w .normal := by
  simp only [State.accountClearTaken, unit]

/-- A robot whose record is changed, and the change handed on: its own record is the changed one, and SUSPECT is among its causes
while the latch is set (R86). -/
theorem State.handOn_changed {s : State} {c : HallConfig} (hc : s.config = some c) {u : Fin 24} {r : Robot}
    (hr : s.robots.get u = some r) :
    ∃ r', s.handOn.robots.get u = some r' ∧ r'.own = r.own ∧ r'.has .suspect = r.suspect := by
  refine ⟨_, (s.handOn_get hc u).trans (congrArg (Option.map _) hr), State.robotAfter_own _ c u r, ?_⟩
  rw [Robot.has, State.robotAfter_causes, State.causesOf_suspect]

/-- Taking a record moves the path on and nothing else. -/
theorem State.take_path {α : Type} {s s1 : State} {tag : Fin 32} {sel : Handover → Option α} {a : α}
    (take : s.take tag sel = some (a, s1)) : ∃ p, s1 = { s with path := p } := by
  obtain ⟨flight, left, -, -, rfl⟩ := State.take_spec s take
  exact ⟨_, rfl⟩

/-- Settles O54: each command changes its record, CLEAR_SUSPECT hands the change on, and the command completes. -/
theorem unitCommandsTaken : Obligations.UnitCommandsTaken := by
  intro w s s1 c u config fresh idle arg
  refine ⟨fun r take filler robot arming => ?_, fun r take filler robot => ?_, fun take => ?_⟩
  · have answer : exec .release s = _ := State.generalCommand_acts take config fresh idle fun c w s => s.releaseTaken c w
    obtain ⟨p, rfl⟩ := State.take_path take
    have waits : (State.onReport { s with path := p } fun r => { r with lastSeq := some (wordSeq w) }).isArming u = true := by
      simp [State.isArming, robot, arming]
    rw [State.releaseTaken_robot (HallConfig.robotArg_eq arg filler) waits] at answer
    refine ⟨_, answer, ?_, ?_, ?_, ?_, ?_⟩
    · exact (Table.get_modify_self _ _ _).trans (congrArg (Option.map _) robot)
    · exact fun v hv => Table.get_modify_ne _ _ hv
    · refine State.generalDone_of_complete rfl rfl fun h => ?_
      change (s.given ++ _).filter _ = []
      rw [h]
      rfl
    · refine State.notices_of_complete (more := [_]) rfl rfl (fun h => ?_) rfl
      change (s.given ++ _).filter _ = _
      rw [h]
      rfl
    · cases s
      rfl
  · have answer : exec .clearSuspect s = _ :=
      State.generalCommand_acts take config fresh idle fun c w s => s.clearSuspectTaken c w
    obtain ⟨p, rfl⟩ := State.take_path take
    rw [State.clearSuspectTaken_robot _ (HallConfig.robotArg_eq arg filler)] at answer
    obtain ⟨r', robot', own, suspect⟩ := State.handOn_changed
      (s := (State.onReport { s with path := p } fun r => { r with lastSeq := some (wordSeq w) }).onRobot u fun r =>
        { r with suspect := false, ring := [] })
      config ((Table.get_modify_self _ _ _).trans (congrArg (Option.map _) robot))
    refine ⟨_, r', answer, robot', own, suspect, ⟨fun v hv => ?_, ?_⟩, ?_, ?_⟩
    · exact (State.handOn_own _ v).trans (congrArg (Option.map Robot.own) (Table.get_modify_ne _ _ hv))
    · exact State.handOn_latchedStand _
    · refine State.generalDone_of_complete (State.handOn_report _) (by rw [State.handOn_time]; rfl) fun h => ?_
      rw [State.handOn_gives]
      exact congrArg (List.filter _) h
    · rw [State.handOn_eq]
      cases s
      rfl
  · have answer : exec .accountClear s = _ :=
      State.generalCommand_acts take config fresh idle fun _ w s => s.accountClearTaken w
    obtain ⟨p, rfl⟩ := State.take_path take
    rw [State.accountClearTaken_unit _ arg] at answer
    refine ⟨_, answer, ?_, ?_, ?_, ?_, ?_⟩
    · exact Table.get_modify_self _ _ _
    · exact fun v hv => Table.get_modify_ne _ _ hv
    · exact State.generalDone_of_complete rfl rfl fun h => congrArg (List.filter _) h
    · cases s
      rfl
    · cases s
      rfl

end Sys2Proof.Machine
end

section
/-! What an accepted mark makes of the slots (R21, R22, R26, R28, R68 to R70): each unit's part as one equation on the queue. -/

namespace Sys2Proof.Machine

/-! ## Bottles of the queue -/

/-- Consecutive bottles are distinct, as long as the indices do not come round. -/
theorem consecutive_nodup {l : List Bottle} (h : consecutive l) (hl : l.length ≤ 2 ^ 32) : l.Nodup := by
  cases l with
  | nil => exact List.nodup_nil
  | cons b l =>
    refine List.nodup_iff_injective_getElem.2 fun i j hij => ?_
    have places : BitVec.ofNat 32 i.val = BitVec.ofNat 32 j.val := by
      have same : (b :: l)[i.val] = (b :: l)[j.val] := hij
      rw [consecutive_getElem h i i.isLt, consecutive_getElem h j j.isLt] at same
      exact (BitVec.add_right_inj b).1 same
    have hi := i.isLt
    have hj := j.isLt
    have := congrArg BitVec.toNat places
    rw [BitVec.toNat_ofNat, BitVec.toNat_ofNat, Nat.mod_eq_of_lt (by omega), Nat.mod_eq_of_lt (by omega)] at this
    exact Fin.ext this

/-- Two slots of a queue of distinct bottles that hold one bottle are the same slot. -/
theorem slot_eq_of_bottle {l : List Slot} (nodup : (l.map Slot.bottle).Nodup) {p q : Slot} (hp : p ∈ l) (hq : q ∈ l)
    (h : p.bottle = q.bottle) : p = q :=
  List.inj_on_of_nodup_map nodup hp hq h

/-- In a queue of distinct bottles, the slot of bottle `b` is the one that holds it (R36). -/
theorem State.slotOf_eq_some {s : State} (nodup : (s.queue.map Slot.bottle).Nodup) {b : Bottle} {q : Slot} :
    s.slotOf b = some q ↔ q ∈ s.queue ∧ q.bottle = b := by
  constructor
  · intro h
    exact ⟨List.mem_of_find?_eq_some h, of_decide_eq_true (List.find?_some (p := fun q : Slot => decide (q.bottle = b)) h)⟩
  · rintro ⟨hq, rfl⟩
    cases found : s.slotOf q.bottle with
    | none => exact absurd rfl (of_decide_eq_false (Bool.eq_false_iff.2 (List.find?_eq_none.1 found q hq)))
    | some p =>
      have holds := of_decide_eq_true (List.find?_some (p := fun p : Slot => decide (p.bottle = q.bottle)) found)
      rw [slot_eq_of_bottle nodup (List.mem_of_find?_eq_some found) hq holds]

/-- The bottle `d` pitches behind the newest bottle `k`. -/
theorem State.bottleAt_eq {s : State} {k : Bottle} (hk : s.time.newest = some k) (d : Nat) :
    s.bottleAt d = k - BitVec.ofNat 32 d := by
  simp only [State.bottleAt, hk, Option.getD_some]

/-- One bottle stands a distance behind another exactly when their difference is that distance. -/
theorem bottle_eq_sub_iff {b k d : Bottle} : b = k - d ↔ k - b = d := by
  constructor <;> intro h <;> bv_omega

/-! ## Disturbed marks (R26, R28) -/

/-- Zone `z`, out of RUN, marks slot `q` at the mark of bottle `k` (R28). -/
def State.marksFirst (s : State) (c : HallConfig) (k : Bottle) (q : Slot) (z : Fin 8) : Bool :=
  decide (((c.zones.get z).hasSpan = true ∧ (s.zones.get z).state ≠ .run) ∧
    k - q.bottle = BitVec.ofNat 32 (c.zones.get z).first)

/-- Slot `q` with the mark of the first of the zones `zs` that marks it at the mark of bottle `k` (R26). -/
def State.markedBy (s : State) (c : HallConfig) (k : Bottle) (zs : List (Fin 8)) (q : Slot) : Slot :=
  { q with disturbed := q.disturbed.or (zs.find? (s.marksFirst c k q)) }

/-- Slot `q` after the marking of R28. -/
def State.marked (s : State) (c : HallConfig) (k : Bottle) (q : Slot) : Slot :=
  s.markedBy c k (List.finRange 8) q

/-- One zone's marking, on the slots. -/
theorem State.markFirst_eq {s : State} {k : Bottle} (hk : s.time.newest = some k) (c : HallConfig) (z : Fin 8) :
    s.markFirst c z = { s with queue := s.queue.map fun q => if s.marksFirst c k q z then q.disturb z else q } := by
  simp only [State.markFirst, State.marksFirst, hk, Option.getD_some, decide_eq_true_eq]
  split
  · next out => simp only [State.onSlot, bottle_eq_sub_iff, out, true_and, ne_eq, not_false_eq_true]
  · next inside => simp only [inside, false_and, if_false, List.map_id']

/-- A zone's mark, and those of the zones after it. -/
theorem State.markedBy_cons (s : State) (c : HallConfig) (k : Bottle) (z : Fin 8) (zs : List (Fin 8)) (q : Slot) :
    s.markedBy c k (z :: zs) q = s.markedBy c k zs (if s.marksFirst c k q z then q.disturb z else q) := by
  unfold State.markedBy
  cases marks : s.marksFirst c k q z with
  | true =>
    simp only [List.find?_cons, marks, if_true, Slot.disturb]
    cases q.disturbed <;> rfl
  | false => simp only [List.find?_cons, marks, Bool.false_eq_true, if_false]

/-- The markings of a list of zones, on the slots. -/
theorem State.foldl_markFirst {s : State} {k : Bottle} (hk : s.time.newest = some k) (c : HallConfig) (zs : List (Fin 8)) :
    zs.foldl (fun s z => s.markFirst c z) s = { s with queue := s.queue.map (s.markedBy c k zs) } := by
  induction zs generalizing s with
  | nil =>
    have none : s.markedBy c k [] = id := funext fun q => congrArg (fun x => { q with disturbed := x }) Option.or_none
    rw [none, List.map_id]
    rfl
  | cons z zs ih =>
    have rest := ih (s := { s with queue := s.queue.map fun q => if s.marksFirst c k q z then q.disturb z else q }) hk
    rw [List.foldl_cons, s.markFirst_eq hk, rest]
    simp only [List.map_map]
    congr 1
    exact List.map_congr_left fun q _ => (s.markedBy_cons c k z zs q).symm

/-- The zones' markings, on the slots. -/
theorem State.markFirsts_eq {s : State} {k : Bottle} (hk : s.time.newest = some k) (c : HallConfig) :
    s.markFirsts c = { s with queue := s.queue.map (s.marked c k) } :=
  State.foldl_markFirst hk c _

/-- Which zone's mark a slot has after the marking. -/
theorem State.marked_disturbed (s : State) (c : HallConfig) (k : Bottle) (q : Slot) :
    (s.marked c k q).disturbed = q.disturbed.or ((List.finRange 8).find? (s.marksFirst c k q)) := rfl

/-- The slot is marked by what stands on it or by a zone (R26, R28). -/
theorem State.marked_disturbed_ne_none (s : State) (c : HallConfig) (k : Bottle) (q : Slot) :
    (s.marked c k q).disturbed ≠ none ↔ q.disturbed ≠ none ∨ ∃ z, s.marksFirst c k q z = true := by
  rw [State.marked_disturbed]
  cases q.disturbed <;> simp

/-- The joining slot's bottle, and the bottles before it, after the mark of bottle `k`: the head has left (R22). -/
theorem State.leave_eq {s : State} {c : HallConfig} {k : Bottle} {q : Slot} {qs : List Slot}
    (hk : s.time.newest = some k) (hq : s.queue = q :: qs) :
    s.leave c = { s with queue := if c.retention < (k - q.bottle).toNat then qs else q :: qs } := by
  have pos : s.position q.bottle = (k - q.bottle).toNat := by simp only [State.position, hk, Option.getD_some]
  unfold State.leave
  split
  · next h =>
    rw [h] at hq
    cases hq
  · next p ps h =>
    obtain ⟨rfl, rfl⟩ := List.cons.inj (h.symm.trans hq)
    rw [pos]
    split
    · rfl
    · rw [← hq]

/-- The tracking unit's part of the mark of bottle `k` (R21): the slots, with the head gone once it has passed the retention
depth, as the zones have marked them. -/
theorem State.trackMark_eq {s : State} {c : HallConfig} {k : Bottle} {x : Nat} (hk : s.time.newest = some k)
    (order : consecutive (s.queue.map Slot.bottle ++ [k])) (short : s.queue.length < 2 ^ 32) :
    s.trackMark c k x = { s with queue := (s.slotsAfter c (s.joiningSlot c k x)).map (s.marked c k) } := by
  have marked : (s.join c k x).markFirsts c =
      { s with queue := (s.queue ++ [s.joiningSlot c k x]).map (s.marked c k) } :=
    State.markFirsts_eq (s := s.join c k x) hk c
  rw [State.trackMark, marked]
  cases hq : s.queue with
  | nil =>
    refine (State.leave_eq (s := { s with queue := ([] ++ [s.joiningSlot c k x]).map (s.marked c k) }) hk rfl).trans ?_
    have newest : (k - (s.marked c k (s.joiningSlot c k x)).bottle).toNat = 0 := by
      rw [show (s.marked c k (s.joiningSlot c k x)).bottle = k from rfl, BitVec.sub_self]
      rfl
    simp only [newest, Nat.not_lt_zero, if_false, State.slotsAfter, hq, List.length_nil]
    rfl
  | cons q qs =>
    have head : k - q.bottle = BitVec.ofNat 32 (qs.map Slot.bottle ++ [k]).length := by
      rw [hq] at order
      exact consecutive_head order (List.getLast?_concat (l := q.bottle :: qs.map Slot.bottle))
    have position : (k - (s.marked c k q).bottle).toNat = s.queue.length := by
      rw [show (s.marked c k q).bottle = q.bottle from rfl, head, BitVec.toNat_ofNat]
      rw [hq] at short ⊢
      simp only [List.length_append, List.length_map, List.length_cons, List.length_nil] at short ⊢
      omega
    refine (State.leave_eq (s := { s with queue := (q :: qs ++ [s.joiningSlot c k x]).map (s.marked c k) }) hk rfl).trans ?_
    simp only [position, State.slotsAfter, hq, List.tail_cons]
    split <;> rfl

/-! ## Decisions (R68 to R70) -/

/-- The cameras whose verdicts a gate's decision reads (R69, log 25). -/
theorem HallConfig.mem_gateCameras {c : HallConfig} {g : Fin 2} {n : Fin 6} : n ∈ c.gateCameras g ↔ c.Sees g n := by
  simp [HallConfig.gateCameras, HallConfig.Sees, HallConfig.hasCamera, HallConfig.assigned]

/-- A slot's verdict of camera `n` is MAJOR. -/
theorem Slot.majorAt_iff {q : Slot} {n : Fin 6} :
    q.majorAt n = true ↔ ∃ v, q.verdicts.get n = some v ∧ v.kept.grade = .major := by
  unfold Slot.majorAt
  cases q.verdicts.get n <;> simp

/-- A new decision is that of R69 and R70. -/
theorem State.newDecision_decides (s : State) (c : HallConfig) (g : Fin 2) (q : Slot) :
    s.Decides c g q (s.newDecision c g q) := by
  have reasons : ∀ r, r ∈ (s.newDecision c g q).reasons ↔ q.applies c g r = true := fun r => by
    simp only [State.newDecision, Slot.reasons, List.mem_filter]
    cases r <;> simp
  refine ⟨List.filter_sublist, ?_, ?_, ?_, ?_, ?_, by simp [State.newDecision], rfl, rfl, rfl⟩ <;> rw [reasons]
  · simp [Slot.applies]
  · simp [Slot.applies]
  · simp [Slot.applies, Option.isSome_iff_ne_none]
  · simp [Slot.applies, HallConfig.mem_gateCameras]
  · simp only [Slot.applies, List.any_eq_true, HallConfig.mem_gateCameras, Slot.majorAt_iff]
    simp only [← exists_and_left]

/-- A decision reads of the slot everything but its decisions, and of the state what makes the gate available. -/
theorem State.Decides.congr {s t : State} {c : HallConfig} {g : Fin 2} {q q' : Slot} {d : Decision}
    (h : s.Decides c g q d) (hq : { q' with decisions := q.decisions } = q) (ha : s.available c g = t.available c g) :
    t.Decides c g q' d := by
  have purged : q'.purged = q.purged := (congrArg Slot.purged hq :)
  have filled : q'.filled = q.filled := (congrArg Slot.filled hq :)
  have disturbed : q'.disturbed = q.disturbed := (congrArg Slot.disturbed hq :)
  have verdicts : q'.verdicts = q.verdicts := (congrArg Slot.verdicts hq :)
  exact { h with
    purged := purged ▸ h.purged, unfilled := filled ▸ h.unfilled, disturbed := disturbed ▸ h.disturbed
    noVerdict := verdicts ▸ h.noVerdict, major := verdicts ▸ h.major, undeliverable := ha ▸ h.undeliverable }

/-- A gate is available by the ports, the zones and its record (R67). -/
theorem State.available_congr {s t : State} {c : HallConfig} {g : Fin 2} (hp : t.ports = s.ports) (hz : t.zones = s.zones)
    (hg : t.gates.get g = s.gates.get g) : t.available c g = s.available c g := by
  rw [State.available, hg, State.available]
  split
  · simp only [State.gateCondition_congr hp hz]
  · rfl

/-- Whether gate `g` forms its decision on a slot (R68). -/
def HallConfig.formsOn (c : HallConfig) (g : Fin 2) (k : Bottle) (q : Slot) : Bool :=
  c.hasGate g && decide (k - q.bottle = BitVec.ofNat 32 (c.decisionPoint g)) && (q.decisions.get g).isNone && !q.skips g

theorem HallConfig.formsOn_iff {c : HallConfig} {g : Fin 2} {k : Bottle} {q : Slot} :
    c.formsOn g k q = true ↔ c.FormsOn g k q := by
  simp only [HallConfig.formsOn, HallConfig.FormsOn, Slot.skips, Bool.and_eq_true, decide_eq_true_eq,
    Option.isNone_iff_eq_none, Bool.not_eq_true', Bool.and_eq_false_iff, decide_eq_false_iff_not, not_and_or, and_assoc]
  rfl

/-- Slot `q` with the decision that gate `g` forms on it at the mark of bottle `k`. -/
def State.formed (s : State) (c : HallConfig) (g : Fin 2) (k : Bottle) (q : Slot) : Slot :=
  if c.formsOn g k q then { q with decisions := q.decisions.set g (some (s.newDecision c g q)) } else q

/-- The gate's record with the decision counted that it forms at the mark of bottle `k`. -/
def State.counted (s : State) (c : HallConfig) (g : Fin 2) (k : Bottle) : Option GateRec → Option GateRec :=
  match s.queue.find? (c.formsOn g k) with
  | some q => Option.map fun r => r.count (s.newDecision c g q)
  | none => id

/-- A gate that forms a decision on no slot leaves the state (R68). -/
theorem State.formAt_of_none {s : State} {c : HallConfig} {g : Fin 2} {k : Bottle} (hk : s.time.newest = some k)
    (none : ∀ q ∈ s.queue, c.formsOn g k q = false) : s.formAt c g = s := by
  unfold State.formAt
  split
  · next present =>
    split
    · next q found =>
      have mem := List.mem_of_find?_eq_some found
      have here := of_decide_eq_true
        (List.find?_some (p := fun q : Slot => decide (q.bottle = s.bottleAt (c.decisionPoint g))) found)
      rw [State.bottleAt_eq hk, bottle_eq_sub_iff] at here
      have not := none q mem
      simp only [HallConfig.formsOn, present, here, decide_true, Bool.true_and] at not
      refine if_pos (Bool.or_eq_true _ _ ▸ ?_)
      rcases Bool.and_eq_false_iff.1 not with formed | skips
      · exact .inr (by simpa using formed)
      · exact .inl (by simpa using skips)
    · rfl
  · rfl

/-- A gate that forms its decision on slot `q` (R68 to R70). -/
theorem State.formAt_of_forms {s : State} {c : HallConfig} {g : Fin 2} {k : Bottle} {q : Slot} (hk : s.time.newest = some k)
    (nodup : (s.queue.map Slot.bottle).Nodup) (mem : q ∈ s.queue) (forms : c.formsOn g k q = true) :
    s.formAt c g = (s.onSlot q.bottle fun q => { q with decisions := q.decisions.set g (some (s.newDecision c g q)) }).onGate g
      fun r => r.count (s.newDecision c g q) := by
  simp only [HallConfig.formsOn, Bool.and_eq_true, decide_eq_true_eq, Bool.not_eq_true'] at forms
  obtain ⟨⟨⟨present, here⟩, new⟩, stays⟩ := forms
  have found : s.slotOf (s.bottleAt (c.decisionPoint g)) = some q := by
    rw [State.slotOf_eq_some nodup, State.bottleAt_eq hk, bottle_eq_sub_iff]
    exact ⟨mem, here⟩
  simp only [State.formAt, present, found, if_true, stays, Option.isSome_eq_false_iff.2 new, Bool.or_self, Bool.false_eq_true,
    if_false]

/-- A gate's forming of its decision, on the slots and the gate's record. -/
theorem State.formAt_eq {s : State} {k : Bottle} (hk : s.time.newest = some k) (nodup : (s.queue.map Slot.bottle).Nodup)
    (c : HallConfig) (g : Fin 2) :
    s.formAt c g =
      { s with queue := s.queue.map (s.formed c g k), gates := s.gates.modify g (s.counted c g k) } := by
  unfold State.counted
  cases found : s.queue.find? (c.formsOn g k) with
  | none =>
    have none : ∀ q ∈ s.queue, c.formsOn g k q = false := fun q hq => Bool.eq_false_iff.2 (List.find?_eq_none.1 found q hq)
    have slots : s.queue.map (s.formed c g k) = s.queue :=
      (List.map_congr_left fun q hq => by rw [State.formed, none q hq]; rfl).trans s.queue.map_id
    rw [State.formAt_of_none hk none, slots]
    exact (congrArg (fun gates => { s with gates := gates }) (Table.modify_id s.gates g)).symm
  | some q =>
    have mem := List.mem_of_find?_eq_some found
    have forms := List.find?_some found
    have slots : s.queue.map (s.formed c g k) = s.queue.map fun p =>
        if p.bottle = q.bottle then { p with decisions := p.decisions.set g (some (s.newDecision c g p)) } else p := by
      refine List.map_congr_left fun p hp => ?_
      by_cases same : p.bottle = q.bottle
      · obtain rfl := slot_eq_of_bottle nodup hp mem same
        rw [State.formed, if_pos forms, if_pos rfl]
      · have other : ¬ c.formsOn g k p = true := fun hf => by
          obtain ⟨-, hp, -⟩ := HallConfig.formsOn_iff.1 hf
          obtain ⟨-, hq, -⟩ := HallConfig.formsOn_iff.1 forms
          rw [← bottle_eq_sub_iff] at hp hq
          exact same (hp.trans hq.symm)
        rw [State.formed, if_neg other, if_neg same]
    rw [State.formAt_of_forms hk nodup mem forms, slots]
    rfl

end Sys2Proof.Machine
end

section
/-! What both gates make of the slots at an accepted mark, and the slots after it (R28, R68 to R70). -/

namespace Sys2Proof.Machine

/-! ## One gate -/

/-- Whether a gate forms its decision is read from the slot's bottle, its own entry and the ejected mark. -/
theorem HallConfig.formsOn_congr {c : HallConfig} {g : Fin 2} {k : Bottle} {q q' : Slot} (hb : q'.bottle = q.bottle)
    (hd : q'.decisions.get g = q.decisions.get g) (he : q'.ejected = q.ejected) : c.formsOn g k q' = c.formsOn g k q := by
  simp only [HallConfig.formsOn, Slot.skips, hb, hd, he]

/-- Forming a decision moves the slot's decisions alone. -/
theorem State.formed_own (s : State) (c : HallConfig) (g : Fin 2) (k : Bottle) (q : Slot) :
    { s.formed c g k q with decisions := q.decisions } = q := by
  unfold State.formed
  split <;> rfl

/-- The decision formed stands in the slot. -/
theorem State.formed_self (s : State) {c : HallConfig} {g : Fin 2} {k : Bottle} {q : Slot} (h : c.formsOn g k q = true) :
    (s.formed c g k q).decisions.get g = some (s.newDecision c g q) := by
  rw [State.formed, if_pos h]
  exact Table.get_set_self _ _ _

/-- Where no decision is formed the slot stands. -/
theorem State.formed_of_not (s : State) {c : HallConfig} {g : Fin 2} {k : Bottle} {q : Slot} (h : ¬ c.formsOn g k q = true) :
    s.formed c g k q = q :=
  if_neg h

/-- The other gate's entry stands. -/
theorem State.formed_other (s : State) {c : HallConfig} {g g' : Fin 2} {k : Bottle} {q : Slot} (h : g' ≠ g) :
    (s.formed c g k q).decisions.get g' = q.decisions.get g' := by
  unfold State.formed
  split
  · exact Table.get_set_ne _ _ h
  · rfl

/-- Forming decisions renames no bottle. -/
theorem State.formed_bottles (s : State) (c : HallConfig) (g : Fin 2) (k : Bottle) (l : List Slot) :
    (l.map (s.formed c g k)).map Slot.bottle = l.map Slot.bottle :=
  map_bottle_map (s.formed c g k) (fun q => (congrArg Slot.bottle (s.formed_own c g k q) :)) l

/-- The count of the decision formed on slot `q`. -/
theorem State.counted_of_forms {s : State} {c : HallConfig} {g : Fin 2} {k : Bottle} {q : Slot}
    (nodup : (s.queue.map Slot.bottle).Nodup) (mem : q ∈ s.queue) (forms : c.formsOn g k q = true) :
    s.counted c g k = Option.map fun r => r.count (s.newDecision c g q) := by
  unfold State.counted
  split
  · next p found =>
    obtain ⟨-, hp, -⟩ := HallConfig.formsOn_iff.1 (List.find?_some found)
    obtain ⟨-, hq, -⟩ := HallConfig.formsOn_iff.1 forms
    rw [← bottle_eq_sub_iff] at hp hq
    rw [slot_eq_of_bottle nodup (List.mem_of_find?_eq_some found) mem (hp.trans hq.symm)]
  · next none => exact absurd forms (List.find?_eq_none.1 none q mem)

/-- Where no decision is formed none is counted. -/
theorem State.counted_of_none {s : State} {c : HallConfig} {g : Fin 2} {k : Bottle}
    (none : ∀ q ∈ s.queue, ¬ c.formsOn g k q = true) : s.counted c g k = id := by
  unfold State.counted
  rw [List.find?_eq_none.2 none]

/-! ## Both gates -/

/-- The state after both gates have formed their decisions (R68). -/
def State.decided (s : State) (c : HallConfig) : State :=
  (s.formAt c 0).formAt c 1

/-- Slot `q` with the decisions that the gates form on it. -/
def State.decidedSlot (s : State) (c : HallConfig) (k : Bottle) (q : Slot) : Slot :=
  (s.formAt c 0).formed c 1 k (s.formed c 0 k q)

/-- The records of the gates with their decisions counted. -/
def State.decidedGates (s : State) (c : HallConfig) (k : Bottle) : Table (Option GateRec) 2 :=
  (s.gates.modify 0 (s.counted c 0 k)).modify 1 ((s.formAt c 0).counted c 1 k)

section
variable {s : State} {c : HallConfig} {k : Bottle} (hk : s.time.newest = some k) (nodup : (s.queue.map Slot.bottle).Nodup)
include hk nodup

/-- The slots after gate 0 have the bottles they had. -/
theorem State.formAt_zero_nodup : ((s.formAt c 0).queue.map Slot.bottle).Nodup := by
  rw [State.formAt_eq hk nodup]
  exact (s.formed_bottles c 0 k s.queue).symm ▸ nodup

/-- Both gates' forming of their decisions moves the slots and the gates' records. -/
theorem State.decided_eq :
    s.decided c = { s with queue := s.queue.map (s.decidedSlot c k), gates := s.decidedGates c k } := by
  have newest : (s.formAt c 0).time.newest = some k := by
    rw [State.formAt_eq hk nodup]
    exact hk
  rw [State.decided, State.formAt_eq newest (State.formAt_zero_nodup hk nodup)]
  have first := State.formAt_eq hk nodup c 0
  have slots : (s.formAt c 0).queue.map ((s.formAt c 0).formed c 1 k) = s.queue.map (s.decidedSlot c k) := by
    rw [show (s.formAt c 0).queue = s.queue.map (s.formed c 0 k) from congrArg State.queue first, List.map_map]
    rfl
  have gates : (s.formAt c 0).gates.modify 1 ((s.formAt c 0).counted c 1 k) = s.decidedGates c k := by
    rw [show (s.formAt c 0).gates = s.gates.modify 0 (s.counted c 0 k) from congrArg State.gates first]
    rfl
  rw [slots, gates]
  exact congrArg (fun a : State =>
    { a with queue := s.queue.map (s.decidedSlot c k), gates := s.decidedGates c k }) first

omit hk nodup in
/-- Forming decisions moves the slot's decisions alone. -/
theorem State.decidedSlot_own (q : Slot) : { s.decidedSlot c k q with decisions := q.decisions } = q := by
  have second := (s.formAt c 0).formed_own c 1 k (s.formed c 0 k q)
  have first := s.formed_own c 0 k q
  exact (congrArg (fun p : Slot => { p with decisions := q.decisions }) second).trans first

omit hk nodup in
/-- Gate 1 forms its decision on a slot as gate 0 left it exactly when on the slot as it was. -/
theorem State.formsOn_one_formed (q : Slot) : c.formsOn 1 k (s.formed c 0 k q) = c.formsOn 1 k q :=
  HallConfig.formsOn_congr (congrArg Slot.bottle (s.formed_own c 0 k q) :) (s.formed_other (by decide))
    (congrArg Slot.ejected (s.formed_own c 0 k q) :)

omit hk nodup in
/-- A gate that forms no decision on the slot leaves its entry. -/
theorem State.decidedSlot_stands {g : Fin 2} {q : Slot} (h : ¬ c.FormsOn g k q) :
    (s.decidedSlot c k q).decisions.get g = q.decisions.get g := by
  rw [← HallConfig.formsOn_iff] at h
  match g with
  | 0 => rw [State.decidedSlot, State.formed_other _ (by decide), State.formed_of_not _ h]
  | 1 =>
    rw [← s.formsOn_one_formed] at h
    rw [State.decidedSlot, State.formed_of_not _ h, State.formed_other _ (by decide)]

/-- A gate that forms its decision on a slot of the queue puts it there, and counts it. -/
theorem State.decidedSlot_forms {g : Fin 2} {q : Slot} (mem : q ∈ s.queue) (h : c.FormsOn g k q) :
    ∃ d, (s.decidedSlot c k q).decisions.get g = some d ∧ s.Decides c g (s.decidedSlot c k q) d ∧
      (s.decidedGates c k).get g = (s.gates.get g).map fun r => r.count d := by
  rw [← HallConfig.formsOn_iff] at h
  match g with
  | 0 =>
    refine ⟨s.newDecision c 0 q, ?_, (s.newDecision_decides c 0 q).congr (State.decidedSlot_own q) rfl, ?_⟩
    · rw [State.decidedSlot, State.formed_other _ (by decide), State.formed_self _ h]
    · rw [State.decidedGates, Table.get_modify_ne _ _ (by decide), Table.get_modify_self, State.counted_of_forms nodup mem h]
  | 1 =>
    have first := State.formAt_eq hk nodup c 0
    have gate : (s.formAt c 0).gates.get 1 = s.gates.get 1 := by
      rw [show (s.formAt c 0).gates = s.gates.modify 0 (s.counted c 0 k) from congrArg State.gates first]
      exact Table.get_modify_ne _ _ (by decide)
    have available : (s.formAt c 0).available c 1 = s.available c 1 :=
      State.available_congr (congrArg State.ports first :) (congrArg State.zones first :) gate
    rw [← s.formsOn_one_formed] at h
    have mem' : s.formed c 0 k q ∈ (s.formAt c 0).queue := by
      rw [show (s.formAt c 0).queue = s.queue.map (s.formed c 0 k) from congrArg State.queue first]
      exact List.mem_map_of_mem mem
    refine ⟨(s.formAt c 0).newDecision c 1 (s.formed c 0 k q), State.formed_self _ h,
      ((s.formAt c 0).newDecision_decides c 1 _).congr (State.formed_own _ c 1 k _) available, ?_⟩
    rw [State.decidedGates, Table.get_modify_self, Table.get_modify_ne _ _ (by decide),
      State.counted_of_forms (State.formAt_zero_nodup hk nodup) mem' h]

/-- A gate that forms no decision keeps its record. -/
theorem State.decidedGates_idle {g : Fin 2} (h : ∀ q ∈ s.queue, ¬ c.FormsOn g k q) :
    (s.decidedGates c k).get g = s.gates.get g := by
  simp only [← HallConfig.formsOn_iff] at h
  match g with
  | 0 =>
    rw [State.decidedGates, Table.get_modify_ne _ _ (by decide), Table.get_modify_self, State.counted_of_none h]
    rfl
  | 1 =>
    have none : ∀ q ∈ (s.formAt c 0).queue, ¬ c.formsOn 1 k q = true := by
      rw [State.formAt_eq hk nodup]
      intro q hq
      obtain ⟨p, hp, rfl⟩ := List.mem_map.1 hq
      rw [s.formsOn_one_formed]
      exact h p hp
    rw [State.decidedGates, Table.get_modify_self, Table.get_modify_ne _ _ (by decide), State.counted_of_none none]
    rfl

end

/-! ## The slots after the mark -/

/-- The count of a decision, as R69 and R70 have it. -/
theorem GateRec.count_eq (r : GateRec) (d : Decision) :
    r.count d =
      { r with
        passed := if d.reasons = [] then min 4294967295 (r.passed + 1) else r.passed
        rejected := if d.reasons = [] then r.rejected else min 4294967295 (r.rejected + 1)
        undeliverable := if d.undeliverable then min 4294967295 (r.undeliverable + 1) else r.undeliverable } := by
  unfold GateRec.count Decision.rejects
  cases d.reasons <;> rfl

/-- The slot that the mark makes of slot `q`: marked by the zones, and decided by the gates of `s`. -/
theorem State.slotMarked {a s : State} {c : HallConfig} {k : Bottle} {q : Slot} (hk : s.time.newest = some k)
    (nodup : (s.queue.map Slot.bottle).Nodup) (mem : a.marked c k q ∈ s.queue) (hp : s.ports = a.ports)
    (hz : s.zones = a.zones) (hg : s.gates = a.gates) :
    a.SlotMarked c k q (s.decidedSlot c k (a.marked c k q)) := by
  have decided := State.decidedSlot_own (s := s) (c := c) (k := k) (a.marked c k q)
  have disturbed : (s.decidedSlot c k (a.marked c k q)).disturbed =
      q.disturbed.or ((List.finRange 8).find? (a.marksFirst c k q)) := (congrArg Slot.disturbed decided :)
  have forms : ∀ g, c.FormsOn g k (a.marked c k q) ↔ c.FormsOn g k q := fun g => Iff.rfl
  have marks : ∀ z, a.marksFirst c k q z = true ↔
      (c.zones.get z).hasSpan = true ∧ (a.zones.get z).state ≠ .run ∧
        k - q.bottle = BitVec.ofNat 32 (c.zones.get z).first := fun z => by
    simp only [State.marksFirst, decide_eq_true_eq, and_assoc]
  refine
    { own := (congrArg (fun p : Slot => { p with disturbed := q.disturbed }) decided :)
      kept := fun h => ?_
      disturbed := ?_
      recorded := fun h z hz' => ?_
      formed := fun g h => ?_
      stands := fun g h => State.decidedSlot_stands ((forms g).not.2 h) }
  · rw [disturbed]
    cases hd : q.disturbed with
    | none => exact absurd hd h
    | some z => rfl
  · rw [disturbed]
    simp only [← marks]
    exact a.marked_disturbed_ne_none c k q
  · rw [disturbed, h] at hz'
    exact (marks z).1 (List.find?_some hz')
  · obtain ⟨d, entry, decides, -⟩ := State.decidedSlot_forms hk nodup mem ((forms g).2 h)
    have available : s.available c g = a.available c g := State.available_congr hp hz (by rw [hg])
    exact ⟨d, entry, decides.congr rfl available⟩

end Sys2Proof.Machine
end

section
/-! The checks and the attribution of an accepted mark (R74, R78, R79), and PITCH_EDGE accepted (O21). -/

namespace Sys2Proof.Machine

/-! ## The checks (R74) -/

/-- A latched cause is added if `on` (R74). -/
def State.latchIf (s : State) (on : Bool) (g : Fin 2) (k : LineCause) (b : Bottle) : State :=
  if on then s.addHold g k (some b) else s

/-- Latching moves the line-hold set and the notices given. -/
theorem State.latchIf_eq (s : State) (on : Bool) (g : Fin 2) (k : LineCause) (b : Bottle) :
    s.latchIf on g k b =
      { s with lineHold := (s.latchIf on g k b).lineHold, given := (s.latchIf on g k b).given } := by
  unfold State.latchIf State.addHold
  repeat' split
  all_goals rfl

/-- The set after latching. -/
theorem State.latchIf_holds (s : State) (on : Bool) (g : Fin 2) (k : LineCause) (b : Bottle) (g' : Fin 2) (k' : LineCause) :
    (s.latchIf on g k b).holds g' k' = (s.holds g' k' || (on && decide (g' = g ∧ k' = k))) := by
  cases on with
  | true => exact s.addHold_holds g k (some b) g' k'
  | false => exact (Bool.or_false _).symm

/-- A cause that is new in the set has its notice (R75). -/
theorem State.latchIf_given (s : State) (on : Bool) (g : Fin 2) (k : LineCause) (b : Bottle) :
    (s.latchIf on g k b).given = s.given ++ s.latchNotice (s.latchIf on g k b) g k b := by
  simp only [State.latchNotice, State.latchIf_holds]
  cases on with
  | true => cases held : s.holds g k <;> simp [State.latchIf, State.addHold, held, State.give, State.note]
  | false => simp [State.latchIf]

/-- Whether gate `g` fails the check that latches a cause (R74). -/
def State.checkFails (s : State) (c : HallConfig) (g : Fin 2) : LineCause → Bool
  | .missed => c.hasGate g && s.failsCheck g (c.gates.get g).distance fun d => !d.delivered
  | .unconfirmed => c.hasGate g && s.failsCheck g ((c.gates.get g).distance + 2) fun _ => true
  | _ => false

/-- A check reads the slots and the newest bottle. -/
theorem State.failsCheck_latchIf (s : State) (on : Bool) (g g' : Fin 2) (k : LineCause) (b : Bottle) (d : Nat)
    (late : Decision → Bool) : (s.latchIf on g k b).failsCheck g' d late = s.failsCheck g' d late := by
  rw [State.latchIf_eq]
  rfl

/-- The bottle at a distance is read from the newest. -/
theorem State.bottleAt_latchIf (s : State) (on : Bool) (g : Fin 2) (k : LineCause) (b : Bottle) (d : Nat) :
    (s.latchIf on g k b).bottleAt d = s.bottleAt d := by
  rw [State.latchIf_eq]
  rfl

/-- The checks of gate `g` latch their causes. -/
theorem State.checkGate_eq (s : State) (c : HallConfig) (g : Fin 2) :
    s.checkGate c g =
      (s.latchIf (s.checkFails c g .missed) g .missed (s.bottleAt (c.gates.get g).distance)).latchIf
        (s.checkFails c g .unconfirmed) g .unconfirmed (s.bottleAt ((c.gates.get g).distance + 2)) := by
  simp only [State.checkGate, State.checkFails]
  cases c.hasGate g with
  | false => rfl
  | true =>
    have fails := s.failsCheck_latchIf (s.failsCheck g (c.gates.get g).distance fun d => !d.delivered) g g .missed
      (s.bottleAt (c.gates.get g).distance) ((c.gates.get g).distance + 2) fun _ => true
    have bottle := s.bottleAt_latchIf (s.failsCheck g (c.gates.get g).distance fun d => !d.delivered) g .missed
      (s.bottleAt (c.gates.get g).distance) ((c.gates.get g).distance + 2)
    simp only [State.latchIf] at fails bottle
    simp only [if_true, Bool.true_and, fails, bottle]
    rfl

/-- The state after both gates' checks (R74). -/
def State.checked (s : State) (c : HallConfig) : State :=
  (s.checkGate c 0).checkGate c 1

/-- The notices of the causes that the checks of gate `g` latched from `s` to `t`, at the mark of bottle `k` (R74, R75). -/
def State.checkNotices (s t : State) (c : HallConfig) (k : Bottle) (g : Fin 2) : List Notice :=
  s.latchNotice t g .missed (k - BitVec.ofNat 32 (c.gates.get g).distance) ++
    s.latchNotice t g .unconfirmed (k - BitVec.ofNat 32 ((c.gates.get g).distance + 2))

/-- A latched cause's notice is read from hall time and from what the set gains. -/
theorem State.latchNotice_congr {s s' t t' : State} {g : Fin 2} {k : LineCause} {b : Bottle}
    (hall : s'.time.hall = s.time.hall) (before : s'.holds g k = s.holds g k) (after : t'.holds g k = t.holds g k) :
    s'.latchNotice t' g k b = s.latchNotice t g k b := by
  simp only [State.latchNotice, State.note, hall, before, after]

/-- The notices of a gate's checks are read from hall time and from what the set gains. -/
theorem State.checkNotices_congr {s s' t t' : State} {c : HallConfig} {k : Bottle} {g : Fin 2}
    (hall : s'.time.hall = s.time.hall)
    (before : ∀ j, j = .missed ∨ j = .mismatch ∨ j = .unconfirmed → s'.holds g j = s.holds g j)
    (after : ∀ j, j = .missed ∨ j = .mismatch ∨ j = .unconfirmed → t'.holds g j = t.holds g j) :
    s'.checkNotices t' c k g = s.checkNotices t c k g := by
  rw [State.checkNotices, State.latchNotice_congr hall (before _ (.inl rfl)) (after _ (.inl rfl)),
    State.latchNotice_congr hall (before _ (.inr (.inr rfl))) (after _ (.inr (.inr rfl))), State.checkNotices]

/-- A gate's checks move the line-hold set and the notices given. -/
theorem State.checkGate_frame (s : State) (c : HallConfig) (g : Fin 2) :
    s.checkGate c g = { s with lineHold := (s.checkGate c g).lineHold, given := (s.checkGate c g).given } := by
  rw [State.checkGate_eq, State.latchIf_eq, State.latchIf_eq]

/-- The set after a gate's checks (R74). -/
theorem State.checkGate_holds (s : State) (c : HallConfig) (g g' : Fin 2) (k : LineCause) :
    (s.checkGate c g).holds g' k = (s.holds g' k || (decide (g' = g) && s.checkFails c g k)) := by
  rw [State.checkGate_eq, State.latchIf_holds, State.latchIf_holds, Bool.or_assoc]
  congr 1
  cases k <;> simp [State.checkFails, Bool.and_comm]

/-- The notices of a gate's checks. -/
theorem State.checkGate_given {s : State} {c : HallConfig} {g : Fin 2} {k : Bottle} (hk : s.time.newest = some k) :
    (s.checkGate c g).given = s.given ++ s.checkNotices (s.checkGate c g) c k g := by
  have hall := congrArg (fun a : State => a.time.hall)
    (s.latchIf_eq (s.checkFails c g .missed) g .missed (s.bottleAt (c.gates.get g).distance))
  rw [State.checkNotices, ← State.bottleAt_eq hk, ← State.bottleAt_eq hk, State.checkGate_eq, State.latchIf_given,
    State.latchIf_given, List.append_assoc]
  congr 2
  · exact State.latchNotice_congr rfl rfl (by simp [State.latchIf_holds])
  · exact State.latchNotice_congr hall (by simp [State.latchIf_holds]) rfl

/-- A check's causes are latched of a gate exactly by its own check. -/
theorem State.checkFails_checkGate (s : State) (c : HallConfig) (g g' : Fin 2) (k : LineCause) :
    (s.checkGate c g).checkFails c g' k = s.checkFails c g' k := by
  rw [State.checkGate_frame]
  rfl

/-- Both gates' checks move the line-hold set and the notices given. -/
theorem State.checked_frame (s : State) (c : HallConfig) :
    s.checked c = { s with lineHold := (s.checked c).lineHold, given := (s.checked c).given } := by
  have second := (s.checkGate c 0).checkGate_frame c 1
  exact second.trans (congrArg (fun a : State =>
    { a with lineHold := (s.checked c).lineHold, given := (s.checked c).given }) (s.checkGate_frame c 0))

/-- The set after both gates' checks (R74). -/
theorem State.checked_holds (s : State) (c : HallConfig) (g : Fin 2) (k : LineCause) :
    (s.checked c).holds g k = (s.holds g k || s.checkFails c g k) := by
  rw [State.checked, State.checkGate_holds, State.checkGate_holds, State.checkFails_checkGate]
  match g with
  | 0 => simp
  | 1 => simp

/-- The notices of both gates' checks. -/
theorem State.checked_given {s : State} {c : HallConfig} {k : Bottle} (hk : s.time.newest = some k) :
    (s.checked c).given = s.given ++ (List.finRange 2).flatMap (s.checkNotices (s.checked c) c k) := by
  have newest : (s.checkGate c 0).time.newest = some k := by
    rw [State.checkGate_frame]
    exact hk
  have hall : (s.checkGate c 0).time.hall = s.time.hall := by
    rw [State.checkGate_frame]
  have first : s.checkNotices (s.checkGate c 0) c k 0 = s.checkNotices (s.checked c) c k 0 :=
    State.checkNotices_congr rfl (fun _ _ => rfl) fun j _ => by simp [State.checked, State.checkGate_holds]
  have second : (s.checkGate c 0).checkNotices (s.checked c) c k 1 = s.checkNotices (s.checked c) c k 1 :=
    State.checkNotices_congr hall (fun j _ => by simp [State.checkGate_holds]) fun _ _ => rfl
  have both : (List.finRange 2).flatMap (s.checkNotices (s.checked c) c k) =
      s.checkNotices (s.checked c) c k 0 ++ s.checkNotices (s.checked c) c k 1 := by
    simp [List.finRange_succ]
  rw [both, ← first, ← second, ← List.append_assoc, ← State.checkGate_given hk]
  exact State.checkGate_given newest

/-- A check fails on the slot at its distance, which waits for what the check asks (R74). -/
theorem State.failsCheck_iff {s : State} {k : Bottle} (hk : s.time.newest = some k)
    (nodup : (s.queue.map Slot.bottle).Nodup) (g : Fin 2) (d : Nat) (late : Decision → Bool) :
    s.failsCheck g d late = true ↔
      ∃ q ∈ s.queue, ∃ x, k - q.bottle = BitVec.ofNat 32 d ∧ q.Waits g x ∧ late x = true := by
  have slot : ∀ q, s.slotOf (s.bottleAt d) = some q ↔ q ∈ s.queue ∧ k - q.bottle = BitVec.ofNat 32 d := fun q => by
    rw [State.slotOf_eq_some nodup, State.bottleAt_eq hk, bottle_eq_sub_iff]
  have fails : s.failsCheck g d late = true ↔
      ∃ q x, s.slotOf (s.bottleAt d) = some q ∧ q.decisions.get g = some x ∧ x.confirmed = none ∧ late x = true := by
    unfold State.failsCheck
    cases s.slotOf (s.bottleAt d) with
    | none => simp
    | some q => cases hq : q.decisions.get g <;> simp [hq]
  rw [fails]
  constructor
  · rintro ⟨q, x, found, entry, open_, fail⟩
    obtain ⟨mem, here⟩ := (slot q).1 found
    exact ⟨q, mem, x, here, ⟨entry, open_⟩, fail⟩
  · rintro ⟨q, mem, x, here, ⟨entry, open_⟩, fail⟩
    exact ⟨q, x, (slot q).2 ⟨mem, here⟩, entry, open_, fail⟩

/-! ## The attribution (R78, R79) -/

/-- A ring with one entry more (R78). -/
theorem ringAdd_eq (ring : List Bool) (e : Bool) : ringAdd ring e = (ring ++ [e]).drop (ring.length - 31) := by
  unfold ringAdd
  split
  · next short =>
    rw [show ring.length - 31 = 0 by omega]
    rfl
  · rw [List.drop_append_of_le_length (by omega)]

/-- A ring has at most 32 entries once one has joined. -/
theorem ringAdd_length (ring : List Bool) (e : Bool) : (ringAdd ring e).length ≤ 32 := by
  rw [ringAdd_eq, List.length_drop, List.length_append, List.length_singleton]
  omega

/-- A robot's record with an entry more in its ring, SUSPECT latched at the threshold (R78, R79). -/
def Robot.fed (r : Robot) (threshold : Nat) (e : Bool) : Robot :=
  { r with
    ring := ringAdd r.ring e
    suspect := r.suspect || (decide (threshold ≠ 0) && decide (threshold ≤ (ringAdd r.ring e).count true)) }

/-- ROBOT_SUSPECT of a latch that a change of the record sets, for bottle `b` (R79). -/
def State.suspectNotice (s : State) (u : Fin 24) (b : Bottle) (r r' : Robot) : Option Notice :=
  if r'.suspect && !r.suspect then
    some { s.note .robotSuspect with subject := u.val, detail := BitVec.ofNat 32 (r'.ring.count true), bottle := some b }
  else none

/-- A unit that is no robot has no ring to feed. -/
theorem State.feedRing_none {s : State} {u : Fin 24} (hr : s.robots.get u = none) (c : HallConfig) (e : Bool) (b : Bottle) :
    s.feedRing c u e b = s := by
  have same : s.robots.modify u (Option.map fun r => { r with ring := ringAdd r.ring e }) = s.robots := by
    rw [Table.modify, hr, Option.map_none, ← hr, Table.set_get]
  have fed : s.onRobot u (fun r => { r with ring := ringAdd r.ring e }) = s :=
    congrArg (fun robots => { s with robots := robots }) same
  simp only [State.feedRing, fed, hr]

/-- A robot's ring gains its entry, and SUSPECT may be latched, with its notice (R78, R79). -/
theorem State.feedRing_some {s : State} {u : Fin 24} {r : Robot} (hr : s.robots.get u = some r) (c : HallConfig) (e : Bool)
    (b : Bottle) :
    s.feedRing c u e b =
      { s with
        robots := s.robots.set u (some (r.fed c.timers.suspectThreshold e))
        given := s.given ++ (s.suspectNotice u b r (r.fed c.timers.suspectThreshold e)).toList } := by
  have turns : Robot.turnsSuspect { r with ring := ringAdd r.ring e } c.timers.suspectThreshold =
      ((r.fed c.timers.suspectThreshold e).suspect && !r.suspect) := by
    simp only [Robot.turnsSuspect, Robot.fed, Robot.ones]
    cases r.suspect with
    | true => simp only [Bool.not_true, Bool.and_false, Bool.false_and]
    | false =>
      simp only [Bool.not_false, Bool.and_true, Bool.false_or]
      rfl
  have joined : (s.onRobot u fun r => { r with ring := ringAdd r.ring e }).robots.get u =
      some { r with ring := ringAdd r.ring e } := by
    rw [State.onRobot, Table.get_modify_self, hr]
    rfl
  have ones : detailNat (List.count true (ringAdd r.ring e)) = BitVec.ofNat 32 (List.count true (ringAdd r.ring e)) := by
    have := List.count_le_length (a := true) (l := ringAdd r.ring e)
    have := ringAdd_length r.ring e
    exact detailNat_of_lt (by omega)
  simp only [State.feedRing, joined, turns, State.suspectNotice]
  cases latches : (r.fed c.timers.suspectThreshold e).suspect && !r.suspect with
  | true =>
    have latched : Robot.fed r c.timers.suspectThreshold e = { r with ring := ringAdd r.ring e, suspect := true } := by
      rw [Bool.and_eq_true] at latches
      rw [← latches.1]
      rfl
    simp only [if_true, State.latchSuspect, State.onRobot, State.give, Table.modify_modify, State.note, Robot.ones, ones]
    simp only [Table.modify, hr, latched]
    rfl
  | false =>
    have stands : Robot.fed r c.timers.suspectThreshold e = { r with ring := ringAdd r.ring e } := by
      have same : (r.fed c.timers.suspectThreshold e).suspect = r.suspect := by
        simp only [Robot.fed] at latches ⊢
        cases hs : r.suspect <;> simp_all
      calc Robot.fed r c.timers.suspectThreshold e
          = { r with ring := ringAdd r.ring e, suspect := (r.fed c.timers.suspectThreshold e).suspect } := rfl
        _ = { r with ring := ringAdd r.ring e } := by rw [same]
    simp only [Bool.false_eq_true, if_false, State.onRobot, Table.modify, hr, stands, Option.toList_none, List.append_nil]
    rfl

/-- The robots after one is fed. -/
theorem State.feedRing_get (s : State) (c : HallConfig) (u : Fin 24) (e : Bool) (b : Bottle) (v : Fin 24) :
    (s.feedRing c u e b).robots.get v =
      if v = u then (s.robots.get v).map fun r => r.fed c.timers.suspectThreshold e else s.robots.get v := by
  cases hr : s.robots.get u with
  | none =>
    rw [State.feedRing_none hr]
    split
    · next same => rw [same, hr]; rfl
    · rfl
  | some r =>
    rw [State.feedRing_some hr]
    simp only [Table.get_set]
    split
    · next same => rw [same, hr]; rfl
    · rfl

/-- The notice of feeding a robot. -/
theorem State.feedRing_given (s : State) (c : HallConfig) (u : Fin 24) (e : Bool) (b : Bottle) :
    (s.feedRing c u e b).given = s.given ++
      ((s.robots.get u).bind fun r => s.suspectNotice u b r (r.fed c.timers.suspectThreshold e)).toList := by
  cases hr : s.robots.get u with
  | none => rw [State.feedRing_none hr]; exact (List.append_nil _).symm
  | some r => rw [State.feedRing_some hr]; rfl

/-- The ring entry is that of R78. -/
theorem Slot.ringEntry_iff {q : Slot} {c : HallConfig} {g : Fin 2} : q.ringEntry c g = true ↔ c.FillDefect g q := by
  have defect : ∀ n, q.fillDefectAt n = true ↔ ∃ v, q.verdicts.get n = some v ∧ v.kept.grade = .major ∧ v.kept.cls = .fill := by
    intro n
    unfold Slot.fillDefectAt
    cases q.verdicts.get n <;> simp
  have used : q.decisionUsed g =
      (q.decisions.get (if g = 1 ∧ q.ejected = some 0 then 0 else g)).map
        fun d => (if g = 1 ∧ q.ejected = some 0 then 0 else g, d) := by
    simp only [Slot.decisionUsed, Slot.skips, Bool.and_eq_true, decide_eq_true_eq]
    split <;> rfl
  simp only [Slot.ringEntry, used, HallConfig.FillDefect]
  generalize (if g = 1 ∧ q.ejected = some 0 then 0 else g) = y
  cases q.decisions.get y with
  | none => simp
  | some d =>
    simp only [Option.map_some, Bool.and_eq_true, decide_eq_true_eq, List.any_eq_true, HallConfig.mem_gateCameras, defect,
      Option.some.injEq, exists_eq_left', exists_and_left]
    rfl

/-- The attribution of the slot that feeds a ring (R78). -/
theorem State.attribute_of_feeds {s : State} {c : HallConfig} {k : Bottle} (hk : s.time.newest = some k)
    (nodup : (s.queue.map Slot.bottle).Nodup) {g : Fin 2} {u : Fin 24} {q : Slot} (mem : q ∈ s.queue)
    (feeds : c.Feeds g k q u) : s.attribute c = s.feedRing c u (q.ringEntry c g) q.bottle := by
  obtain ⟨last, filled, filler, here⟩ := feeds
  have found : s.slotOf (s.bottleAt (c.decisionPoint g)) = some q := by
    rw [State.slotOf_eq_some nodup, State.bottleAt_eq hk, bottle_eq_sub_iff]
    exact ⟨mem, here⟩
  simp only [State.attribute, last, found, filled, filler]

/-- Without a slot that feeds a ring nothing is attributed (R78). -/
theorem State.attribute_of_none {s : State} {c : HallConfig} {k : Bottle} (hk : s.time.newest = some k)
    (none : ∀ g u, ∀ q ∈ s.queue, ¬ c.Feeds g k q u) : s.attribute c = s := by
  unfold State.attribute
  split
  · rfl
  · next g last =>
    split
    · rfl
    · next q found =>
      have here := of_decide_eq_true
        (List.find?_some (p := fun q : Slot => decide (q.bottle = s.bottleAt (c.decisionPoint g))) found)
      rw [State.bottleAt_eq hk, bottle_eq_sub_iff] at here
      split
      · next u filled filler =>
        exact absurd ⟨last, filled, filler, here⟩ (none g u q (List.mem_of_find?_eq_some found))
      · rfl

/-- One slot feeds one ring. -/
theorem HallConfig.Feeds.unique {c : HallConfig} {k : Bottle} {l : List Slot} (nodup : (l.map Slot.bottle).Nodup)
    {g g' : Fin 2} {u u' : Fin 24} {q q' : Slot} (mem : q ∈ l) (mem' : q' ∈ l) (h : c.Feeds g k q u)
    (h' : c.Feeds g' k q' u') : g' = g ∧ q' = q ∧ u' = u := by
  obtain ⟨last, -, filler, here⟩ := h
  obtain ⟨last', -, filler', here'⟩ := h'
  obtain rfl : g' = g := Option.some.inj (last'.symm.trans last)
  rw [← bottle_eq_sub_iff] at here here'
  obtain rfl := slot_eq_of_bottle nodup mem' mem (here'.trans here.symm)
  exact ⟨rfl, rfl, Option.some.inj (filler'.symm.trans filler)⟩

end Sys2Proof.Machine
end

section
/-! An accepted mark from its decisions on: checks, attribution, and what it changed handed on (R74, R78, R86). -/

namespace Sys2Proof.Machine

/-! ## ROBOT_SUSPECT -/

/-- ROBOT_SUSPECT is read from hall time, the latches, and the ring. -/
theorem State.suspectNotice_congr {s s' : State} {u : Fin 24} {b : Bottle} {r r' r'' : Robot}
    (hall : s'.time.hall = s.time.hall) (own : r''.own = r'.own) :
    s'.suspectNotice u b r r'' = s.suspectNotice u b r r' := by
  obtain ⟨-, suspect, ring⟩ := Robot.own_eq own
  simp only [State.suspectNotice, State.note, hall, suspect, ring]

/-- A robot whose own record stands has no ROBOT_SUSPECT. -/
theorem State.suspectNotice_of_own {s : State} {u : Fin 24} {b : Bottle} {r r' : Robot} (own : r'.own = r.own) :
    s.suspectNotice u b r r' = none := by
  obtain ⟨-, suspect, -⟩ := Robot.own_eq own
  rw [State.suspectNotice, suspect, Bool.and_not_self]
  rfl

/-- ROBOT_SUSPECT of robot `u`, if the mark of bottle `k` latches it from `s` to `t` (R79). -/
def State.ringNotice (s t : State) (c : HallConfig) (k : Bottle) (u : Fin 24) : Option Notice :=
  c.lastGate.bind fun g => (s.robots.get u).bind fun r => (t.robots.get u).bind fun r' =>
    s.suspectNotice u (k - BitVec.ofNat 32 (c.decisionPoint g)) r r'

/-- The notices of a mark, by what gives them. -/
theorem State.markNotices_eq (s t : State) (c : HallConfig) (k : Bottle) :
    s.markNotices t c k =
      (if s.time.running then [] else [{ s.note .lineRunning with bottle := some k }]) ++
        (if s.grading.staging.isSome then
          [{ s.note .changeoverApplied with bottle := some k, detail := if t.grading.generation then 1 else 0 }]
        else []) ++
        (List.finRange 2).flatMap (s.checkNotices t c k) ++ (List.finRange 24).filterMap (s.ringNotice t c k) := by
  rw [State.markNotices]
  congr 1
  refine congrArg (fun f => List.filterMap f (List.finRange 24)) (funext fun u => ?_)
  unfold State.ringNotice
  cases s.robots.get u <;> cases t.robots.get u <;> cases c.lastGate <;> rfl

/-- A list without repetition in which only `u` gives something gives that. -/
theorem filterMap_eq_single {α β : Type} {f : α → Option β} {u : α} {l : List α} (nodup : l.Nodup) (mem : u ∈ l)
    (h : ∀ v, v ≠ u → f v = none) : l.filterMap f = (f u).toList := by
  induction l with
  | nil => cases mem
  | cons v l ih =>
    obtain ⟨fresh, nodup⟩ := List.nodup_cons.1 nodup
    rcases List.mem_cons.1 mem with rfl | later
    · have rest : l.filterMap f = [] :=
        List.filterMap_eq_nil_iff.2 fun v hv => h v fun e => fresh (e ▸ hv)
      rw [List.filterMap_cons, rest]
      cases f u <;> rfl
    · rw [List.filterMap_cons, h v fun e => fresh (e ▸ later)]
      exact ih nodup later

/-! ## From the decisions on -/

/-- An accepted mark once the decisions are formed: the checks, the attribution, and what it changed handed on (R74, R78). -/
def State.closed (s : State) (c : HallConfig) : State :=
  ((s.checked c).attribute c).handOn

/-- Attribution moves the robots and the notices given. -/
theorem State.attribute_frame (s : State) (c : HallConfig) :
    s.attribute c = { s with robots := (s.attribute c).robots, given := (s.attribute c).given } := by
  have fed : ∀ u e b, s.feedRing c u e b =
      { s with robots := (s.feedRing c u e b).robots, given := (s.feedRing c u e b).given } := fun u e b => by
    cases hr : s.robots.get u with
    | none => rw [State.feedRing_none hr]
    | some r => rw [State.feedRing_some hr]
  unfold State.attribute
  split
  · rfl
  · split
    · rfl
    · split
      · exact fed _ _ _
      · rfl

/-- Closing a mark moves the line-hold set, the robots and the notices given. -/
theorem State.closed_frame (s : State) (c : HallConfig) :
    s.closed c = { s with
      lineHold := (s.closed c).lineHold, robots := (s.closed c).robots, given := (s.closed c).given } := by
  have handed := ((s.checked c).attribute c).handOn_eq
  have attributed := ((s.checked c).attribute_frame c).trans (congrArg (fun a : State =>
    { a with robots := ((s.checked c).attribute c).robots, given := ((s.checked c).attribute c).given }) (s.checked_frame c))
  exact handed.trans (congrArg (fun a : State =>
    { a with lineHold := (s.closed c).lineHold, robots := (s.closed c).robots, given := (s.closed c).given }) attributed)

/-- The latched causes after a mark is closed: those of the checks have joined (R74). -/
theorem State.closed_holds (s : State) (c : HallConfig) (g : Fin 2) {k : LineCause}
    (hk : k = .missed ∨ k = .mismatch ∨ k = .unconfirmed) :
    (s.closed c).holds g k = (s.holds g k || s.checkFails c g k) := by
  have attributed : ((s.checked c).attribute c).holds g k = (s.checked c).holds g k := by
    rw [State.attribute_frame]
    rfl
  rw [State.closed, State.handOn_latchedStand _ g k hk, attributed, State.checked_holds]

section
variable {s : State} {c : HallConfig} {k : Bottle} (hk : s.time.newest = some k)
include hk

/-- The checks leave the newest bottle. -/
theorem State.checked_newest : (s.checked c).time.newest = some k := by
  rw [State.checked_frame]
  exact hk

omit hk in
/-- The checks leave the slots. -/
theorem State.checked_queue : (s.checked c).queue = s.queue := by
  rw [State.checked_frame]

omit hk in
/-- The checks leave the robots. -/
theorem State.checked_robots : (s.checked c).robots = s.robots := by
  rw [State.checked_frame]

/-- A robot whose ring no slot feeds keeps its own record (R78). -/
theorem State.closed_unfed (nodup : (s.queue.map Slot.bottle).Nodup) {u : Fin 24}
    (none : ∀ g, ∀ q ∈ s.queue, ¬ c.Feeds g k q u) :
    ((s.closed c).robots.get u).map Robot.own = (s.robots.get u).map Robot.own := by
  have newest := State.checked_newest (c := c) hk
  have queue := State.checked_queue (s := s) (c := c)
  rw [State.closed, State.handOn_own]
  by_cases fed : ∃ g v, ∃ q ∈ s.queue, c.Feeds g k q v
  · obtain ⟨g, v, q, mem, feeds⟩ := fed
    have other : u ≠ v := fun e => none g q mem (e ▸ feeds)
    rw [State.attribute_of_feeds newest (queue.symm ▸ nodup) (queue.symm ▸ mem) feeds, State.feedRing_get, if_neg other,
      State.checked_robots]
  · push Not at fed
    rw [State.attribute_of_none newest (queue.symm ▸ fed), State.checked_robots]

/-- The robot whose ring slot `q` feeds (R78, R79). -/
theorem State.closed_fed (nodup : (s.queue.map Slot.bottle).Nodup) (hc : s.config = some c) {g : Fin 2} {u : Fin 24}
    {q : Slot} (mem : q ∈ s.queue) (feeds : c.Feeds g k q u) {r : Robot} (hr : s.robots.get u = some r) :
    ∃ r', (s.closed c).robots.get u = some r' ∧
      r'.own = (r.fed c.timers.suspectThreshold (q.ringEntry c g)).own := by
  have newest := State.checked_newest (c := c) hk
  have queue := State.checked_queue (s := s) (c := c)
  have attributed := State.attribute_of_feeds newest (queue.symm ▸ nodup) (queue.symm ▸ mem) feeds
  have robot : ((s.checked c).attribute c).robots.get u = some (r.fed c.timers.suspectThreshold (q.ringEntry c g)) := by
    rw [attributed, State.feedRing_get, if_pos rfl, State.checked_robots, hr]
    rfl
  have config : ((s.checked c).attribute c).config = some c := by
    rw [State.attribute_frame, State.checked_frame]
    exact hc
  obtain ⟨r', get, own, -⟩ := State.handOn_changed config robot
  exact ⟨r', get, own⟩

/-- The notices of a mark closed, but those of what is handed on (R75, R79). -/
theorem State.closed_given (nodup : (s.queue.map Slot.bottle).Nodup) (hc : s.config = some c) :
    (s.closed c).given.filter (fun n => !n.handed) =
      (s.given ++ (List.finRange 2).flatMap (s.checkNotices (s.closed c) c k) ++
        (List.finRange 24).filterMap (s.ringNotice (s.closed c) c k)).filter fun n => !n.handed := by
  have newest := State.checked_newest (c := c) hk
  have queue := State.checked_queue (s := s) (c := c)
  have checks : (s.checked c).given = s.given ++ (List.finRange 2).flatMap (s.checkNotices (s.closed c) c k) := by
    rw [State.checked_given hk]
    refine congrArg (fun f => s.given ++ List.flatMap f (List.finRange 2)) (funext fun g => ?_)
    refine State.checkNotices_congr rfl (fun _ _ => rfl) fun j hj => ?_
    rw [State.closed_holds s c g hj, State.checked_holds]
  have attributed : ((s.checked c).attribute c).given =
      (s.checked c).given ++ (List.finRange 24).filterMap (s.ringNotice (s.closed c) c k) := by
    have stands : ∀ v, (∀ g, ∀ q ∈ s.queue, ¬ c.Feeds g k q v) → s.ringNotice (s.closed c) c k v = none := by
      intro v hv
      have own := State.closed_unfed hk nodup hv
      unfold State.ringNotice
      cases c.lastGate with
      | none => rfl
      | some g =>
        cases hr : s.robots.get v with
        | none => rfl
        | some r =>
          cases hr' : (s.closed c).robots.get v with
          | none => rfl
          | some r' =>
            rw [hr, hr'] at own
            exact State.suspectNotice_of_own (Option.some.inj own)
    by_cases fed : ∃ g v, ∃ q ∈ s.queue, c.Feeds g k q v
    · obtain ⟨g, u, q, mem, feeds⟩ := fed
      have others : ∀ v, v ≠ u → s.ringNotice (s.closed c) c k v = none := fun v hv =>
        stands v fun g' q' mem' feeds' => by
          obtain ⟨-, -, same⟩ := feeds.unique nodup mem mem' feeds'
          exact hv same
      rw [State.attribute_of_feeds newest (queue.symm ▸ nodup) (queue.symm ▸ mem) feeds, State.feedRing_given,
        filterMap_eq_single (List.nodup_finRange 24) (List.mem_finRange u) others, State.checked_robots]
      have ⟨last, _, _, here⟩ := feeds
      refine congrArg (fun n : Option Notice => (s.checked c).given ++ n.toList) ?_
      rw [State.ringNotice, last]
      cases hr : s.robots.get u with
      | none => rfl
      | some r =>
        obtain ⟨r', get, own⟩ := State.closed_fed hk nodup hc mem feeds hr
        have bottle : q.bottle = k - BitVec.ofNat 32 (c.decisionPoint g) := bottle_eq_sub_iff.2 here
        have hall : (s.checked c).time.hall = s.time.hall := by rw [State.checked_frame]
        simp only [get, Option.bind_some]
        rw [← bottle]
        exact State.suspectNotice_congr hall own.symm
    · push Not at fed
      rw [State.attribute_of_none newest (queue.symm ▸ fed),
        List.filterMap_eq_nil_iff.2 fun v _ => stands v fun g => fed g v, List.append_nil]
  rw [State.closed, State.handOn_gives, ← State.closed, attributed, checks]

end

end Sys2Proof.Machine
end

section
/-! PITCH_EDGE accepted (O21): the state at its end, block by block. -/

namespace Sys2Proof.Machine

/-! ## The filler of a bottle (R24) -/

/-- Where every entry numbers something, the numbered things are the entries' one by one. -/
theorem map_some_filterMap {α β : Type} {f : α → Option β} {l : List α} (h : ∀ a ∈ l, f a ≠ none) :
    (l.filterMap f).map some = l.map f := by
  induction l with
  | nil => rfl
  | cons a l ih =>
    obtain ⟨b, hb⟩ := Option.ne_none_iff_exists'.1 (h a List.mem_cons_self)
    rw [List.filterMap_cons, hb, List.map_cons, List.map_cons, hb, ih fun x hx => h x (List.mem_cons_of_mem _ hx)]

/-- Without a fill order no bottle has a filler. -/
theorem HallConfig.fillerOf_none {c : HallConfig} (h : c.fillCount = 0) (k : Bottle) : c.fillerOf k = none := by
  simp [HallConfig.fillerOf, HallConfig.fillOrder, h]

/-- The filler of bottle `k` is r(k mod N) (R24). -/
theorem HallConfig.fillerOf_eq {c : HallConfig} {k : Bottle} {i : Fin 8}
    (units : ∀ j : Fin 8, j.val < c.fillCount → c.fillUnits.get j < 24) (pos : 0 < c.fillCount) (few : c.fillCount ≤ 8)
    (turn : i.val = k.toNat % c.fillCount) : c.fillerOf k = unitNumber (c.fillUnits.get i) := by
  have size : (c.fillUnits.toList.take c.fillCount).length = c.fillCount := by
    rw [List.length_take, c.fillUnits.length_eq, Nat.min_eq_left few]
  have entry : ∀ j : Fin 8, j.val < c.fillCount →
      (c.fillUnits.toList.take c.fillCount)[j.val]? = some (c.fillUnits.get j) := fun j hj => by
    rw [List.getElem?_take_of_lt hj]
    exact List.getElem?_eq_getElem _
  have numbers : ∀ n ∈ c.fillUnits.toList.take c.fillCount, unitNumber n ≠ none := by
    intro n hn
    obtain ⟨j, hj⟩ := List.mem_iff_getElem?.1 hn
    obtain ⟨within, -⟩ := List.getElem?_eq_some_iff.1 hj
    rw [size] at within
    have value := Option.some.inj ((entry ⟨j, by omega⟩ within).symm.trans hj)
    rw [← value, unitNumber, dif_pos (units _ within)]
    exact nofun
  have order := map_some_filterMap numbers
  have length : c.fillOrder.length = c.fillCount := by
    have := congrArg List.length order
    rwa [List.length_map, List.length_map, size] at this
  have at_turn := congrArg (fun l : List (Option (Fin 24)) => l[i.val]?) order
  simp only [List.getElem?_map] at at_turn
  rw [entry i (turn ▸ Nat.mod_lt _ pos)] at at_turn
  rw [HallConfig.fillerOf, length, ← turn]
  change c.fillOrder[i.val]?.map some = some (unitNumber (c.fillUnits.get i)) at at_turn
  cases found : c.fillOrder[i.val]? with
  | none => rw [found] at at_turn; cases at_turn
  | some u =>
    rw [found] at at_turn
    exact Option.some.inj at_turn

/-- A bottle is filled exactly when its filler is a robot RELEASED and RUNNING (R24). -/
theorem State.joiningSlot_filled (s : State) (c : HallConfig) (k : Bottle) (x : Nat) :
    (s.joiningSlot c k x).filled = true ↔
      ∃ u r, c.fillerOf k = some u ∧ s.robots.get u = some r ∧ r.gate = .released ∧ r.accepted = .running := by
  simp only [State.joiningSlot]
  cases c.fillerOf k with
  | none => simp
  | some u =>
    simp only [Option.map_some, Option.getD_some, State.fitToFill]
    cases hr : s.robots.get u <;> simp [hr]

/-! ## Numbering and changeover (R12, R57) -/

/-- The pitch log with one entry more (R12, R13). -/
theorem logAdd_eq (log : List Mark) (m : Mark) : logAdd log m = (log ++ [m]).drop (log.length - 15) := by
  unfold logAdd
  split
  · next short =>
    rw [show log.length - 15 = 0 by omega]
    rfl
  · rw [List.drop_append_of_le_length (by omega)]

/-- The time unit after an accepted mark (R12). -/
theorem TimeUnit.acceptMark_eq (t : TimeUnit) :
    t.acceptMark =
      { t with
        nextIndex := t.nextIndex + 1
        newest := some t.nextIndex
        pitchLog := (t.pitchLog ++ [Mark.mk t.nextIndex t.hall]).drop (t.pitchLog.length - 15)
        running := true
        stopStart := some t.localTime } := by
  rw [TimeUnit.acceptMark, logAdd_eq]

/-- The grading unit with a staged changeover applied at the mark of bottle `k` (R57). -/
def Grading.changed (g : Grading) (k : Bottle) : Grading :=
  match g.staging with
  | none => g
  | some b =>
    { g with previous := g.current, current := b, staging := none, generation := !g.generation, changeover := some k }

/-- The notices of the numbering of a mark and of the changeover (R12, R57). -/
def State.numberNotices (s : State) : List Notice :=
  (if s.time.running then [] else [{ s.note .lineRunning with bottle := some s.time.nextIndex }]) ++
    if s.grading.staging.isSome then
      [{ s.note .changeoverApplied with
        bottle := some s.time.nextIndex
        detail := if (s.grading.changed s.time.nextIndex).generation then 1 else 0 }]
    else []

/-- The state once the mark is numbered and a staged changeover is applied. -/
def State.numbered (s : State) : State :=
  { s with
    time := s.time.acceptMark, grading := s.grading.changed s.time.nextIndex, given := s.given ++ s.numberNotices }

/-- The time and grading units' parts of an accepted mark. -/
theorem State.numbered_eq (s : State) : s.acceptMark.applyChangeover s.time.nextIndex = s.numbered := by
  have accepted : s.acceptMark = { s with
      time := s.time.acceptMark
      given := s.given ++ if s.time.running then [] else [{ s.note .lineRunning with bottle := some s.time.nextIndex }] } := by
    unfold State.acceptMark
    cases s.time.running with
    | true => simp [State.onTime]
    | false => rfl
  rw [accepted]
  unfold State.applyChangeover State.numbered State.numberNotices Grading.changed
  cases staged : s.grading.staging with
  | none => simp
  | some b =>
    have flag : detailNat (bit (!s.grading.generation) 0) = if (!s.grading.generation) = true then 1 else 0 := by
      cases s.grading.generation <;> rfl
    simp [State.onGrading, State.give, State.note, flag]
    rfl

/-! ## The state at the end -/

/-- The slot with which the marked bottle joins (R20, R24). -/
def State.markSlot (s : State) (c : HallConfig) : Slot :=
  s.numbered.joiningSlot c s.time.nextIndex s.time.hall

/-- The state once the slots have joined and left and the zones have marked them (R21, R22, R28). -/
def State.tracked (s : State) (c : HallConfig) : State :=
  { s.numbered with queue := (s.slotsAfter c (s.markSlot c)).map (s.marked c s.time.nextIndex) }

section
variable {s : State} {c : HallConfig} (sound : s.QueueSound) (short : s.queue.length + 1 < 2 ^ 31)
include sound short

/-- An accepted mark, block by block. -/
theorem State.pitchMark_eq : s.pitchMark c = ((s.tracked c).decided c).closed c := by
  have order : consecutive (s.numbered.queue.map Slot.bottle ++ [s.time.nextIndex]) := sound.joined
  have few : s.numbered.queue.length < 2 ^ 32 := Nat.lt_trans (Nat.lt_of_succ_lt short) (by norm_num)
  have tracked : s.numbered.trackMark c s.time.nextIndex s.time.hall = s.tracked c :=
    State.trackMark_eq (s := s.numbered) rfl order few
  rw [State.pitchMark, State.numbered_eq, tracked]
  rfl

/-- The bottles of the queue are distinct. -/
theorem State.tracked_nodup : ((s.tracked c).queue.map Slot.bottle).Nodup := by
  have all : (s.queue.map Slot.bottle ++ [s.time.nextIndex]).Nodup :=
    consecutive_nodup sound.joined (by
      rw [List.length_append, List.length_map, List.length_singleton]
      exact Nat.le_of_lt (Nat.lt_trans short (by norm_num)))
  have bottles : (s.tracked c).queue.map Slot.bottle = (s.slotsAfter c (s.markSlot c)).map Slot.bottle :=
    map_bottle_map (s.marked c s.time.nextIndex) (fun _ => rfl) _
  rw [bottles, State.slotsAfter, List.map_append]
  refine all.sublist (List.Sublist.append ?_ (List.Sublist.refl _))
  split
  · exact (List.tail_sublist _).map _
  · exact List.Sublist.refl _

/-- What an accepted mark moves. -/
theorem State.pitchMark_frame :
    s.pitchMark c = { s with
      time := s.time.acceptMark
      grading := s.grading.changed s.time.nextIndex
      queue := (s.tracked c).queue.map ((s.tracked c).decidedSlot c s.time.nextIndex)
      gates := (s.tracked c).decidedGates c s.time.nextIndex
      lineHold := (s.pitchMark c).lineHold
      robots := (s.pitchMark c).robots
      given := (s.pitchMark c).given } := by
  have closed := ((s.tracked c).decided c).closed_frame c
  rw [← State.pitchMark_eq sound short] at closed
  have decided := State.decided_eq (s := s.tracked c) (c := c) rfl (State.tracked_nodup sound short)
  exact closed.trans (congrArg (fun a : State =>
    { a with lineHold := (s.pitchMark c).lineHold, robots := (s.pitchMark c).robots, given := (s.pitchMark c).given }) decided)

end

/-! ## The obligation -/

/-- The notices of a mark are none of a handed-on change. -/
theorem State.markNotices_filter (s t : State) (c : HallConfig) (k : Bottle) :
    (s.markNotices t c k).filter (fun n => !n.handed) = s.markNotices t c k := by
  have latch : ∀ g j b, j = .missed ∨ j = .unconfirmed → ∀ n ∈ s.latchNotice t g j b, n.handed = false := by
    intro g j b hj n hn
    unfold State.latchNotice at hn
    split at hn
    · obtain rfl := List.mem_singleton.1 hn
      rcases hj with rfl | rfl <;> rfl
    · cases hn
  have own : ∀ n ∈ s.markNotices t c k, n.handed = false := by
    intro n hn
    rw [State.markNotices_eq, List.mem_append, List.mem_append, List.mem_append, List.mem_flatMap, List.mem_filterMap] at hn
    rcases hn with ((running | changed) | ⟨g, -, check⟩) | ⟨u, -, ring⟩
    · split at running
      · cases running
      · obtain rfl := List.mem_singleton.1 running
        rfl
    · split at changed
      · obtain rfl := List.mem_singleton.1 changed
        rfl
      · cases changed
    · rcases List.mem_append.1 check with missed | unconfirmed
      · exact latch g _ _ (.inl rfl) n missed
      · exact latch g _ _ (.inr rfl) n unconfirmed
    · obtain ⟨g, -, ring⟩ := Option.bind_eq_some_iff.1 ring
      obtain ⟨r, -, ring⟩ := Option.bind_eq_some_iff.1 ring
      obtain ⟨r', -, ring⟩ := Option.bind_eq_some_iff.1 ring
      unfold State.suspectNotice at ring
      split at ring
      · obtain rfl := Option.some.inj ring
        rfl
      · cases ring
  exact List.filter_eq_self.2 fun n hn => by rw [own n hn]; rfl

section
variable {s : State} {c : HallConfig} (sound : s.QueueSound) (short : s.queue.length + 1 < 2 ^ 31)
include sound short

/-- The slots at the end of the mark. -/
theorem State.pitchMark_queue :
    (s.pitchMark c).queue = (s.tracked c).queue.map ((s.tracked c).decidedSlot c s.time.nextIndex) := by
  rw [State.pitchMark_frame sound short]

/-- The bottles at the end of the mark are distinct. -/
theorem State.pitchMark_nodup : ((s.pitchMark c).queue.map Slot.bottle).Nodup := by
  rw [State.pitchMark_queue sound short]
  have bottles : ((s.tracked c).queue.map ((s.tracked c).decidedSlot c s.time.nextIndex)).map Slot.bottle =
      (s.tracked c).queue.map Slot.bottle :=
    map_bottle_map ((s.tracked c).decidedSlot c s.time.nextIndex)
      (fun q => (congrArg Slot.bottle (State.decidedSlot_own q) :)) _
  exact bottles ▸ State.tracked_nodup sound short

/-- What the mark makes of each slot (R28, R68 to R70). -/
theorem State.pitchMark_slots :
    List.Forall₂ (s.SlotMarked c s.time.nextIndex) (s.slotsAfter c (s.markSlot c)) (s.pitchMark c).queue := by
  rw [State.pitchMark_queue sound short, State.tracked, List.map_map, List.forall₂_map_right_iff, List.forall₂_same]
  exact fun q mem => State.slotMarked (s := s.tracked c) rfl (State.tracked_nodup sound short)
    (List.mem_map_of_mem mem) rfl rfl rfl

/-- The record of a gate that forms no decision at the mark. -/
theorem State.pitchMark_idle {g : Fin 2} (h : ∀ q ∈ s.slotsAfter c (s.markSlot c), ¬ c.FormsOn g s.time.nextIndex q) :
    (s.pitchMark c).gates.get g = s.gates.get g := by
  rw [State.pitchMark_frame sound short]
  refine State.decidedGates_idle (s := s.tracked c) rfl (State.tracked_nodup sound short) fun q mem => ?_
  obtain ⟨p, hp, rfl⟩ := List.mem_map.1 mem
  exact h p hp

/-- The record of a gate that forms its decision on slot `q` at the mark (R69, R70). -/
theorem State.pitchMark_counted {g : Fin 2} {q : Slot} (mem : q ∈ s.slotsAfter c (s.markSlot c))
    (forms : c.FormsOn g s.time.nextIndex q) :
    ∃ q' ∈ (s.pitchMark c).queue, q'.bottle = q.bottle ∧ ∃ d, q'.decisions.get g = some d ∧
      (s.pitchMark c).gates.get g = (s.gates.get g).map fun r => r.count d := by
  have marked : s.marked c s.time.nextIndex q ∈ (s.tracked c).queue := List.mem_map_of_mem mem
  obtain ⟨d, entry, -, counts⟩ :=
    State.decidedSlot_forms (s := s.tracked c) rfl (State.tracked_nodup sound short) marked (g := g) forms
  refine ⟨(s.tracked c).decidedSlot c s.time.nextIndex (s.marked c s.time.nextIndex q), ?_,
    (congrArg Slot.bottle (State.decidedSlot_own (s.marked c s.time.nextIndex q)) :), d, entry, ?_⟩
  · rw [State.pitchMark_queue sound short]
    exact List.mem_map_of_mem marked
  · rw [State.pitchMark_frame sound short]
    exact counts

/-- The state in which the checks find the slots: they are those at the end of the mark. -/
theorem State.decided_spec :
    ((s.tracked c).decided c).queue = (s.pitchMark c).queue ∧
      ((s.tracked c).decided c).time = s.time.acceptMark ∧ ((s.tracked c).decided c).robots = s.robots ∧
      ((s.tracked c).decided c).lineHold = s.lineHold ∧ ((s.tracked c).decided c).config = s.config ∧
      ((s.tracked c).decided c).given = s.given ++ s.numberNotices := by
  rw [State.pitchMark_queue sound short, State.decided_eq (s := s.tracked c) rfl (State.tracked_nodup sound short)]
  exact ⟨rfl, rfl, rfl, rfl, rfl, rfl⟩

/-- The notices of an accepted mark, but those of what is handed on. -/
theorem State.pitchMark_given (hc : s.config = some c) (none : s.given = []) :
    (s.pitchMark c).given.filter (fun n => !n.handed) = s.markNotices (s.pitchMark c) c s.time.nextIndex := by
  obtain ⟨queue, time, robots, lineHold, config, given⟩ := State.decided_spec (c := c) sound short
  have newest : ((s.tracked c).decided c).time.newest = some s.time.nextIndex := by rw [time]; rfl
  have distinct : (((s.tracked c).decided c).queue.map Slot.bottle).Nodup := by
    rw [queue]
    exact State.pitchMark_nodup sound short
  have closed := State.closed_given (c := c) newest distinct (config.trans hc)
  have hall : ((s.tracked c).decided c).time.hall = s.time.hall := by rw [time]; rfl
  have changed : (s.pitchMark c).grading = s.grading.changed s.time.nextIndex := by
    rw [State.pitchMark_frame sound short]
  have checks : ((s.tracked c).decided c).checkNotices (s.pitchMark c) c s.time.nextIndex =
      s.checkNotices (s.pitchMark c) c s.time.nextIndex := funext fun g =>
    State.checkNotices_congr hall (fun j _ => by rw [State.holds, lineHold]; rfl) fun _ _ => rfl
  have rings : ((s.tracked c).decided c).ringNotice (s.pitchMark c) c s.time.nextIndex =
      s.ringNotice (s.pitchMark c) c s.time.nextIndex := funext fun u => by
    simp only [State.ringNotice, robots, State.suspectNotice_congr hall rfl]
  rw [← State.pitchMark_eq sound short, checks, rings, given, none, List.nil_append] at closed
  rw [closed, ← State.markNotices_filter s (s.pitchMark c), State.markNotices_eq, changed]
  rfl

/-- What an accepted mark does past the numbering and the changeover. -/
theorem State.pitchMark_taken (hc : s.config = some c) :
    s.MarkTaken (s.pitchMark c).settle c s.time.nextIndex (s.markSlot c) := by
  obtain ⟨queue, time, robots, lineHold, config, -⟩ := State.decided_spec (c := c) sound short
  have newest : ((s.tracked c).decided c).time.newest = some s.time.nextIndex := by rw [time]; rfl
  have distinct : (((s.tracked c).decided c).queue.map Slot.bottle).Nodup := by
    rw [queue]
    exact State.pitchMark_nodup sound short
  have fails := State.failsCheck_iff newest distinct
  have closed := State.pitchMark_eq (c := c) sound short
  have holds : ∀ g j, j = .missed ∨ j = .mismatch ∨ j = .unconfirmed →
      (s.pitchMark c).settle.holds g j = (s.holds g j || ((s.tracked c).decided c).checkFails c g j) := fun g j hj => by
    change (s.pitchMark c).holds g j = _
    rw [closed, State.closed_holds _ c g hj, State.holds, lineHold]
    rfl
  refine
    { slots := State.pitchMark_slots sound short
      idle := fun g => State.pitchMark_idle sound short
      counted := fun g q mem forms => ?_
      missed := fun g => ?_
      unconfirmed := fun g => ?_
      mismatch := fun g => ?_
      fed := fun g u r q mem feeds hr => ?_
      unfed := fun u none => ?_
      follows := ?_
      notices := ?_ }
  · obtain ⟨q', mem', bottle, d, entry, counts⟩ := State.pitchMark_counted sound short mem forms
    simp only [GateRec.count_eq] at counts
    exact ⟨q', mem', bottle, d, entry, counts⟩
  · rw [holds g _ (.inl rfl), Bool.or_eq_true, State.checkFails, Bool.and_eq_true, fails, queue]
    simp only [Bool.not_eq_true']
    rfl
  · rw [holds g _ (.inr (.inr rfl)), Bool.or_eq_true, State.checkFails, Bool.and_eq_true, fails, queue]
    simp only [and_true]
    rfl
  · exact (holds g _ (.inr (.inl rfl))).trans (Bool.or_false _)
  · obtain ⟨r', get, own⟩ := State.closed_fed newest distinct (config.trans hc) (queue ▸ mem) feeds (robots ▸ hr)
    rw [← closed] at get
    obtain ⟨-, -, ring⟩ := Robot.own_eq own
    refine ⟨r', q.ringEntry c g, get, Slot.ringEntry_iff, own.trans ?_⟩
    rw [ring, Robot.fed, ringAdd_eq]
    rfl
  · have own := State.closed_unfed (c := c) newest distinct (u := u) (fun g q mem => none g q (queue ▸ mem))
    rwa [← closed, robots] at own
  · have follows : (s.pitchMark c).CausesFollow := by
      rw [closed]
      exact State.handOn_causesFollow _
    exact ⟨follows.gates, follows.robots⟩
  · have report : (s.pitchMark c).report = s.report := by rw [State.pitchMark_frame sound short]
    exact State.settle_notices (congrArg Report.notices report) (congrArg Report.dropped report)
      (State.pitchMark_given sound short hc)

end

/-- Settles O21: the edge is no glitch, `State.pitchMark_frame` says what the mark moves, `State.pitchMark_taken` how. -/
theorem pitchMarkAccepted : Obligations.PitchMarkAccepted := by
  intro s c config past short sound _
  have accepted : s.time.glitchAt c.timers.minPitch = false := by
    unfold TimeUnit.glitchAt
    split
    · next m newest => exact decide_eq_false (Nat.not_lt.2 (past m newest))
    · rfl
  have answer : exec .pitchEdge s = .next (s.pitchMark c).settle := by
    simp only [exec, execPitchEdge, config, accepted, Bool.false_eq_true, if_false]
  have frame := State.pitchMark_frame (c := c) sound short
  have grading : (s.pitchMark c).settle.grading = s.grading.changed s.time.nextIndex := congrArg State.grading frame
  have taken := State.pitchMark_taken sound short config
  have filler : (s.markSlot c).filler = c.fillerOf s.time.nextIndex := rfl
  refine ⟨(s.pitchMark c).settle, s.markSlot c, answer, ?_, ?_, ?_, fun b staged => ?_, fun staged => ?_, ?_, fun none => ?_,
    fun i units pos few turn => ?_, ?_, taken, ?_⟩
  · exact (congrArg State.time frame).trans s.time.acceptMark_eq
  · rw [grading, Grading.changed]
    split <;> rfl
  · rw [grading, Grading.changed]
    split
    · assumption
    · rfl
  · rw [grading, Grading.changed, staged]
    exact ⟨rfl, rfl, rfl, rfl⟩
  · rw [grading, Grading.changed, staged]
  · rw [grading]
    rfl
  · exact filler.trans (HallConfig.fillerOf_none none _)
  · exact filler.trans (HallConfig.fillerOf_eq units pos few turn)
  · exact s.numbered.joiningSlot_filled c _ _
  · rw [frame]
    cases s
    rfl

end Sys2Proof.Machine
end

section
/-! What a port's change of state does to the sequences of its units and gives in notices (R48, R66, R82, R131, R140), and the
commands of the general slot that name a port or the line (O55). -/

namespace Sys2Proof.Machine

/-! ## Ports that go DOWN -/

/-- Which ports go DOWN is read from the ports after the event. -/
theorem State.wentDown_congr (s : State) {t t' : State} (ports : t'.ports = t.ports) (port : Option (Fin 16)) :
    s.wentDown t' port = s.wentDown t port := by
  cases port with
  | none => rfl
  | some p => rw [State.wentDown, ports, State.wentDown]

/-- A change of a port's record that keeps its state keeps every port's state. -/
theorem State.onPort_state (s : State) {p : Fin 16} {f : Port → Port} (keeps : ∀ r, (f r).state = r.state) (q : Fin 16) :
    ((s.onPort p f).ports.get q).state = (s.ports.get q).state := by
  rw [State.onPort_ports, Table.get_modify]
  split
  · exact keeps _
  · rfl

/-- Which ports go DOWN is read from their states before the event. -/
theorem State.onPort_wentDown (s : State) {p : Fin 16} {f : Port → Port} (keeps : ∀ r, (f r).state = r.state) (t : State)
    (port : Option (Fin 16)) : (s.onPort p f).wentDown t port = s.wentDown t port := by
  cases port with
  | none => rfl
  | some q => rw [State.wentDown, s.onPort_state keeps, State.wentDown]

/-- While the ports keep their states none goes DOWN. -/
theorem State.wentDown_of_states {s t : State} (states : ∀ q, (t.ports.get q).state = (s.ports.get q).state)
    (port : Option (Fin 16)) : s.wentDown t port = false := by
  cases port with
  | none => rfl
  | some q => simp [State.wentDown, states]

/-- A port that leaves another state goes DOWN, and alone, when DOWN is what it enters. -/
theorem State.movePort_wentDown (s : State) (c : HallConfig) {p : Fin 16} (new : PortState) (reason : PortReason)
    (up : (s.ports.get p).state ≠ .down) (port : Option (Fin 16)) :
    s.wentDown (s.movePort c p new reason) port = (decide (port = some p) && decide (new = .down)) := by
  cases port with
  | none => rfl
  | some q =>
    by_cases same : q = p
    · subst same
      rw [State.wentDown, State.movePort_self, decide_eq_true up, decide_eq_true rfl]
      rfl
    · simp [State.wentDown, State.movePort_other s c new reason same, same]

/-! ## Sequences (R48, R66, R82, R140) -/

/-- While no port goes DOWN, records that stand keep their sequences. -/
theorem State.SequencesDiscarded.of_stands {c : HallConfig} {s t : State} (none : ∀ port, s.wentDown t port = false)
    (robots : t.robots = s.robots) (gates : t.gates = s.gates) (cameras : t.grading.cameras = s.grading.cameras)
    (lineHold : t.lineHold = s.lineHold) : State.SequencesDiscarded c s t where
  robots u := by
    rw [robots]
    cases s.robots.get u with
    | none => rfl
    | some r => simp [none, Robot.own]
  gates g := by
    rw [gates]
    cases s.gates.get g with
    | none => rfl
    | some r => simp [none]
  cameras n := by simp [cameras, none]
  latched g k _ := by rw [State.holds, lineHold, State.holds]

/-- A port's change of state discards the sequences of its units when it goes DOWN, and none otherwise. -/
theorem State.movePort_sequencesDiscarded (s : State) (c : HallConfig) {p : Fin 16} (new : PortState) (reason : PortReason)
    (up : (s.ports.get p).state ≠ .down) : State.SequencesDiscarded c s (s.movePort c p new reason) := by
  have down := s.movePort_wentDown c new reason up
  by_cases enters : new = .down
  · subst enters
    have goes : ∀ port, s.wentDown (s.movePort c p .down reason) port = decide (port = some p) := fun port => by
      rw [down, decide_eq_true rfl, Bool.and_true]
    refine ⟨fun u => ?_, fun g => ?_, fun n => ?_, fun g k _ => ?_⟩
    · rw [goes, show (s.movePort c p .down reason).robots = (s.discardSequences c p).robots from rfl, State.discardSequences,
        Table.get_mapFin, Option.map_map]
      refine congrArg (Option.map · _) (funext fun r => ?_)
      by_cases its : c.portOf u = some p <;> simp [its, Robot.own]
    · rw [goes, show (s.movePort c p .down reason).gates = (s.discardSequences c p).gates from rfl, State.discardSequences,
        Table.get_mapFin]
      refine congrArg (Option.map · _) (funext fun r => ?_)
      by_cases its : (c.gateUnit g).bind c.portOf = some p <;> simp [its]
    · rw [goes, show (s.movePort c p .down reason).grading = (s.discardSequences c p).grading from rfl,
        State.discardSequences, Table.get_mapFin]
      split <;> rfl
    · rw [State.holds, State.movePort_lineHold, State.holds]
  · have none : ∀ port, s.wentDown (s.movePort c p new reason) port = false := fun port => by
      rw [down, decide_eq_false enters, Bool.and_false]
    have stays : s.movePort c p new reason =
        (s.onPort p fun r => r.enter new reason s.time.localTime).give
          { s.note .portState with subject := portId p, code := new.code, detail := detailNat reason.code } := by
      rw [State.movePort, if_neg enters]
      rfl
    exact .of_stands none (congrArg State.robots stays :) (congrArg State.gates stays :)
      (congrArg (fun t => t.grading.cameras) stays :) (congrArg State.lineHold stays :)

/-- What an event discards does not depend on what else changes in a port's record. -/
theorem State.SequencesDiscarded.of_onPort {c : HallConfig} {s t : State} {p : Fin 16} {f : Port → Port}
    (keeps : ∀ r, (f r).state = r.state) (h : State.SequencesDiscarded c (s.onPort p f) t) :
    State.SequencesDiscarded c s t where
  robots u := by
    have before := h.robots u
    rwa [s.onPort_wentDown keeps] at before
  gates g := by
    have before := h.gates g
    rwa [s.onPort_wentDown keeps] at before
  cameras n := by
    have before := h.cameras n
    rwa [s.onPort_wentDown keeps] at before
  latched := h.latched

/-- Handing the change on discards no sequence. -/
theorem State.SequencesDiscarded.handOn {c : HallConfig} {s t : State} (h : State.SequencesDiscarded c s t) :
    State.SequencesDiscarded c s t.handOn where
  robots u := by rw [State.handOn_own, s.wentDown_congr t.handOn_ports, h.robots]
  gates g := by rw [State.handOn_gates, s.wentDown_congr t.handOn_ports, h.gates]
  cameras n := by rw [State.handOn_grading, s.wentDown_congr t.handOn_ports, h.cameras]
  latched g k hk := (t.handOn_latchedStand g k hk).trans (h.latched g k hk)

/-! ## PORT_STATE (R131) -/

/-- The notices of the ports are read from the ports after the event. -/
theorem State.portNotices_congr (s : State) {t t' : State} (ports : t'.ports = t.ports) :
    s.portNotices t' = s.portNotices t := by
  rw [State.portNotices, ports, State.portNotices]

/-- The notices of the ports are read from their states before the event. -/
theorem State.onPort_portNotices (s : State) {p : Fin 16} {f : Port → Port} (keeps : ∀ r, (f r).state = r.state) (t : State) :
    (s.onPort p f).portNotices t = s.portNotices t := by
  simp only [State.portNotices, s.onPort_state keeps]
  rfl

/-- Ports that keep their states give no notice. -/
theorem State.portNotices_of_states {s t : State} (states : ∀ q, (t.ports.get q).state = (s.ports.get q).state) :
    s.portNotices t = [] :=
  List.filterMap_eq_nil_iff.2 fun q _ => if_pos (states q)

/-- The notices of the ports are not handed-on ones. -/
theorem State.portNotices_filter (s t : State) :
    (s.portNotices t).filter (fun n => !n.handed) = s.portNotices t := by
  refine List.filter_eq_self.2 fun n mem => ?_
  obtain ⟨p, -, gives⟩ := List.mem_filterMap.1 mem
  split at gives
  · cases gives
  · obtain rfl := Option.some.inj gives
    rfl

/-- A port's change of state gives its notice. -/
theorem State.movePort_given (s : State) (c : HallConfig) {p : Fin 16} {new : PortState} (reason : PortReason)
    (changes : new ≠ (s.ports.get p).state) :
    (s.movePort c p new reason).given = s.given ++ s.portNotices (s.movePort c p new reason) := by
  have given : (s.movePort c p new reason).given = s.given ++
      [{ s.note .portState with subject := portId p, code := new.code, detail := detailNat reason.code }] := by
    unfold State.movePort
    dsimp only
    split <;> rfl
  have detail : detailNat reason.code = BitVec.ofNat 32 reason.code := detailNat_of_lt (by cases reason <;> decide)
  rw [given, State.portNotices, filterMap_eq_single (List.nodup_finRange 16) (List.mem_finRange p)
    fun q other => if_pos (by rw [State.movePort_other s c new reason other]), State.movePort_self, detail,
    if_neg (show ((s.ports.get p).enter new reason s.time.localTime).state ≠ (s.ports.get p).state from changes)]
  rfl

/-! ## PORT_CLEAR (R138) -/

/-- The record with its history and violations cleared. -/
def Port.cleared (r : Port) : Port :=
  { r with history := [], violations := 0 }

/-- Clearing keeps the state. -/
theorem Port.cleared_state (r : Port) : r.cleared.state = r.state := rfl

/-- A LOCKED port that is cleared enters the state of its link. -/
theorem State.clearPort_locked {s : State} {p : Fin 16} (locked : (s.ports.get p).state = .locked) (c : HallConfig) :
    s.clearPort c p =
      (s.onPort p Port.cleared).movePort c p (if (s.ports.get p).linkUp then .active else .down) .clear :=
  if_pos locked

/-- Any other port that is cleared keeps its state. -/
theorem State.clearPort_unlocked {s : State} {p : Fin 16} (unlocked : (s.ports.get p).state ≠ .locked) (c : HallConfig) :
    s.clearPort c p = s.onPort p Port.cleared :=
  if_neg unlocked

section

variable (s : State) (c : HallConfig) (p : Fin 16)

/-- Clearing a port moves the ports, the sequences of its units, and the notices given. -/
theorem State.clearPort_eq :
    s.clearPort c p = { s with
      given := (s.clearPort c p).given, ports := (s.clearPort c p).ports, robots := (s.clearPort c p).robots
      gates := (s.clearPort c p).gates
      grading := { s.grading with cameras := (s.clearPort c p).grading.cameras } } := by
  unfold State.clearPort State.movePort
  dsimp only
  repeat' split
  all_goals rfl

/-- The other ports stand when one is cleared. -/
theorem State.clearPort_other {q : Fin 16} (other : q ≠ p) : (s.clearPort c p).ports.get q = s.ports.get q := by
  by_cases locked : (s.ports.get p).state = .locked
  · rw [State.clearPort_locked locked, State.movePort_other _ c _ _ other]
    exact Table.get_modify_ne _ _ other
  · rw [State.clearPort_unlocked locked]
    exact Table.get_modify_ne _ _ other

/-- A port that is not LOCKED comes to the cleared record. -/
theorem State.clearPort_self_unlocked (unlocked : (s.ports.get p).state ≠ .locked) :
    (s.clearPort c p).ports.get p = (s.ports.get p).cleared := by
  rw [State.clearPort_unlocked unlocked]
  exact Table.get_modify_self _ _ _

/-- A LOCKED port enters the state of its link with the cleared record. -/
theorem State.clearPort_self_locked (locked : (s.ports.get p).state = .locked) :
    (s.clearPort c p).ports.get p =
      (s.ports.get p).cleared.enter (if (s.ports.get p).linkUp then .active else .down) .clear s.time.localTime := by
  rw [State.clearPort_locked locked, State.movePort_self, State.onPort_ports, Table.get_modify_self]
  rfl

/-- A LOCKED port whose link is up becomes ACTIVE, its interval counts cleared. -/
theorem State.clearPort_self_up (locked : (s.ports.get p).state = .locked) (up : (s.ports.get p).linkUp = true) :
    (s.clearPort c p).ports.get p =
      { (s.ports.get p).cleared with
        state := .active, reason := .clear, silence := none, intervalViolations := 0, intervalWords := 0
        wouldQuarantine := false } := by
  rw [s.clearPort_self_locked c p locked, if_pos up]
  rfl

/-- A LOCKED port whose link is down becomes DOWN, its counts cleared. -/
theorem State.clearPort_self_down (locked : (s.ports.get p).state = .locked) (down : (s.ports.get p).linkUp = false) :
    (s.clearPort c p).ports.get p =
      { (s.ports.get p).cleared with
        state := .down, reason := .clear, silence := none, denied := 0, fragments := 0 } := by
  rw [s.clearPort_self_locked c p locked, down]
  rfl

/-- Clearing a port discards the sequences of its units when it leaves LOCKED for DOWN (R140). -/
theorem State.clearPort_sequencesDiscarded : State.SequencesDiscarded c s (s.clearPort c p) := by
  by_cases locked : (s.ports.get p).state = .locked
  · rw [State.clearPort_locked locked]
    refine .of_onPort Port.cleared_state (State.movePort_sequencesDiscarded _ c _ _ ?_)
    rw [s.onPort_state Port.cleared_state, locked]
    decide
  · rw [State.clearPort_unlocked locked]
    exact .of_stands (State.wentDown_of_states (s.onPort_state Port.cleared_state)) rfl rfl rfl rfl

/-- Clearing a port gives PORT_STATE when it leaves LOCKED, and nothing otherwise (R131). -/
theorem State.clearPort_given : (s.clearPort c p).given = s.given ++ s.portNotices (s.clearPort c p) := by
  by_cases locked : (s.ports.get p).state = .locked
  · have leaves : (if (s.ports.get p).linkUp then PortState.active else .down) ≠
        ((s.onPort p Port.cleared).ports.get p).state := by
      rw [s.onPort_state Port.cleared_state, locked]
      split <;> decide
    rw [State.clearPort_locked locked, State.movePort_given _ c .clear leaves, s.onPort_portNotices Port.cleared_state]
    rfl
  · rw [State.clearPort_unlocked locked, State.portNotices_of_states (s.onPort_state Port.cleared_state), List.append_nil]
    rfl

end

/-- PORT_CLEAR of a port (R138). -/
theorem State.portClearTaken_port (s : State) (c : HallConfig) {w : Word} {p : Fin 16} (port : portNumber (wordArg w) = some p) :
    s.portClearTaken c w = (s.clearPort c p).handOn.completeGeneral w .normal := by
  rw [State.portClearTaken, port]

/-! ## LINE_RESUME (R76) -/

/-- A removed cause is not in the set; the others stand. -/
theorem State.dropHold_holds (s : State) (g : Fin 2) (k : LineCause) (g' : Fin 2) (k' : LineCause) :
    (s.dropHold g k).holds g' k' = (s.holds g' k' && !decide (g' = g ∧ k' = k)) := by
  simp only [State.holds, s.dropHold_bits g k _ (lineIndex_lt g' k'), ne_eq, lineIndex_eq_iff, decide_not]

/-- Resuming a gate moves the line-hold set alone. -/
theorem State.resumeGate_eq (s : State) (c : HallConfig) (g : Fin 2) :
    s.resumeGate c g = { s with lineHold := (s.resumeGate c g).lineHold } := by
  unfold State.resumeGate
  split <;> rfl

/-- Resuming both gates moves the line-hold set alone. -/
theorem State.resumeGates_eq (s : State) (c : HallConfig) :
    (s.resumeGate c 0).resumeGate c 1 = { s with lineHold := ((s.resumeGate c 0).resumeGate c 1).lineHold } := by
  rw [State.resumeGate_eq, s.resumeGate_eq]

/-- A latched cause stands after its gate is resumed only if the gate is not available; those of the other gate stand. -/
theorem State.resumeGate_holds (s : State) (c : HallConfig) (g g' : Fin 2) {k : LineCause}
    (latched : k = .missed ∨ k = .mismatch ∨ k = .unconfirmed) :
    (s.resumeGate c g).holds g' k = (s.holds g' k && !(decide (g' = g) && s.available c g)) := by
  unfold State.resumeGate
  split
  · next available =>
    rw [available, State.dropLatched, State.dropHold_holds, State.dropHold_holds, State.dropHold_holds]
    rcases latched with rfl | rfl | rfl <;> simp
  · next unavailable => simp [unavailable]

/-- After both gates are resumed a latched cause stands exactly where its gate is not available (R76). -/
theorem State.resumeGates_holds (s : State) (c : HallConfig) (g : Fin 2) {k : LineCause}
    (latched : k = .missed ∨ k = .mismatch ∨ k = .unconfirmed) :
    ((s.resumeGate c 0).resumeGate c 1).holds g k = (s.holds g k && !(s.available c g)) := by
  have available : (s.resumeGate c 0).available c 1 = s.available c 1 := by
    rw [s.resumeGate_eq c 0]
    exact State.available_congr rfl rfl rfl
  rw [State.resumeGate_holds _ c 1 g latched, State.resumeGate_holds _ c 0 g latched, available]
  match g with
  | 0 => simp
  | 1 => simp

/-! ## The obligation -/

/-- A command is done that changes `b`, hands the change on and completes at once (R164). -/
theorem State.handOn_done {s b : State} {w : Word} {code : Completion} {more : List Notice}
    (report : b.report = { s.report with lastSeq := some (wordSeq w) }) (time : b.time = s.time)
    (given : b.given = s.given ++ more) (own : more.filter (fun n => !n.handed) = more) :
    s.GeneralDone (b.handOn.completeGeneral w code).settle w code more := by
  refine State.generalDone_of_complete (b.handOn_report.trans report) ?_ fun none => ?_
  · rw [State.handOn_time, time]
  · rw [State.handOn_gives, given, none, List.nil_append, own]

/-- The state in which a fresh command word of the general slot is acted on (R164). -/
def State.received (s : State) (w : Word) : State :=
  s.onReport fun r => { r with lastSeq := some (wordSeq w) }

/-- What PORT_CLEAR leaves. -/
theorem State.portClear_frame (s : State) (w : Word) (c : HallConfig) (p : Fin 16) :
    let t := (((s.received w).clearPort c p).handOn.completeGeneral w .normal).settle
    { t.unhanded s with
      ports := s.ports, report := s.report, gates := s.gates
      grading := { t.grading with cameras := s.grading.cameras } } = s := by
  rw [State.handOn_eq, State.clearPort_eq]
  cases s
  rfl

/-- What LINE_RESUME leaves. -/
theorem State.lineResume_frame (s : State) (w : Word) (c : HallConfig) :
    { ((s.received w).lineResumeTaken c w).settle.unhanded s with report := s.report } = s := by
  rw [State.lineResumeTaken, State.handOn_eq, State.resumeGates_eq]
  cases s
  rfl

/-- Settles O55: each command moves its part, a cleared port and a resumed gate are handed on, and the command completes. -/
theorem lineCommandsTaken : Obligations.LineCommandsTaken := by
  intro w s s1 c config fresh idle
  refine ⟨fun p take port => ?_, fun take => ?_, fun take => ?_⟩
  · have answer : exec .portClear s = .next ((s1.received w).portClearTaken c w).settle :=
      State.generalCommand_acts take config fresh idle fun c w s => s.portClearTaken c w
    rw [State.portClearTaken_port _ c port] at answer
    have frame := s1.portClear_frame w c p
    have ports : (((s1.received w).clearPort c p).handOn.completeGeneral w .normal).settle.ports =
        ((s1.received w).clearPort c p).ports :=
      State.handOn_ports _
    have moved := (s1.received w).clearPort_eq c p
    have given := (s1.received w).clearPort_given c p
    have stays := (s1.received w).clearPort_self_unlocked c p
    have activates := (s1.received w).clearPort_self_up c p
    have downs := (s1.received w).clearPort_self_down c p
    have others := fun q => (s1.received w).clearPort_other c p (q := q)
    rw [← ports] at stays activates downs others
    have discarded := ((s1.received w).clearPort_sequencesDiscarded c p).handOn
    obtain ⟨path, rfl⟩ := State.take_path take
    refine ⟨_, answer, stays, activates, downs, others, ?_, ?_, frame⟩
    · exact ⟨discarded.robots, discarded.gates, discarded.cameras, discarded.latched⟩
    · rw [s.portNotices_congr ports]
      exact State.handOn_done (congrArg State.report moved :) (congrArg State.time moved :) given (s.portNotices_filter _)
  · have answer : exec .purge s = _ :=
      State.generalCommand_acts take config fresh idle fun _ w s => s.purgeQueue.completeGeneral w .normal
    obtain ⟨path, rfl⟩ := State.take_path take
    refine ⟨_, answer, rfl, State.generalDone_of_complete rfl rfl fun h => congrArg (List.filter _) h, ?_⟩
    cases s
    rfl
  · have answer : exec .lineResume s = .next ((s1.received w).lineResumeTaken c w).settle :=
      State.generalCommand_acts take config fresh idle fun c w s => s.lineResumeTaken c w
    have frame := s1.lineResume_frame w c
    have moved := (s1.received w).resumeGates_eq c
    have latched := (s1.received w).resumeGates_holds c
    obtain ⟨path, rfl⟩ := State.take_path take
    refine ⟨_, answer, fun g k hk => ?_, ?_, fun u => ?_, frame⟩
    · exact (State.handOn_latchedStand _ g k hk).trans (latched g hk)
    · exact State.handOn_done (congrArg State.report moved :) (congrArg State.time moved :)
        ((congrArg State.given moved :).trans (List.append_nil _).symm) rfl
    · exact (State.handOn_own _ u).trans (congrArg (fun t : State => (t.robots.get u).map Robot.own) moved :)

end Sys2Proof.Machine
end

section
/-! Where a verdict is placed (R30 to R36): the pitch-log entry it falls after, and the bottle the camera sees there. -/

namespace Sys2Proof.Machine

/-! ## The entry of the pitch log (R31, R32) -/

/-- No entry is found among entries that are all later. -/
theorem locate_later {T : Nat} {l : List Mark} (later : ∀ m ∈ l, T < m.time) (after : Option Mark) : locate T after l = none := by
  induction l generalizing after with
  | nil => rfl
  | cons m older ih =>
    rw [locate, if_neg (Nat.not_le.2 (later m List.mem_cons_self))]
    exact ih (fun x hx => later x (List.mem_cons_of_mem _ hx)) _

/-- The entry found is the first that is not later, between the last passed over and the one behind it. -/
theorem locate_found {T : Nat} {m : Mark} {newer older : List Mark} (later : ∀ x ∈ newer, T < x.time) (found : m.time ≤ T)
    (after : Option Mark) : locate T after (newer ++ m :: older) = some ⟨newer.getLast?.or after, m, older.head?⟩ := by
  induction newer generalizing after with
  | nil => exact if_pos found
  | cons x newer ih =>
    rw [List.cons_append, locate, if_neg (Nat.not_le.2 (later x List.mem_cons_self)),
      ih (fun y hy => later y (List.mem_cons_of_mem _ hy)), List.getLast?_cons]
    cases newer.getLast? <;> rfl

/-- The entry found in the pitch log, which is kept oldest first. -/
theorem locate_log {T : Nat} {m : Mark} {older newer : List Mark} (later : ∀ x ∈ newer, T < x.time) (found : m.time ≤ T) :
    locate T none (older ++ m :: newer).reverse = some ⟨newer.head?, m, older.getLast?⟩ := by
  have split : (older ++ m :: newer).reverse = newer.reverse ++ m :: older.reverse := by simp
  rw [split, locate_found (fun x hx => later x (List.mem_reverse.1 hx)) found, List.getLast?_reverse, List.head?_reverse,
    Option.or_none]

/-! ## The bottle seen (R35, R36) -/

/-- A number within the range of a bottle index is one (R35). -/
theorem bottleOf_inside {b : Int} (low : 0 ≤ b) (high : b < 4294967296) : bottleOf b = some (BitVec.ofInt 32 b) :=
  if_pos ⟨low, high⟩

/-- A number outside that range is none. -/
theorem bottleOf_outside {b : Int} (outside : b < 0 ∨ 4294967296 ≤ b) : bottleOf b = none :=
  if_neg fun ⟨low, high⟩ => by omega

/-- A bottle index is the bottle of its number. -/
theorem bottleOf_toNat (i : Bottle) : bottleOf i.toNat = some i := by
  have high := i.isLt
  rw [bottleOf_inside (by omega) (by omega)]
  simp

/-- The slot sought is in the queue exactly when some slot has its bottle. -/
theorem State.slotOf_isSome {s : State} {b : Bottle} : (s.slotOf b).isSome = true ↔ ∃ x ∈ s.queue, x.bottle = b := by
  rw [State.slotOf, List.find?_isSome]
  simp

/-- The position seen lies within the half window of its bottle (R35). -/
def near (halfWindow : Nat) (seen : Int) : Prop :=
  -(halfWindow * 16 : Int) ≤ seen - 256 * ((seen + 128) / 256) ∧ seen - 256 * ((seen + 128) / 256) ≤ halfWindow * 16

section

variable (s : State) {h : Nat} {seen : Int}

/-- Outside every half window a verdict is ambiguous (R35). -/
theorem State.placeAt_far (far : ¬ near h seen) :
    s.placeAt h seen =
      .unplaced .ambiguous (bottleOf ((seen + 128) / 256)) (detailInt (seen - 256 * ((seen + 128) / 256))) := by
  unfold near at far
  exact if_pos (by omega)

/-- An ambiguous verdict names the nearest bottle, when that has an index. -/
theorem State.placeAt_far_inside (far : ¬ near h seen) (low : 0 ≤ (seen + 128) / 256)
    (high : (seen + 128) / 256 < 4294967296) :
    s.placeAt h seen = .unplaced .ambiguous (some (BitVec.ofInt 32 ((seen + 128) / 256)))
      (detailInt (seen - 256 * ((seen + 128) / 256))) := by
  rw [s.placeAt_far far, bottleOf_inside low high]

/-- An ambiguous verdict names no bottle, when the nearest has no index. -/
theorem State.placeAt_far_outside (far : ¬ near h seen)
    (outside : (seen + 128) / 256 < 0 ∨ 4294967296 ≤ (seen + 128) / 256) :
    s.placeAt h seen = .unplaced .ambiguous none (detailInt (seen - 256 * ((seen + 128) / 256))) := by
  rw [s.placeAt_far far, bottleOf_outside outside]

/-- Within a half window a verdict is out of range, when the bottle has no index (R35). -/
theorem State.placeAt_outside (close : near h seen)
    (outside : (seen + 128) / 256 < 0 ∨ 4294967296 ≤ (seen + 128) / 256) :
    s.placeAt h seen = .unplaced .outOfRange none 0 := by
  unfold near at close
  rw [State.placeAt, bottleOf_outside outside]
  exact if_neg (by omega)

/-- Within the half window of bottle `i` a verdict is placed on it, if the queue holds it (R36). -/
theorem State.placeAt_inside {i : Bottle} (close : near h seen) (its : (i.toNat : Int) = (seen + 128) / 256) :
    s.placeAt h seen = if (s.slotOf i).isSome then .on i else .unplaced .outOfRange (some i) 0 := by
  unfold near at close
  rw [State.placeAt, ← its, bottleOf_toNat]
  exact if_neg (by omega)

/-- Within the half window of a bottle that the queue does not hold a verdict is out of range. -/
theorem State.placeAt_absent {i : Bottle} (close : near h seen) (its : (i.toNat : Int) = (seen + 128) / 256)
    (absent : ∀ x ∈ s.queue, x.bottle ≠ i) : s.placeAt h seen = .unplaced .outOfRange (some i) 0 := by
  refine (s.placeAt_inside close its).trans (if_neg fun held => ?_)
  obtain ⟨x, mem, same⟩ := State.slotOf_isSome.1 held
  exact absent x mem same

/-- Within the half window of a bottle of the queue a verdict is placed on it. -/
theorem State.placeAt_on {x : Slot} (mem : x ∈ s.queue) (close : near h seen)
    (its : (x.bottle.toNat : Int) = (seen + 128) / 256) : s.placeAt h seen = .on x.bottle := by
  rw [s.placeAt_inside close its, if_pos (State.slotOf_isSome.2 ⟨x, mem, rfl⟩)]

end

/-! ## Placement (R30 to R34) -/

/-- How far past the entry a capture falls, in 256ths of the period (R32). -/
def Located.past (l : Located) (c : HallConfig) (T : Nat) : Int :=
  ((T - l.at_.time : Int) * 256) / l.period c.timers.nominalPeriod

/-- The position that a camera sees at a capture (R34). -/
def Located.seen (l : Located) (c : HallConfig) (k : CameraCfg) (T : Nat) : Int :=
  l.at_.bottle.toNat * 256 + l.past c T - k.distance * 16

section

variable (s : State) (c : HallConfig) (k : CameraCfg) {T : Nat}

/-- With an empty log a record is too old. -/
theorem State.place_empty (empty : s.time.pitchLog = []) : s.place c k T = .unplaced .tooOld none 0 := by
  rw [State.place, empty]

/-- A capture more than 1 ms ahead of hall time is in the future. -/
theorem State.place_future (some : s.time.pitchLog ≠ []) (ahead : s.time.hall + 1000000 < T) :
    s.place c k T = .unplaced .future none 0 := by
  unfold State.place
  split
  · contradiction
  · exact if_pos ahead

/-- A capture before every entry is too old. -/
theorem State.place_tooOld (here : T ≤ s.time.hall + 1000000) (later : ∀ m ∈ s.time.pitchLog, T < m.time) :
    s.place c k T = .unplaced .tooOld none 0 := by
  unfold State.place
  split
  · rfl
  · rw [if_neg (Nat.not_lt.2 here), locate_later fun m hm => later m (List.mem_reverse.1 hm)]

/-- Any other capture is placed past the newest entry not later than it. -/
theorem State.place_located (here : T ≤ s.time.hall + 1000000) {older newer : List Mark} {m : Mark}
    (log : s.time.pitchLog = older ++ m :: newer) (found : m.time ≤ T) (later : ∀ x ∈ newer, T < x.time) :
    s.place c k T = s.placePast c k T ⟨newer.head?, m, older.getLast?⟩ := by
  unfold State.place
  split
  · next empty => simp [empty] at log
  · rw [if_neg (Nat.not_lt.2 here), log, locate_log later found]

/-- Two pitches past the newest entry the line has stalled (R33). -/
theorem State.placePast_stalled {l : Located} (newest : l.after = none) (far : 512 ≤ l.past c T) :
    s.placePast c k T l = .unplaced .stalled none (detailNat (l.past c T).toNat) :=
  if_pos ⟨newest, far⟩

/-- Otherwise the bottle is sought at the position the camera sees (R34). -/
theorem State.placePast_seen {l : Located} (close : l.after ≠ none ∨ l.past c T < 512) :
    s.placePast c k T l = s.placeAt k.halfWindow (l.seen c k T) :=
  if_neg fun ⟨newest, far⟩ => close.elim (· newest) (Int.not_lt.2 far)

end

end Sys2Proof.Machine
end

section
/-! The intake of a verdict record (O23): what VERDICT_RECORD moves when the record is stale (R45), when it is not placed (R37), and
when it is placed on a bottle of the queue (R38 to R40). -/

namespace Sys2Proof.Machine

/-! ## The counts (R59) -/

/-- The counts of an unplaced record: unplaced, and the one of its reason. -/
theorem CameraCounts.addUnplaced_eq (k : CameraCounts) (why : Unplaced) :
    k.addUnplaced why = { k with
      unplaced := satAdd 32 k.unplaced 1
      tooOld := if why = .tooOld then satAdd 32 k.tooOld 1 else k.tooOld
      future := if why = .future then satAdd 32 k.future 1 else k.future
      stalled := if why = .stalled then satAdd 32 k.stalled 1 else k.stalled
      ambiguous := if why = .ambiguous then satAdd 32 k.ambiguous 1 else k.ambiguous
      outOfRange := if why = .outOfRange then satAdd 32 k.outOfRange 1 else k.outOfRange } := by
  cases why <;> rfl

/-- The counts of a placed record: placed, the one of its grade, and those of a late and of a second verdict. -/
theorem CameraCounts.addPlaced_eq (k : CameraCounts) (g : Grade) (late double : Bool) (unmet : List (Fin 16)) :
    k.addPlaced g late double unmet = { k with
      placed := satAdd 32 k.placed 1
      pass := if g = .pass then satAdd 32 k.pass 1 else k.pass
      minor := if g = .minor then satAdd 32 k.minor 1 else k.minor
      major := if g = .major then satAdd 32 k.major 1 else k.major
      late := if late then satAdd 32 k.late 1 else k.late
      double := if double then satAdd 32 k.double 1 else k.double
      fails := addFails k.fails unmet } := by
  cases g <;> rfl

/-- The checks of the first template that a record with a usable image fails (R55). -/
def VerdictRec.failed (v : VerdictRec) (t : Template) : List (Fin 16) :=
  if v.imageOk then Template.unmet t v else []

/-- A record fails the checks of its first template that its measurements do not meet. -/
theorem VerdictRec.mem_failed {v : VerdictRec} {t : Template} {i : Fin 16} :
    i ∈ v.failed t ↔ (v.imageOk && !(t.get i).met (v.measure (t.get i).byteNo)) = true := by
  unfold VerdictRec.failed Template.unmet
  cases v.imageOk <;> simp

/-- The fail count of a check moves when the check is failed (R55). -/
theorem VerdictRec.addFails_failed (fails : Table Nat 16) (v : VerdictRec) (t : Template) (i : Fin 16) :
    (addFails fails (v.failed t)).get i =
      if v.imageOk && !(t.get i).met (v.measure (t.get i).byteNo) then min 65535 (fails.get i + 1) else fails.get i :=
  (Table.get_mapFin _ _ _).trans (if_congr VerdictRec.mem_failed rfl rfl)

/-! ## The entry of the slot (R38, R39) -/

/-- The worse of two verdicts stays; their grades rank as their codes do (R39). -/
theorem recordVerdict_some (e : VerdictEntry) (r : Graded) :
    recordVerdict (some e) r = { kept := if e.kept.grade.code < r.grade.code then r else e.kept, double := true } := by
  have rank : ∀ g : Grade, g.badness = g.code := fun g => by cases g <;> rfl
  rw [recordVerdict, rank, rank]

/-- What a verdict changes in a slot: the entry of its camera, and the late count of the decision at its gate, if that is formed
(R38 to R40). -/
theorem Slot.takeVerdict_eq (q : Slot) (n : Fin 6) (r : Graded) (gate : Option (Fin 2)) :
    q.takeVerdict n r gate = { q with
      verdicts := q.verdicts.set n (some (recordVerdict (q.verdicts.get n) r))
      decisions := match gate with
        | some g => q.decisions.modify g (Option.map fun d => { d with late := min 255 (d.late + 1) })
        | none => q.decisions } := by
  cases gate <;> rfl

/-- The queue after a verdict: the slots of the bottle have taken it. -/
theorem State.onSlot_takeVerdict (s : State) (b : Bottle) (n : Fin 6) (r : Graded) (gate : Option (Fin 2)) :
    (s.onSlot b fun x => x.takeVerdict n r gate).queue = s.queue.map fun x =>
      if x.bottle = b then
        { x with
          verdicts := x.verdicts.set n (some (recordVerdict (x.verdicts.get n) r))
          decisions := match gate with
            | some g => x.decisions.modify g (Option.map fun d => { d with late := min 255 (d.late + 1) })
            | none => x.decisions }
      else x :=
  congrArg (List.map · s.queue)
    (funext fun x => congrArg (fun y => if x.bottle = b then y else x) (x.takeVerdict_eq n r gate))

/-- The slot found is that of the bottle sought. -/
theorem State.slotOf_bottle {s : State} {b : Bottle} {q : Slot} (slot : s.slotOf b = some q) : q.bottle = b :=
  of_decide_eq_true (List.find?_some (p := fun q : Slot => decide (q.bottle = b)) slot)

/-! ## Notices -/

/-- VERDICT_GAP, if sequences were missed (R46). -/
def State.gapNotices (s : State) (k : CameraCfg) (gap : Nat) : List Notice :=
  if gap = 0 then [] else [{ s.note .verdictGap with subject := k.unit, detail := BitVec.ofNat 32 gap }]

/-- VERDICT_UNPLACED of a verbose camera (R37). -/
def State.unplacedNotices (s : State) (k : CameraCfg) (why : Unplaced) (b : Option Bottle) (d : BitVec 32) : List Notice :=
  if k.verbose then [{ s.note .verdictUnplaced with subject := k.unit, code := why.code, bottle := b, detail := d }] else []

/-- The grade of a verdict on the bottle of slot `q`, under the bank that the slot names (R50). -/
def State.gradeOn (s : State) (k : CameraCfg) (v : VerdictRec) (q : Slot) : Graded :=
  Bank.gradeOf (s.grading.bankFor q.generation) k v

/-- The counts of a camera after a verdict on the bottle of slot `q` (R55, R59). -/
def State.countsOn (s : State) (k : CameraCfg) (n : Fin 6) (v : VerdictRec) (q : Slot) (gate : Option (Fin 2))
    (counts : CameraCounts) : CameraCounts :=
  counts.addPlaced (s.gradeOn k v q).grade (q.lateAt gate) (q.verdicts.get n).isSome
    (v.failed (Bank.template (s.grading.bankFor q.generation) k.chainFirst))

/-- VERDICT_LATE of a verdict after the decision of its gate (R40). -/
def State.lateNotices (s : State) (k : CameraCfg) (v : VerdictRec) (q : Slot) (gate : Option (Fin 2)) : List Notice :=
  if q.lateAt gate then
    [{ s.note .verdictLate with
       subject := k.unit, code := (gate.map Fin.val).getD 0, bottle := some q.bottle
       detail := BitVec.ofNat 32 (s.gradeOn k v q).grade.code }]
  else []

/-- A gap is of 32 bits. -/
theorem seqGap_lt (last : Option Seq) (seq : Seq) : seqGap last seq < 2 ^ 32 := by
  cases last with
  | none => exact Nat.two_pow_pos 32
  | some l => exact (seq - l - 1).isLt

/-- Reporting a gap gives its notice and does nothing else. -/
theorem State.giveGap_eq (s : State) (k : CameraCfg) (last : Option Seq) (seq : Seq) :
    s.giveGap k (seqGap last seq) = { s with given := s.given ++ s.gapNotices k (seqGap last seq) } := by
  rw [State.giveGap, State.gapNotices, detailNat_of_lt (seqGap_lt last seq)]
  split
  · rw [List.append_nil]
  · rfl

/-! ## The outcome of placement (R47) -/

section

variable (s : State) {c : HallConfig} (n : Fin 6) {k : CameraCfg} {v : VerdictRec}

/-- An unplaced record is counted under its reason, and the queue stands (R37, R59). -/
theorem State.placed_unplaced {why : Unplaced} {b : Option Bottle} {d : BitVec 32}
    (place : s.place c k v.capture = .unplaced why b d) :
    s.placed c n k v = { s.onCounts n (fun x => x.addUnplaced why) with given := s.given ++ s.unplacedNotices k why b d } := by
  simp only [State.placed, place, State.countUnplaced, State.unplacedNotices]
  split
  · rfl
  · rw [List.append_nil]
    rfl

/-- A placed record is graded under the bank its bottle names, recorded in its slot, and counted (R38 to R40, R50, R59). -/
theorem State.placed_on {b : Bottle} {q : Slot} (place : s.place c k v.capture = .on b) (slot : s.slotOf b = some q) :
    s.placed c n k v =
      { (s.onSlot q.bottle fun x => x.takeVerdict n (s.gradeOn k v q) (c.cameraGate n)).onCounts n
          (s.countsOn k n v q (c.cameraGate n)) with
        given := s.given ++ s.lateNotices k v q (c.cameraGate n) } := by
  have detail : ∀ g : Grade, detailNat g.code = BitVec.ofNat 32 g.code := fun g => by cases g <;> rfl
  simp only [State.placed, place, slot, State.recordPlaced, State.lateNotices, detail]
  split
  · rfl
  · rw [List.append_nil]
    rfl

/-- Whatever comes of placement, the queue, the counts of the camera and the notices given move alone. -/
theorem State.placed_frame (k : CameraCfg) (v : VerdictRec) : ∃ counts queue given,
    s.placed c n k v = { s.onCounts n counts with queue := queue, given := given } := by
  cases place : s.place c k v.capture with
  | unplaced why b d => exact ⟨_, _, _, s.placed_unplaced n place⟩
  | on b =>
    cases slot : s.slotOf b with
    | some q => exact ⟨_, _, _, s.placed_on n place slot⟩
    | none =>
      refine ⟨id, s.queue, s.given, ?_⟩
      simp only [State.placed, place, slot, State.onCounts, State.onCamera, State.onGrading, id, Table.modify_id]

end

/-! ## The three ways of a record -/

section

variable (s : State) {c : HallConfig} (n : Fin 6) (v : VerdictRec)

/-- The camera record that takes the verdict, its counts changed by `f` (R46, R59). -/
def CameraRec.counted (seq : Seq) (f : CameraCounts → CameraCounts) (r : CameraRec) : CameraRec :=
  { r.takeSeq seq with counts := f (r.takeSeq seq).counts }

/-- A stale record moves the stale count of its camera (R45). -/
theorem State.verdictTaken_stale (config : s.config = some c)
    (stale : seqPasses (s.grading.cameras.get n).lastSeq v.seq = false) :
    s.verdictTaken n v = s.onCounts n fun x => { x with stale := satAdd 32 x.stale 1 } := by
  simp only [State.verdictTaken, config, stale, Bool.false_eq_true, if_false]

/-- The state in which camera `n` has taken a record of this sequence, its gap reported (R46, R47). -/
def State.seqTaken (s : State) (k : CameraCfg) (n : Fin 6) (seq : Seq) : State :=
  { s.onCamera n (fun r => r.takeSeq seq) with
    given := s.given ++ s.gapNotices k (seqGap (s.grading.cameras.get n).lastSeq seq) }

/-- Any other record is taken with its gap, and carried to its placement (R46, R47). -/
theorem State.verdictTaken_fresh (config : s.config = some c)
    (fresh : seqPasses (s.grading.cameras.get n).lastSeq v.seq = true) :
    s.verdictTaken n v = (s.seqTaken (c.cameras.get n) n v.seq).placed c n (c.cameras.get n) v := by
  simp only [State.verdictTaken, config, fresh, if_true, State.giveGap_eq]
  rfl

/-- The counts moved after the record is taken are moved with it. -/
theorem State.onCamera_onCounts (seq : Seq) (f : CameraCounts → CameraCounts) :
    (s.onCamera n fun r => r.takeSeq seq).onCounts n f = s.onCamera n (CameraRec.counted seq f) := by
  simp only [State.onCounts, State.onCamera, State.onGrading, Table.modify_modify]
  rfl

/-- An unplaced record is counted under its reason, and the queue stands (R37, R59). -/
theorem State.verdictTaken_unplaced (config : s.config = some c)
    (fresh : seqPasses (s.grading.cameras.get n).lastSeq v.seq = true) {why : Unplaced} {b : Option Bottle} {d : BitVec 32}
    (place : s.place c (c.cameras.get n) v.capture = .unplaced why b d) :
    s.verdictTaken n v =
      { s.onCamera n (CameraRec.counted v.seq fun x => x.addUnplaced why) with
        given := s.given ++ (s.gapNotices (c.cameras.get n) (seqGap (s.grading.cameras.get n).lastSeq v.seq) ++
          s.unplacedNotices (c.cameras.get n) why b d) } := by
  have same : (s.seqTaken (c.cameras.get n) n v.seq).place c (c.cameras.get n) v.capture = .unplaced why b d := place
  rw [s.verdictTaken_fresh n v config fresh, State.placed_unplaced _ n same, ← State.onCamera_onCounts, ← List.append_assoc]
  rfl

/-- A placed record is graded, recorded and counted (R38 to R40, R50, R59). -/
theorem State.verdictTaken_placed (config : s.config = some c)
    (fresh : seqPasses (s.grading.cameras.get n).lastSeq v.seq = true) {b : Bottle} {q : Slot}
    (place : s.place c (c.cameras.get n) v.capture = .on b) (slot : s.slotOf b = some q) :
    s.verdictTaken n v =
      { (s.onSlot q.bottle fun x => x.takeVerdict n (s.gradeOn (c.cameras.get n) v q) (c.cameraGate n)).onCamera n
          (CameraRec.counted v.seq (s.countsOn (c.cameras.get n) n v q (c.cameraGate n))) with
        given := s.given ++ (s.gapNotices (c.cameras.get n) (seqGap (s.grading.cameras.get n).lastSeq v.seq) ++
          s.lateNotices (c.cameras.get n) v q (c.cameraGate n)) } := by
  have same : (s.seqTaken (c.cameras.get n) n v.seq).place c (c.cameras.get n) v.capture = .on b := place
  rw [s.verdictTaken_fresh n v config fresh, State.placed_on _ n same slot, ← State.onCamera_onCounts, ← List.append_assoc]
  rfl

/-- A record moves the queue, the record of its camera and the notices given, and one that is taken leaves its sequence there. -/
theorem State.verdictTaken_frame (config : s.config = some c) : ∃ record queue given,
    s.verdictTaken n v = { s.onCamera n record with queue := queue, given := given } ∧
      (seqPasses (s.grading.cameras.get n).lastSeq v.seq = true → ∀ r, (record r).lastSeq = some v.seq) := by
  cases passes : seqPasses (s.grading.cameras.get n).lastSeq v.seq with
  | false => exact ⟨_, s.queue, s.given, s.verdictTaken_stale n v config passes, nofun⟩
  | true =>
    obtain ⟨counts, queue, given, placed⟩ :=
      (s.seqTaken (c.cameras.get n) n v.seq).placed_frame (c := c) n (c.cameras.get n) v
    refine ⟨CameraRec.counted v.seq counts, queue, given, ?_, fun _ _ => rfl⟩
    rw [s.verdictTaken_fresh n v config passes, placed, ← State.onCamera_onCounts]
    rfl

end

/-! ## The obligation -/

/-- A record's sequence passes when it is later than the last taken one, if there is one (R45). -/
theorem seqPasses_eq_true {last : Option Seq} {seq : Seq} (later : ∀ l, last = some l → serialLater seq l = true) :
    seqPasses last seq = true := by
  cases last with
  | none => rfl
  | some l => exact later l rfl

/-- Settles O23: a record is stale, or is taken and comes to its placement, which R30 to R36 determine. -/
theorem verdictRecordHandled : Obligations.VerdictRecordHandled := by
  refine ⟨fun tag s s1 c n v take config => ?_, fun s c k T => ?_⟩
  · have answer : exec (.verdictRecord tag) s = .next (s1.verdictTaken n v).settle := State.taking_some s _ take
    obtain ⟨path, rfl⟩ := State.take_path take
    obtain ⟨record, queue, given, frame, seq⟩ := State.verdictTaken_frame { s with path := path } n v config
    refine ⟨_, answer, fun m other => ?_, ?_, fun l last earlier => ?_, fun later => ?_⟩
    · rw [frame]
      exact Table.get_modify_ne _ _ other
    · rw [frame]
      rfl
    · have passes : seqPasses (s.grading.cameras.get n).lastSeq v.seq = false := by
        rw [last]
        exact earlier
      rw [State.verdictTaken_stale { s with path := path } n v config passes]
      exact ⟨Table.get_modify_self _ _ _, State.settle_givesOnly rfl rfl (List.append_nil _).symm, rfl⟩
    · have passes := seqPasses_eq_true later
      refine ⟨?_, ?_, fun why b d place => ?_, fun b q place slot => ?_⟩
      · rw [frame]
        exact (congrArg CameraRec.lastSeq (Table.get_modify_self _ _ _)).trans (seq passes _)
      · rw [frame]
        rfl
      · rw [State.verdictTaken_unplaced { s with path := path } n v config passes place]
        exact ⟨rfl, (congrArg CameraRec.counts (Table.get_modify_self _ _ _)).trans (CameraCounts.addUnplaced_eq _ why),
          State.settle_givesOnly rfl rfl rfl⟩
      · obtain rfl : q.bottle = b := State.slotOf_bottle slot
        rw [State.verdictTaken_placed { s with path := path } n v config passes place slot]
        intro bank r first late
        have counts := (congrArg CameraRec.counts (Table.get_modify_self s.grading.cameras n
          (CameraRec.counted v.seq (s.countsOn (c.cameras.get n) n v q (c.cameraGate n))))).trans
            (CameraCounts.addPlaced_eq _ r.grade late _ _)
        refine ⟨⟨fun e => recordVerdict e r, rfl, fun e => recordVerdict_some e r, s.onSlot_takeVerdict q.bottle n r _⟩,
          ?_, fun i => ?_, State.settle_givesOnly rfl rfl rfl⟩
        · exact congrArg (fun k : CameraCounts => { k with fails := (s.grading.cameras.get n).counts.fails }) counts
        · exact (congrArg (fun k : CameraCounts => k.fails.get i) counts).trans (VerdictRec.addFails_failed _ v _ i)
  · refine ⟨s.place_empty c k, s.place_future c k, s.place_tooOld c k, fun older m newer log here found later => ?_⟩
    rw [s.place_located c k here log found later]
    refine ⟨fun newest far => ?_, fun close => ?_⟩
    · subst newest
      exact s.placePast_stalled c k rfl far
    · have seen := s.placePast_seen c k (l := ⟨newer.head?, m, older.getLast?⟩) (T := T) (close.imp_left (by simp))
      exact ⟨fun far low high => seen.trans (s.placeAt_far_inside far low high),
        fun far outside => seen.trans (s.placeAt_far_outside far outside),
        fun near outside => seen.trans (s.placeAt_outside near outside),
        fun i near its absent => seen.trans (s.placeAt_absent near its absent),
        fun x mem near its => seen.trans (s.placeAt_on mem near its)⟩

end Sys2Proof.Machine
end

section
/-! The ledger: what the invariants of the own traffic (R152, R157, R164) and of the camera statistics (R60) read of a state, and
everything a step can do to it. Most commands leave it alone; `Ledger.Moves` lists the others' entries, and each keeps both
invariants. -/

namespace Sys2Proof.Machine

/-! ## The ledger of a state -/

/-- What the two invariants read. -/
structure Ledger where
  /-- The statistics by camera. -/
  counts : Fin 6 → CameraCounts
  /-- The transactions presented and not yet answered. -/
  flights : List Flight
  /-- The own queue. -/
  waiting : List OwnTxn
  /-- Own transactions granted and not yet answered. -/
  atMemory : List OwnTxn
  /-- The wait count. -/
  wait : Nat
  /-- A load is READING. -/
  reading : Bool
  /-- The general slot. -/
  slot : SlotState
  /-- The snapshot in flight. -/
  snapshot : Option Snapshot

/-- The ledger of a state. -/
def State.ledger (s : State) : Ledger :=
  { counts := fun n => (s.grading.cameras.get n).counts
    flights := s.path.flights, waiting := s.path.ownQueue, atMemory := s.path.ownAtMemory, wait := s.path.ownWait
    reading := s.loader.kind.isSome, slot := s.report.slot, snapshot := s.report.snapshot }

/-- How many own transactions of requester `r` are in a list. -/
def ownIn (l : List OwnTxn) (r : Requester) : Nat :=
  l.countP fun o => decide (o.requester = r)

@[simp] theorem ownIn_nil (r : Requester) : ownIn [] r = 0 := rfl

@[simp] theorem ownIn_cons (o : OwnTxn) (l : List OwnTxn) (r : Requester) :
    ownIn (o :: l) r = ownIn l r + if o.requester = r then 1 else 0 := by
  simp [ownIn, List.countP_cons]

@[simp] theorem ownIn_append (l m : List OwnTxn) (r : Requester) : ownIn (l ++ m) r = ownIn l r + ownIn m r :=
  List.countP_append

/-- Changing own transactions without changing whose they are keeps their number. -/
theorem ownIn_map {f : OwnTxn → OwnTxn} (same : ∀ o, (f o).requester = o.requester) (l : List OwnTxn) (r : Requester) :
    ownIn (l.map f) r = ownIn l r := by
  simp [ownIn, List.countP_map, Function.comp_def, same]

/-- The oldest transaction of `tag` in a list. -/
def oldestIn (tag : Fin 32) (fs : List Flight) : Option Flight :=
  fs.find? fun f => decide (f.txn.tag = tag)

/-- Among transactions not yet answered, none that is the oldest of its tag is refused (R144). -/
def inOrder (fs : List Flight) : Prop :=
  ∀ tag f, oldestIn tag fs = some f → f.treatment ≠ .denied

/-- The own traffic is sound (R62, R144, R152, R157, R164). -/
structure Ledger.OwnSound (k : Ledger) : Prop where
  /-- The loader's read. -/
  config : ownIn k.waiting .config + ownIn k.atMemory .config = if k.reading then 1 else 0
  /-- The snapshot's write. -/
  written : ownIn k.waiting .snapshot + ownIn k.atMemory .snapshot = if k.snapshot.isSome then 1 else 0
  /-- The notice write. -/
  notice : ownIn k.waiting .notice + ownIn k.atMemory .notice ≤ 1
  /-- The general slot. -/
  slot : k.slot = .inProgress ↔ k.snapshot.isSome = true
  /-- The wait count. -/
  wait : k.wait ≤ 8
  /-- No head, no wait. -/
  idle : k.waiting = [] → k.wait = 0
  /-- Refused transactions wait behind earlier ones. -/
  flights : inOrder k.flights

/-- The sums of R60 hold of every camera and of the copy. -/
structure Ledger.CountsSound (k : Ledger) : Prop where
  /-- The live statistics. -/
  cameras : ∀ n, (k.counts n).Sound
  /-- The copy of the snapshot in flight. -/
  copy : ∀ x, k.snapshot = some x → x.copy.counts.Sound

/-- The path's count of own transactions is that of its two lists. -/
theorem Path.ownCount_eq (p : Path) (r : Requester) : p.ownCount r = ownIn p.ownQueue r + ownIn p.ownAtMemory r := by
  rw [Path.ownCount, ← List.countP_eq_length_filter]
  exact ownIn_append _ _ r

/-- The invariant of the own traffic is one of the ledger. -/
theorem State.ownSound_iff (s : State) : s.OwnSound ↔ s.ledger.OwnSound := by
  have count := s.path.ownCount_eq
  constructor
  · rintro ⟨config, written, notice, slot, wait, idle, flights⟩
    rw [count] at config written notice
    exact ⟨config, written, notice, slot, wait, idle, flights⟩
  · rintro ⟨config, written, notice, slot, wait, idle, flights⟩
    refine ⟨?_, ?_, ?_, slot, wait, idle, flights⟩ <;> rw [count]
    exacts [config, written, notice]

/-- The invariant of the statistics is one of the ledger. -/
theorem State.countsSound_iff (s : State) : s.CountsSound ↔ s.ledger.CountsSound :=
  ⟨fun h => ⟨h.cameras, h.copy⟩, fun h => ⟨h.cameras, h.copy⟩⟩

/-! ## What a step can do to it -/

/-- The ledger after the application of a FULL load: fresh statistics, the general slot as the snapshot in flight has it, and the
own transactions passed on by `f` (R59, R160, R169). -/
def Ledger.reload (k : Ledger) (f : OwnTxn → OwnTxn) : Ledger :=
  { k with
    counts := fun _ => CameraCounts.zero, waiting := k.waiting.map f, atMemory := k.atMemory.map f
    slot := if k.snapshot.isSome then .inProgress else .idle }

/-- The ledger passes from `k` to `k'` by entries that a step can make. -/
inductive Ledger.Moves : Ledger → Ledger → Prop
  /-- Nothing is entered. -/
  | refl (k : Ledger) : Moves k k
  /-- One entry after another. -/
  | trans {k l m : Ledger} (first : Moves k l) (second : Moves l m) : Moves k m
  /-- Transactions of the sources come, go on or are answered (R144). -/
  | flights (k : Ledger) {fs : List Flight} (kept : inOrder k.flights → inOrder fs) : Moves k { k with flights := fs }
  /-- Statistics move with their sums, or are cleared (R59, R60). -/
  | counts (k : Ledger) {f : Fin 6 → CameraCounts} (kept : ∀ n, (k.counts n).Sound → (f n).Sound) :
      Moves k { k with counts := f }
  /-- A notice write is presented while none is outstanding (R167). -/
  | noticePresented (k : Ledger) {o : OwnTxn} (whose : o.requester = .notice)
      (free : ∀ x ∈ k.waiting ++ k.atMemory, x.requester ≠ .notice) : Moves k { k with waiting := k.waiting ++ [o] }
  /-- A notice write is answered (R167). -/
  | noticeAnswered (k : Ledger) {o : OwnTxn} {rest : List OwnTxn} (head : k.atMemory = o :: rest)
      (whose : o.requester = .notice) : Moves k { k with atMemory := rest }
  /-- A load begins with the read of its first line (R157). -/
  | loadBegins (k : Ledger) {o : OwnTxn} (idle : k.reading = false) (whose : o.requester = .config) :
      Moves k { k with reading := true, waiting := k.waiting ++ [o] }
  /-- A line is answered and the next is read (R157). -/
  | nextLine (k : Ledger) {o new : OwnTxn} {rest : List OwnTxn} (head : k.atMemory = o :: rest)
      (whose : o.requester = .config) (whoseNew : new.requester = .config) :
      Moves k { k with atMemory := rest, waiting := k.waiting ++ [new] }
  /-- A line is answered and the load ends (R157 to R159). -/
  | loadEnds (k : Ledger) {o : OwnTxn} {rest : List OwnTxn} (head : k.atMemory = o :: rest) (whose : o.requester = .config)
      (reads : k.reading = true) : Moves k { k with atMemory := rest, reading := false }
  /-- A FULL load is applied, which leaves own transactions whose they are (R160). -/
  | reloaded (k : Ledger) {f : OwnTxn → OwnTxn} (same : ∀ o, (f o).requester = o.requester) : Moves k (k.reload f)
  /-- A command of the general slot completes at once (R164). -/
  | completed (k : Ledger) (idle : k.slot ≠ .inProgress) : Moves k { k with slot := .complete }
  /-- A snapshot begins with a copy of a camera's statistics and the write of its first line (R61, R62). -/
  | snapshotBegins (k : Ledger) {x : Snapshot} {n : Fin 6} {o : OwnTxn} (idle : k.slot ≠ .inProgress)
      (copied : x.copy.counts = k.counts n) (whose : o.requester = .snapshot) :
      Moves k { k with slot := .inProgress, snapshot := some x, waiting := k.waiting ++ [o] }
  /-- Its first line is answered and its second written (R62). -/
  | snapshotSecond (k : Ledger) {x x' : Snapshot} {o new : OwnTxn} {rest : List OwnTxn} (head : k.atMemory = o :: rest)
      (inFlight : k.snapshot = some x) (same : x'.copy = x.copy) (whose : o.requester = .snapshot)
      (whoseNew : new.requester = .snapshot) :
      Moves k { k with atMemory := rest, snapshot := some x', waiting := k.waiting ++ [new] }
  /-- Its second line is answered (R62, R164). -/
  | snapshotDone (k : Ledger) {o : OwnTxn} {rest : List OwnTxn} (head : k.atMemory = o :: rest)
      (inFlight : k.snapshot.isSome = true) (whose : o.requester = .snapshot) :
      Moves k { k with atMemory := rest, snapshot := none, slot := .complete }
  /-- The own head is granted (R152). -/
  | granted (k : Ledger) {o : OwnTxn} {rest : List OwnTxn} (head : k.waiting = o :: rest) :
      Moves k { k with waiting := rest, wait := 0, atMemory := k.atMemory ++ [o] }
  /-- The own head waits once more (R152). -/
  | waited (k : Ledger) (some : k.waiting ≠ []) (less : k.wait < 8) : Moves k { k with wait := k.wait + 1 }
  /-- RESET_N (R153). -/
  | reset (k : Ledger) : Moves k State.reset.ledger

/-- A state with the same ledger. -/
theorem Ledger.Moves.of_eq {k k' : Ledger} (same : k' = k) : Moves k k' :=
  same ▸ .refl k

/-- No transaction of `r` in a list. -/
theorem ownIn_eq_zero {l : List OwnTxn} {r : Requester} (none : ∀ x ∈ l, x.requester ≠ r) : ownIn l r = 0 := by
  simpa [ownIn, List.countP_eq_zero] using none

/-- Every entry keeps the own traffic sound. -/
theorem Ledger.Moves.ownSound {k k' : Ledger} (moves : Moves k k') (h : k.OwnSound) : k'.OwnSound := by
  induction moves with
  | refl => exact h
  | trans _ _ ih1 ih2 => exact ih2 (ih1 h)
  | flights k kept => exact { h with flights := kept h.flights }
  | counts k _ => exact { h with }
  | noticePresented k whose free =>
    have none := ownIn_eq_zero free
    rw [ownIn_append] at none
    exact { h with
      config := by simpa [whose] using h.config
      written := by simpa [whose] using h.written
      notice := by simp [whose]; omega
      idle := by simp }
  | noticeAnswered k head whose =>
    obtain ⟨config, written, notice, slot, wait, idle, flights⟩ := h
    rw [head] at config written notice
    simp [whose] at config written notice
    exact ⟨config, written, by simp; omega, slot, wait, idle, flights⟩
  | loadBegins k unread whose =>
    have config := h.config
    simp [unread] at config
    exact { h with
      config := by simp [whose, config]
      written := by simpa [whose] using h.written
      notice := by simpa [whose] using h.notice
      idle := by simp }
  | nextLine k head whose whoseNew =>
    obtain ⟨config, written, notice, slot, wait, idle, flights⟩ := h
    rw [head] at config written notice
    simp [whose] at config written notice
    exact ⟨by simp [whoseNew]; omega, by simpa [whoseNew] using written, by simpa [whoseNew] using notice, slot, wait,
      by simp, flights⟩
  | loadEnds k head whose reads =>
    obtain ⟨config, written, notice, slot, wait, idle, flights⟩ := h
    rw [head] at config written notice
    simp [whose, reads] at config written notice
    exact ⟨by simp; omega, written, notice, slot, wait, idle, flights⟩
  | reloaded k same =>
    have kept := fun r => congrArg₂ (· + ·) (ownIn_map same k.waiting r) (ownIn_map same k.atMemory r)
    exact { h with
      config := (kept _).trans h.config
      written := (kept _).trans h.written
      notice := (kept _).le.trans h.notice
      slot := by cases none : k.snapshot <;> simp [Ledger.reload, none]
      idle := fun none => h.idle (List.map_eq_nil_iff.1 none) }
  | completed k idle =>
    have none := h.slot.not.1 idle
    exact { h with slot := by simp [none] }
  | snapshotBegins k unused copied whose =>
    have none := h.slot.not.1 unused
    have written := h.written
    simp [none] at written
    exact { h with
      config := by simpa [whose] using h.config
      written := by simp [whose, written]
      notice := by simpa [whose] using h.notice
      slot := by simp
      idle := by simp }
  | snapshotSecond k head inFlight same whose whoseNew =>
    obtain ⟨config, written, notice, slot, wait, idle, flights⟩ := h
    rw [head] at config written notice
    simp [whose, inFlight] at config written notice slot
    exact ⟨by simpa [whoseNew] using config, by simp [whoseNew]; omega, by simpa [whoseNew] using notice, by simpa using slot,
      wait, by simp, flights⟩
  | snapshotDone k head inFlight whose =>
    obtain ⟨config, written, notice, slot, wait, idle, flights⟩ := h
    rw [head] at config written notice
    simp [whose, inFlight] at config written notice
    exact ⟨config, by simp; omega, notice, by simp, wait, idle, flights⟩
  | granted k head =>
    obtain ⟨config, written, notice, slot, wait, idle, flights⟩ := h
    rw [head] at config written notice
    simp at config written notice
    exact ⟨by simp; omega, by simp; omega, by simp; omega, slot, by simp, by simp, flights⟩
  | waited k some less => exact { h with wait := by simpa using less, idle := fun none => absurd none some }
  | reset k =>
    obtain ⟨-, -, -, -, -, -, -, -, own, -⟩ := resetIsSound
    exact (State.ownSound_iff _).1 own

/-- Every entry keeps the sums of the statistics. -/
theorem Ledger.Moves.countsSound {k k' : Ledger} (moves : Moves k k') (h : k.CountsSound) : k'.CountsSound := by
  induction moves with
  | trans _ _ ih1 ih2 => exact ih2 (ih1 h)
  | counts k kept => exact { h with cameras := fun n => kept n (h.cameras n) }
  | reloaded k _ => exact { h with cameras := fun _ _ => ⟨rfl, rfl, rfl, Nat.le_refl 0, Nat.le_refl 0⟩ }
  | snapshotBegins k _ copied _ => exact { h with copy := by rintro _ ⟨⟩; exact copied ▸ h.cameras _ }
  | snapshotSecond k _ inFlight same _ _ => exact { h with copy := by rintro _ ⟨⟩; exact same ▸ h.copy _ inFlight }
  | snapshotDone k _ _ _ => exact { h with copy := nofun }
  | reset k =>
    obtain ⟨-, -, -, -, -, -, -, -, -, -, -, -, counts⟩ := resetIsSound
    exact (State.countsSound_iff _).1 counts
  | _ => exact { h with }

end Sys2Proof.Machine
end

section
/-! SUPPORT. The operations that leave the ledger alone. -/

namespace Sys2Proof.Machine

variable (s : State)

/-- States with the same path, loader, report unit and camera statistics have the same ledger. -/
theorem State.ledger_congr {s t : State} (path : t.path = s.path) (loader : t.loader = s.loader) (report : t.report = s.report)
    (counts : ∀ n, (t.grading.cameras.get n).counts = (s.grading.cameras.get n).counts) : t.ledger = s.ledger := by
  simp only [State.ledger, path, loader, report, counts]

/-- A fold of operations that keep the ledger keeps it. -/
theorem State.foldl_ledger {α : Type} (f : State → α → State) (h : ∀ s a, (f s a).ledger = s.ledger) (l : List α) :
    (l.foldl f s).ledger = s.ledger := by
  induction l generalizing s with
  | nil => rfl
  | cons a l ih => rw [List.foldl_cons, ih, h]

/-! ### Small updates -/

@[simp] theorem State.onTime_ledger (f : TimeUnit → TimeUnit) : (s.onTime f).ledger = s.ledger := rfl
@[simp] theorem State.onTable_ledger (f : TableState → TableState) : (s.onTable f).ledger = s.ledger := rfl
@[simp] theorem State.onRobot_ledger (u : Fin 24) (f : Robot → Robot) : (s.onRobot u f).ledger = s.ledger := rfl
@[simp] theorem State.onGate_ledger (g : Fin 2) (f : GateRec → GateRec) : (s.onGate g f).ledger = s.ledger := rfl
@[simp] theorem State.onZone_ledger (z : Fin 8) (f : Zone → Zone) : (s.onZone z f).ledger = s.ledger := rfl
@[simp] theorem State.onPort_ledger (p : Fin 16) (f : Port → Port) : (s.onPort p f).ledger = s.ledger := rfl
@[simp] theorem State.onAccount_ledger (u : Fin 24) (f : Account → Account) : (s.onAccount u f).ledger = s.ledger := rfl
@[simp] theorem State.onSlot_ledger (b : Bottle) (f : Slot → Slot) : (s.onSlot b f).ledger = s.ledger := rfl
@[simp] theorem State.give_ledger (n : Notice) : (s.give n).ledger = s.ledger := rfl
@[simp] theorem State.setLevel_ledger (z : Fin 8) (b : Bool) : (s.setLevel z b).ledger = s.ledger := rfl

/-! ### Shared operations -/

@[simp] theorem State.handOn_ledger : s.handOn.ledger = s.ledger := by simp [State.ledger]
@[simp] theorem State.addHold_ledger (g : Fin 2) (k : LineCause) (b : Option Bottle) :
    (s.addHold g k b).ledger = s.ledger := by simp [State.ledger]
@[simp] theorem State.dropLatched_ledger (g : Fin 2) : (s.dropLatched g).ledger = s.ledger := rfl
@[simp] theorem State.confirmMembers_ledger (c : HallConfig) (z : Fin 8) : (s.confirmMembers c z).ledger = s.ledger := rfl
@[simp] theorem State.completeNow_ledger (z : Fin 8) (q : Byte) (code : Completion) :
    (s.completeNow z q code).ledger = s.ledger := rfl
@[simp] theorem State.completeEnter_ledger (z : Fin 8) (code : Completion) :
    (s.completeEnter z code).ledger = s.ledger := by simp [State.ledger]
@[simp] theorem State.completeAlone_ledger (z : Fin 8) (code : Completion) :
    (s.completeAlone z code).ledger = s.ledger := rfl
@[simp] theorem State.markSpan_ledger (c : HallConfig) (z : Fin 8) : (s.markSpan c z).ledger = s.ledger := by
  simp [State.ledger]
@[simp] theorem State.moveZone_ledger (c : HallConfig) (z : Fin 8) (new : ZoneState) :
    (s.moveZone c z new).ledger = s.ledger := by simp [State.ledger]
@[simp] theorem State.setDue_ledger (u : Fin 24) : (s.setDue u).ledger = s.ledger := rfl
@[simp] theorem State.stopLine_ledger : s.stopLine.ledger = s.ledger := rfl

/-- Discarding sequences leaves the cameras' statistics (R48). -/
@[simp] theorem State.discardSequences_ledger (c : HallConfig) (p : Fin 16) : (s.discardSequences c p).ledger = s.ledger := by
  refine State.ledger_congr rfl rfl rfl fun n => ?_
  simp only [State.discardSequences, Table.get_mapFin]
  split <;> rfl

@[simp] theorem State.movePort_ledger (c : HallConfig) (p : Fin 16) (new : PortState) (reason : PortReason) :
    (s.movePort c p new reason).ledger = s.ledger := by
  simp only [State.movePort]
  split <;> simp

/-- A denial is counted in no part of the ledger (R145). -/
@[simp] theorem State.countDenial_ledger (tag : Fin 32) : (s.countDenial tag).ledger = s.ledger := by
  unfold State.countDenial
  split
  · exact State.onPort_ledger _ _ _
  · rfl

/-! ### Time and pitch -/

@[simp] theorem State.giveFrameNotices_ledger (u : Fin 24) (before : TimeUnit) (o : Int) (stamp : Nat) :
    (s.giveFrameNotices u before o stamp).ledger = s.ledger := by
  unfold State.giveFrameNotices
  simp only
  repeat' split
  all_goals simp

@[simp] theorem State.timeFrameTaken_ledger (u : Fin 24) (f : TimeFrame) : (s.timeFrameTaken u f).ledger = s.ledger := by
  unfold State.timeFrameTaken
  split
  · rfl
  · split
    · exact State.giveFrameNotices_ledger _ _ _ _ _
    · simp

@[simp] theorem State.acceptMark_ledger : s.acceptMark.ledger = s.ledger := by
  simp only [State.acceptMark]
  split <;> simp

/-- A changeover swaps banks and leaves the cameras (R57). -/
@[simp] theorem State.applyChangeover_ledger (k : Bottle) : (s.applyChangeover k).ledger = s.ledger := by
  unfold State.applyChangeover
  split <;> rfl

@[simp] theorem State.trackMark_ledger (c : HallConfig) (k : Bottle) (t : Nat) : (s.trackMark c k t).ledger = s.ledger := by
  have first : ∀ (s : State) z, (s.markFirst c z).ledger = s.ledger := fun s z => by
    unfold State.markFirst
    split <;> rfl
  have leave : ∀ s : State, (s.leave c).ledger = s.ledger := fun s => by
    unfold State.leave
    repeat' split
    all_goals rfl
  simp only [State.trackMark, leave, State.markFirsts, State.foldl_ledger _ _ first]
  rfl

@[simp] theorem State.formAt_ledger (c : HallConfig) (g : Fin 2) : (s.formAt c g).ledger = s.ledger := by
  unfold State.formAt
  repeat' split
  all_goals simp

@[simp] theorem State.checkGate_ledger (c : HallConfig) (g : Fin 2) : (s.checkGate c g).ledger = s.ledger := by
  simp only [State.checkGate]
  repeat' split
  all_goals simp

@[simp] theorem State.latchSuspect_ledger (u : Fin 24) (ones : Nat) (b : Option Bottle) :
    (s.latchSuspect u ones b).ledger = s.ledger := rfl

@[simp] theorem State.attribute_ledger (c : HallConfig) : (s.attribute c).ledger = s.ledger := by
  simp only [State.attribute, State.feedRing]
  repeat' split
  all_goals simp

@[simp] theorem State.pitchMark_ledger (c : HallConfig) : (s.pitchMark c).ledger = s.ledger := by
  simp [State.pitchMark, State.decideMark]

/-! ### Robots and gates -/

@[simp] theorem State.grantLater_ledger (c : HallConfig) (z : Fin 8) : (s.grantLater c z).ledger = s.ledger := by
  unfold State.grantLater
  split <;> simp

@[simp] theorem State.zoneTest_ledger (c : HallConfig) (z : Fin 8) (u : Fin 24) (old new : MachineState) :
    (s.zoneTest c z u old new).ledger = s.ledger := by
  unfold State.zoneTest
  simp only
  repeat' split
  all_goals simp

@[simp] theorem State.zoneSees_ledger (c : HallConfig) (u : Fin 24) (old new : MachineState) :
    (s.zoneSees c u old new).ledger = s.ledger := by
  unfold State.zoneSees
  split
  · split <;> simp
  · rfl

@[simp] theorem State.robotStatusTaken_ledger (u : Fin 24) (f : StatusFrame) :
    (s.robotStatusTaken u f).ledger = s.ledger := by
  simp only [State.robotStatusTaken, State.robotChanged]
  repeat' split
  all_goals simp

@[simp] theorem State.loseRobot_ledger (u : Fin 24) (r : Robot) : (s.loseRobot u r).ledger = s.ledger := by
  simp only [State.loseRobot]
  split <;> simp

@[simp] theorem State.robotLost_ledger (c : HallConfig) (u : Fin 24) : (s.robotLost c u).ledger = s.ledger := by
  unfold State.robotLost
  split <;> simp

@[simp] theorem State.sequenceTaken_ledger (u : Fin 24) (q : Seq) : (s.sequenceTaken u q).ledger = s.ledger := by
  unfold State.sequenceTaken
  split
  · split <;> simp
  · rfl

@[simp] theorem State.staleTest_ledger (c : HallConfig) (u : Fin 24) : (s.staleTest c u).ledger = s.ledger := by
  unfold State.staleTest
  split
  · split <;> simp
  · rfl

@[simp] theorem State.examine_ledger (g : Fin 2) (h : Bottle) (x : Bool) : (s.examine g h x).ledger = s.ledger := by
  unfold State.examine
  split <;> simp

@[simp] theorem State.takeReport_ledger (g : Fin 2) (f : StatusFrame) : (s.takeReport g f).ledger = s.ledger := by
  unfold State.takeReport
  split
  · rfl
  · split <;> simp

@[simp] theorem State.gateStatusTaken_ledger (g : Fin 2) (f : StatusFrame) :
    (s.gateStatusTaken g f).ledger = s.ledger := by
  unfold State.gateStatusTaken
  split
  · rfl
  · split <;> simp

@[simp] theorem State.gateLost_ledger (g : Fin 2) : (s.gateLost g).ledger = s.ledger := rfl

@[simp] theorem State.deliver_ledger (c : HallConfig) (g : Fin 2) : (s.deliver c g).ledger = s.ledger := rfl

/-! ### Zones -/

@[simp] theorem State.forceZone_ledger (c : HallConfig) (z : Fin 8) : (s.forceZone c z).ledger = s.ledger := by
  simp only [State.forceZone, State.confirmMembers_ledger]
  repeat' split
  all_goals simp

@[simp] theorem State.guardOpened_ledger (c : HallConfig) (z : Fin 8) : (s.guardOpened c z).ledger = s.ledger := by
  unfold State.guardOpened
  split <;> simp [State.reopenZone]

@[simp] theorem State.guardClosed_ledger (c : HallConfig) (z : Fin 8) : (s.guardClosed c z).ledger = s.ledger := by
  unfold State.guardClosed
  split <;> simp

@[simp] theorem State.accessExpired_ledger (c : HallConfig) (z : Fin 8) : (s.accessExpired c z).ledger = s.ledger := by
  unfold State.accessExpired
  split <;> simp

/-- A word received by a zone slot moves what its handling moves (R109). -/
theorem State.zoneReceives_ledger (z : Fin 8) (w : Word) (act : HallConfig → Byte → State → State)
    (h : ∀ c q s, (act c q s).ledger = s.ledger) : (s.zoneReceives z w act).ledger = s.ledger := by
  unfold State.zoneReceives
  split
  · rfl
  · split <;> simp [h]

theorem State.unlessPending_ledger (z : Fin 8) (act : State → State) (h : ∀ s, (act s).ledger = s.ledger) :
    (s.unlessPending z act).ledger = s.ledger := by
  unfold State.unlessPending
  split <;> simp [h]

@[simp] theorem State.enterZone_ledger (c : HallConfig) (z : Fin 8) (q : Byte) :
    (s.enterZone c z q).ledger = s.ledger := by
  simp only [State.enterZone, State.requestZone, State.grantAtOnce]
  repeat' split
  all_goals simp

@[simp] theorem State.confirmZone_ledger (c : HallConfig) (z : Fin 8) (q : Byte) :
    (s.confirmZone c z q).ledger = s.ledger := by
  unfold State.confirmZone
  split <;> simp

@[simp] theorem State.extendZone_ledger (z : Fin 8) (q : Byte) : (s.extendZone z q).ledger = s.ledger := by
  simp only [State.extendZone]
  split <;> simp

@[simp] theorem State.returnToRun_ledger (c : HallConfig) (z : Fin 8) (q : Byte) :
    (s.returnToRun c z q).ledger = s.ledger := by
  unfold State.returnToRun
  split <;> simp

@[simp] theorem State.cancelZone_ledger (c : HallConfig) (z : Fin 8) (q : Byte) :
    (s.cancelZone c z q).ledger = s.ledger := by
  unfold State.cancelZone
  repeat' split
  all_goals simp

@[simp] theorem State.resetZone_ledger (c : HallConfig) (z : Fin 8) (q : Byte) :
    (s.resetZone c z q).ledger = s.ledger := by
  simp only [State.resetZone]
  split <;> simp

@[simp] theorem State.resumeZone_ledger (c : HallConfig) (z : Fin 8) (q : Byte) :
    (s.resumeZone c z q).ledger = s.ledger := by
  unfold State.resumeZone
  split <;> simp

/-! ### Ports -/

@[simp] theorem State.linkDown_ledger (c : HallConfig) (p : Fin 16) (reason : PortReason) :
    (s.linkDown c p reason).ledger = s.ledger := by
  simp only [State.linkDown]
  split <;> simp

@[simp] theorem State.linkUp_ledger (c : HallConfig) (p : Fin 16) : (s.linkUp c p).ledger = s.ledger := by
  simp only [State.linkUp]
  split <;> simp

@[simp] theorem State.applyEntry_ledger (c : HallConfig) (p : Fin 16) (e : TableEntry) :
    (s.applyEntry c p e).ledger = s.ledger := by
  simp only [State.applyEntry, State.applyLink]
  repeat' split
  all_goals simp

@[simp] theorem State.tableTaken_ledger (b : List Byte) : (s.tableTaken b).ledger = s.ledger := by
  have restart : s.restartTable.ledger = s.ledger := by
    simp only [State.restartTable]
    split <;> simp
  unfold State.tableTaken
  split
  · rfl
  · simp [State.foldl_ledger, restart]

@[simp] theorem State.tableStale_ledger (c : HallConfig) : (s.tableStale c).ledger = s.ledger := by
  have port : ∀ (s : State) p, (s.stalePort c p).ledger = s.ledger := fun s p => by
    simp only [State.stalePort]
    split <;> simp
  simp [State.tableStale, State.foldl_ledger, port]

@[simp] theorem State.enterListen_ledger (c : HallConfig) (p : Fin 16) (reason : PortReason) :
    (s.enterListen c p reason).ledger = s.ledger := by
  simp only [State.enterListen]
  split <;> simp

@[simp] theorem State.wouldQuarantine_ledger (p : Fin 16) (reason : PortReason) :
    (s.wouldQuarantine p reason).ledger = s.ledger := by
  unfold State.wouldQuarantine
  split <;> simp

@[simp] theorem State.violation_ledger (c : HallConfig) (p : Fin 16) : (s.violation c p).ledger = s.ledger := by
  simp only [State.violation]
  repeat' split
  all_goals simp

@[simp] theorem State.chargeBudget_ledger (c : HallConfig) (p : Fin 16) (w : Nat) :
    (s.chargeBudget c p w).ledger = s.ledger := by
  unfold State.chargeBudget
  repeat' split
  all_goals simp

@[simp] theorem State.writeAttempt_ledger (p : Fin 16) : (s.writeAttempt p).ledger = s.ledger := by
  unfold State.writeAttempt
  split <;> simp

/-! ### Loads and reports -/

/-- A consumer word moves the ring alone (R168). -/
theorem State.consume_ledger (v : BitVec 32) : (s.onReport fun r => r.consume v).ledger = s.ledger := by
  simp only [State.ledger, State.onReport, Report.consume]
  split <;> rfl

@[simp] theorem State.retestDues_ledger (old : Option HallConfig) : (s.retestDues old).ledger = s.ledger := by
  refine State.foldl_ledger _ _ (fun s u => ?_) _
  simp only [State.retestDue]
  repeat' split
  all_goals simp

/-- The re-tests of a PARAMETER load leave the ledger (R161). -/
theorem State.applyParameter_ledger (old new : HallConfig) : (s.applyParameter old new).ledger = s.ledger := by
  have suspect : ∀ (s : State) u, (s.retestSuspect new u).ledger = s.ledger := fun s u => by
    unfold State.retestSuspect
    repeat' split
    all_goals simp
  have silence : ∀ (s : State) p, (s.retestSilence new p).ledger = s.ledger := fun s p => by
    unfold State.retestSilence
    split <;> simp
  have gate : ∀ (s : State) g, (s.retestGate old new g).ledger = s.ledger := fun s g => by
    unfold State.retestGate
    split <;> simp
  have stop : ∀ s : State, (s.retestStop old new).ledger = s.ledger := fun s => by
    unfold State.retestStop
    split <;> simp
  simp only [State.applyParameter, State.foldl_ledger _ _ fun s (r : Fin 24 × Robot) => State.zoneSees_ledger s new r.1 _ _,
    State.handOn_ledger, State.foldl_ledger _ _ silence, State.foldl_ledger _ _ suspect,
    State.foldl_ledger _ _ fun s (r : Fin 24 × Robot) => State.loseRobot_ledger s r.1 r.2, gate, stop, State.retestDues_ledger]
  rfl

end Sys2Proof.Machine
end

section
/-! SUPPORT. The entries of the operations that all commands share: transactions that move on in the order of R144, and the end of a
step. -/

namespace Sys2Proof.Machine

/-! ## The order of the transactions (R144) -/

/-- What `inOrder` reads of a transaction. -/
def Flight.key (f : Flight) : Fin 32 × Treatment :=
  (f.txn.tag, f.treatment)

/-- The oldest of a tag, read off the keys. -/
theorem oldestIn_key (tag : Fin 32) (fs : List Flight) :
    (oldestIn tag fs).map Flight.key = (fs.map Flight.key).find? fun k => decide (k.1 = tag) := by
  rw [List.find?_map]
  rfl

/-- Stages play no part in the order. -/
theorem inOrder_of_keys {fs gs : List Flight} (same : gs.map Flight.key = fs.map Flight.key) (h : inOrder fs) : inOrder gs := by
  intro tag g found
  have key := oldestIn_key tag gs
  rw [same, ← oldestIn_key, found] at key
  obtain ⟨f, old, eq⟩ := Option.map_eq_some_iff.1 key.symm
  rw [show g.treatment = f.treatment from congrArg Prod.snd eq.symm]
  exact h tag f old

/-- Answering the refused transactions of one tag leaves the oldest of every other. -/
theorem oldestIn_drain_ne {tag tag' : Fin 32} (ne : tag' ≠ tag) (fs : List Flight) :
    oldestIn tag' (drain tag fs).1 = oldestIn tag' fs := by
  induction fs with
  | nil => rfl
  | cons f fs ih =>
    unfold oldestIn at ih ⊢
    unfold drain
    split
    · next mine =>
      split
      · rw [ih, List.find?_cons_of_neg (by simpa [mine] using ne.symm)]
      · rfl
    · rw [List.find?_cons, List.find?_cons, ih]

/-- After that the oldest of the tag is not refused. -/
theorem oldestIn_drain_self {tag : Fin 32} {fs : List Flight} {f : Flight} (found : oldestIn tag (drain tag fs).1 = some f) :
    f.treatment ≠ .denied := by
  induction fs with
  | nil => cases found
  | cons g fs ih =>
    unfold oldestIn at ih found
    unfold drain at found
    split at found
    · next mine =>
      split at found
      · exact ih found
      · next kept =>
        rw [List.find?_cons_of_pos (by simpa using mine)] at found
        obtain rfl := Option.some.inj found
        simpa [Flight.refused] using kept
    · next other =>
      rw [List.find?_cons_of_neg (by simpa using other)] at found
      exact ih found

/-- Draining a tag puts transactions in order of which every other tag's already are. -/
theorem inOrder_drain {tag : Fin 32} {fs gs : List Flight} (same : ∀ tag', tag' ≠ tag → oldestIn tag' gs = oldestIn tag' fs)
    (h : inOrder fs) : inOrder (drain tag gs).1 := by
  intro tag' f found
  by_cases eq : tag' = tag
  · subst eq
    exact oldestIn_drain_self found
  · rw [oldestIn_drain_ne eq, same tag' eq] at found
    exact h tag' f found

/-- Removing the oldest of one tag leaves the oldest of every other. -/
theorem oldestIn_dropOldest {tag tag' : Fin 32} (ne : tag' ≠ tag) (fs : List Flight) :
    oldestIn tag' (dropOldest tag fs) = oldestIn tag' fs := by
  induction fs with
  | nil => rfl
  | cons f fs ih =>
    unfold oldestIn dropOldest at ih ⊢
    rw [List.eraseP_cons]
    by_cases mine : f.txn.tag = tag
    · rw [List.find?_cons_of_neg (by simpa [mine] using ne.symm)]
      simp [mine]
    · simp only [mine, decide_false, cond_false]
      rw [List.find?_cons, List.find?_cons, ih]

/-- The stage of the oldest transaction is no part of its key. -/
theorem setOldest_keys (tag : Fin 32) (st : Stage) (fs : List Flight) :
    (setOldest tag st fs).map Flight.key = fs.map Flight.key := by
  induction fs with
  | nil => rfl
  | cons f fs ih =>
    unfold setOldest
    split
    · rfl
    · rw [List.map_cons, List.map_cons, ih]

/-- A grant moves one transaction's stage (R152). -/
theorem grantForwarded_keys {fs gs : List Flight} (h : grantForwarded fs = some gs) :
    gs.map Flight.key = fs.map Flight.key := by
  induction fs generalizing gs with
  | nil => cases h
  | cons f fs ih =>
    unfold grantForwarded at h
    split at h
    · cases h
      rfl
    · obtain ⟨rest, granted, rfl⟩ := Option.map_eq_some_iff.1 h
      rw [List.map_cons, List.map_cons, ih granted]

/-! ## Entries of the shared operations -/

/-- From `s` to `t` a step makes entries in the ledger that it can make. -/
def State.Enters (s t : State) : Prop :=
  s.ledger.Moves t.ledger

namespace State

variable {s t : State}

/-- A state with the same ledger. -/
theorem Enters.of_eq (same : t.ledger = s.ledger) : s.Enters t :=
  Ledger.Moves.of_eq same

/-- What is entered after an operation that leaves the ledger. -/
theorem Enters.after {a : State} (same : a.ledger = s.ledger) (h : a.Enters t) : s.Enters t :=
  Ledger.Moves.trans (.of_eq same) h

/-- The oldest transaction of a source is answered (R144). -/
theorem enters_answer (r : Reply) : s.Enters (s.onPath fun p => p.answer r) :=
  .flights _ (inOrder_drain fun _ ne => oldestIn_dropOldest ne _)

/-- A transaction is presented (R144). -/
theorem enters_enter (f : Flight) : s.Enters (s.onPath fun p => p.enter f) := by
  refine .flights _ (inOrder_drain fun tag ne => ?_)
  have absent : oldestIn tag [f] = none := List.find?_cons_of_neg (by simpa using ne.symm)
  exact List.find?_append.trans (by rw [show List.find? _ [f] = none from absent, Option.or_none]; rfl)

/-- Taking a record moves the oldest transaction of its source on. -/
theorem enters_take {α : Type} {tag : Fin 32} {sel : Handover → Option α} {a : α} (h : s.take tag sel = some (a, t)) :
    s.Enters t := by
  obtain ⟨f, left, -, -, rfl⟩ := State.take_spec s h
  by_cases last : left.isEmpty = true
  · have handed : (s.onPath fun p => p.handed tag left) = s.onPath fun p => p.answer ⟨tag, .okay, []⟩ := by
      simp only [State.onPath, Path.handed, if_pos last]
    rw [handed]
    exact enters_answer _
  · have handed : (s.onPath fun p => p.handed tag left) =
        s.onPath fun p => { p with flights := setOldest tag (.handing left) p.flights } := by
      simp only [State.onPath, Path.handed, if_neg last]
    rw [handed]
    exact .flights _ (inOrder_of_keys (setOldest_keys _ _ _))

/-- The end of a step presents the oldest notice, if at all, while no notice write is outstanding (R167). -/
theorem enters_settle (s : State) : s.Enters s.settle := by
  have ledger : s.settle.ledger = { s.ledger with waiting := s.settle.path.ownQueue } := rfl
  rcases s.settle_ownQueue with same | ⟨o, whose, free, queue⟩
  · rw [same] at ledger
    exact .of_eq ledger
  · rw [queue] at ledger
    unfold Enters
    rw [ledger]
    refine .noticePresented _ whose fun x mem => ?_
    have := List.any_eq_false.1 free x mem
    simpa using this

/-- The end of a step comes after its entries. -/
theorem Enters.settle (h : s.Enters t) : s.Enters t.settle :=
  Ledger.Moves.trans h t.enters_settle

/-- A step that takes a record enters what acting on it enters. -/
theorem taking_enters {α : Type} {tag : Fin 32} {sel : Handover → Option α} {act : α → State → State}
    (h : ∀ a (s : State), s.Enters (act a s)) : Answers (s.taking tag sel act) s.Enters :=
  State.taking_answers (.refl _) fun a s1 taken => Enters.settle (Ledger.Moves.trans (enters_take taken) (h a s1))

/-- A step that takes a record whose handling leaves the ledger. -/
theorem taking_quiet {α : Type} {tag : Fin 32} {sel : Handover → Option α} {act : α → State → State}
    (h : ∀ a s, (act a s).ledger = s.ledger) : Answers (s.taking tag sel act) s.Enters :=
  taking_enters fun a s => .of_eq (h a s)

/-- A zone command's handling leaves the ledger. -/
theorem zoneCommand_quiet {z : Fin 8} {k : ZoneCommand} {act : HallConfig → Byte → State → State}
    (h : ∀ c q s, (act c q s).ledger = s.ledger) : Answers (s.zoneCommand z k act) s.Enters :=
  taking_quiet fun w s => s.zoneReceives_ledger z w _ fun c q s => s.unlessPending_ledger z _ (h c q)

end State

end Sys2Proof.Machine
end

section
/-! What verdicts and the commands of the general slot enter in the ledger (R47, R59 to R61, R164). -/

namespace Sys2Proof.Machine

/-! ## Verdicts -/

/-- Each count is below its limit. -/
theorem CameraCounts.belowLimits_iff (k : CameraCounts) :
    k.belowLimits ↔
      (k.taken < 2 ^ 32 - 1 ∧ k.placed < 2 ^ 32 - 1 ∧ k.unplaced < 2 ^ 32 - 1) ∧
        (k.tooOld < 2 ^ 32 - 1 ∧ k.future < 2 ^ 32 - 1 ∧ k.stalled < 2 ^ 32 - 1 ∧ k.ambiguous < 2 ^ 32 - 1 ∧
          k.outOfRange < 2 ^ 32 - 1) ∧
        (k.pass < 2 ^ 32 - 1 ∧ k.minor < 2 ^ 32 - 1 ∧ k.major < 2 ^ 32 - 1) ∧
        k.late < 2 ^ 32 - 1 ∧ k.double < 2 ^ 32 - 1 := by
  simp only [CameraCounts.belowLimits, List.forall_mem_cons]
  tauto

/-- Statistics all 0 keep the sums. -/
theorem CameraCounts.zero_sound : CameraCounts.zero.Sound :=
  fun _ => ⟨rfl, rfl, rfl, Nat.le_refl 0, Nat.le_refl 0⟩

/-- An unplaced record keeps the sums: taken, unplaced and its reason count it (R59, R60). -/
theorem CameraRec.counted_unplaced {seq : Seq} {why : Unplaced} {r : CameraRec} (h : r.counts.Sound) :
    (r.counted seq fun x => x.addUnplaced why).counts.Sound := by
  intro below
  rw [CameraCounts.belowLimits_iff] at below
  cases why
  all_goals
    simp only [CameraRec.counted, CameraRec.takeSeq, CameraCounts.addUnplaced, satAdd] at below ⊢
    obtain ⟨taken, placed, unplaced, late, double⟩ := h ((CameraCounts.belowLimits_iff _).2 (by omega))
    constructor <;> simp only <;> omega

/-- A placed record keeps the sums: taken, placed and its grade count it (R59, R60). -/
theorem CameraRec.counted_placed {seq : Seq} {g : Grade} {isLate second : Bool} {unmet : List (Fin 16)} {r : CameraRec}
    (h : r.counts.Sound) : (r.counted seq fun x => x.addPlaced g isLate second unmet).counts.Sound := by
  intro below
  rw [CameraCounts.belowLimits_iff] at below
  have lateCount := ite_eq_or_eq (isLate = true) (min (2 ^ 32 - 1) (r.counts.late + 1)) r.counts.late
  have secondCount := ite_eq_or_eq (second = true) (min (2 ^ 32 - 1) (r.counts.double + 1)) r.counts.double
  cases g
  all_goals
    simp only [CameraRec.counted, CameraRec.takeSeq, CameraCounts.addPlaced, CameraCounts.addGrade, satAdd] at below ⊢
    obtain ⟨taken, placed, unplaced, late, double⟩ := h ((CameraCounts.belowLimits_iff _).2 (by omega))
    constructor <;> simp only <;> omega

namespace State

variable {s t : State}

/-- A camera's record moves with the sums of its statistics; the queue and the notices may move with it. -/
theorem enters_camera {n : Fin 6} {record : CameraRec → CameraRec} (kept : ∀ r, r.counts.Sound → (record r).counts.Sound)
    (queue : List Slot) (given : List Notice) : s.Enters { s.onCamera n record with queue := queue, given := given } := by
  refine .counts _ fun m h => ?_
  by_cases eq : m = n
  · subst eq
    have own := Table.get_modify_self s.grading.cameras m record
    exact congrArg CameraRec.counts own ▸ kept _ h
  · have other := Table.get_modify_ne s.grading.cameras record eq
    exact congrArg CameraRec.counts other ▸ h

/-- A verdict is placed on a bottle of the queue alone (R36). -/
theorem slotOf_of_place {c : HallConfig} {k : CameraCfg} {T : Nat} {b : Bottle} (place : s.place c k T = .on b) :
    ∃ q, s.slotOf b = some q := by
  simp only [State.place, State.placePast, State.placeAt] at place
  repeat' split at place
  all_goals cases place
  next held => exact Option.isSome_iff_exists.1 held

/-- A verdict record is stale and counted so, or taken and counted under its reason or its grade (R47, R59). -/
theorem verdictTaken_enters (n : Fin 6) (v : VerdictRec) : s.Enters (s.verdictTaken n v) := by
  cases config : s.config with
  | none =>
    rw [show s.verdictTaken n v = s by simp only [State.verdictTaken, config]]
    exact .refl _
  | some c =>
    cases passes : seqPasses (s.grading.cameras.get n).lastSeq v.seq with
    | false =>
      rw [State.verdictTaken_stale s n v config passes]
      refine enters_camera (fun _ h below => ?_) s.queue s.given
      obtain ⟨taken, placed, unplaced, late, double⟩ := h below
      exact ⟨taken, placed, unplaced, late, double⟩
    | true =>
      cases place : s.place c (c.cameras.get n) v.capture with
      | unplaced why b d =>
        rw [State.verdictTaken_unplaced s n v config passes place]
        exact enters_camera (fun _ h => CameraRec.counted_unplaced h) s.queue _
      | on b =>
        obtain ⟨q, slot⟩ := slotOf_of_place place
        rw [State.verdictTaken_placed s n v config passes place slot]
        exact enters_camera (s := s) (fun _ h => CameraRec.counted_placed h) _ _

/-! ## The general slot -/

/-- A command completes at once from a state with the ledger of `s`, whose slot is not in progress (R164). -/
theorem completeGeneral_enters {a : State} (same : a.ledger = s.ledger) (idle : s.report.slot ≠ .inProgress) (w : Word)
    (code : Completion) : s.Enters (a.completeGeneral w code) :=
  .after same (.completed _ (same ▸ idle : a.ledger.slot ≠ .inProgress))

/-- A word of the general slot is ignored, BUSY, or acted on while the slot is not in progress (R164). -/
theorem generalReceives_enters (w : Word) {act : HallConfig → State → State}
    (h : ∀ c (s : State), s.report.slot ≠ .inProgress → s.Enters (act c s)) : s.Enters (s.generalReceives w act) := by
  simp only [State.generalReceives]
  split
  · exact .refl _
  · next c _ =>
    split
    · exact .refl _
    · split
      · exact .refl _
      · next idle => exact .after rfl (h c _ idle)

/-- A command of the general slot enters what its handling enters. -/
theorem generalCommand_enters {k : GeneralCommand} {act : HallConfig → Word → State → State}
    (h : ∀ c w (s : State), s.report.slot ≠ .inProgress → s.Enters (act c w s)) : Answers (s.generalCommand k act) s.Enters :=
  taking_enters fun w _ => generalReceives_enters w fun c s => h c w s

theorem releaseTaken_enters (c : HallConfig) (w : Word) (idle : s.report.slot ≠ .inProgress) :
    s.Enters (s.releaseTaken c w) := by
  unfold State.releaseTaken
  split
  · split
    · exact completeGeneral_enters rfl idle w _
    · exact completeGeneral_enters rfl idle w _
  · exact completeGeneral_enters rfl idle w _

theorem clearSuspectTaken_enters (c : HallConfig) (w : Word) (idle : s.report.slot ≠ .inProgress) :
    s.Enters (s.clearSuspectTaken c w) := by
  unfold State.clearSuspectTaken
  split
  · exact completeGeneral_enters (by rw [State.handOn_ledger, State.onRobot_ledger]) idle w _
  · exact completeGeneral_enters rfl idle w _

theorem accountClearTaken_enters (w : Word) (idle : s.report.slot ≠ .inProgress) : s.Enters (s.accountClearTaken w) := by
  unfold State.accountClearTaken
  split
  · exact completeGeneral_enters rfl idle w _
  · exact completeGeneral_enters rfl idle w _

theorem portClearTaken_enters (c : HallConfig) (w : Word) (idle : s.report.slot ≠ .inProgress) :
    s.Enters (s.portClearTaken c w) := by
  have cleared : ∀ p, (s.clearPort c p).ledger = s.ledger := fun p => by
    simp only [State.clearPort]
    split <;> simp
  unfold State.portClearTaken
  split
  · exact completeGeneral_enters ((State.handOn_ledger _).trans (cleared _)) idle w _
  · exact completeGeneral_enters rfl idle w _

theorem lineResumeTaken_enters (c : HallConfig) (w : Word) (idle : s.report.slot ≠ .inProgress) :
    s.Enters (s.lineResumeTaken c w) := by
  have resumed : ∀ (s : State) g, (s.resumeGate c g).ledger = s.ledger := fun s g => by
    unfold State.resumeGate
    split <;> simp
  exact completeGeneral_enters (by rw [State.handOn_ledger, resumed, resumed]) idle w _

/-- SNAPSHOT copies a camera's statistics, presents the first line, and may clear the statistics (R61, R62). -/
theorem snapshotTaken_enters (c : HallConfig) (w : Word) (idle : s.report.slot ≠ .inProgress) :
    s.Enters (s.snapshotTaken c w) := by
  unfold State.snapshotTaken
  split
  · next n _ =>
    have begins := Ledger.Moves.snapshotBegins s.ledger (n := n) idle
      (x := { copy := s.copyCamera n (c.cameras.get n) (clearArg w) (s.report.snapshotSeq + 1)
              addr := (c.cameras.get n).snapshotAddr, unanswered := 2, faulted := false, command := wordSeq w }) rfl
      (o := snapshotWrite (s.copyCamera n (c.cameras.get n) (clearArg w) (s.report.snapshotSeq + 1))
        (c.cameras.get n).snapshotAddr 0) rfl
    simp only [State.startSnapshot]
    split
    · refine begins.trans (.counts _ fun m h => ?_)
      by_cases eq : m = n
      · subst eq
        have own := Table.get_modify_self s.grading.cameras m fun r => { r with counts := CameraCounts.zero }
        exact congrArg CameraRec.counts own ▸ CameraCounts.zero_sound
      · have other := Table.get_modify_ne s.grading.cameras (fun r => { r with counts := CameraCounts.zero }) eq
        exact congrArg CameraRec.counts other ▸ h
    · exact begins
  · exact completeGeneral_enters rfl idle w _

theorem otherCommandCode_enters (slot : Fin 9) : Answers (execOtherCommandCode slot s) s.Enters := by
  unfold execOtherCommandCode
  split
  · exact taking_quiet fun w s => s.zoneReceives_ledger _ w _ fun _ _ s => s.unlessPending_ledger _ _ fun _ => rfl
  · exact taking_enters fun w _ => generalReceives_enters w fun _ _ idle => completeGeneral_enters rfl idle w _

end State

end Sys2Proof.Machine
end

section
/-! What the answers to own transactions, the arbiter and the loads enter in the ledger (R62, R152, R157 to R162, R167). -/

namespace Sys2Proof.Machine

namespace State

variable {s t : State}

/-! ## Own transactions -/

/-- The own transaction that memory answers is the first of those at memory. -/
theorem ownHead_some {p : Path} {r : Requester} {o : OwnTxn} (h : p.ownHead r = some o) :
    (∃ rest, p.ownAtMemory = o :: rest) ∧ o.requester = r := by
  obtain ⟨head, whose⟩ := Option.filter_eq_some_iff.1 h
  exact ⟨List.head?_eq_some_iff.1 head, by simpa using whose⟩

theorem snapshotWriteAnswered_enters (ok : Bool) : Answers (execSnapshotWriteAnswered ok s) s.Enters := by
  unfold execSnapshotWriteAnswered
  split
  · next o k head inFlight =>
    obtain ⟨⟨rest, atMemory⟩, whose⟩ := ownHead_some head
    have tail : s.path.ownAtMemory.tail = rest := by rw [atMemory]; rfl
    refine (answers_next _ _).2 (Enters.settle ?_)
    simp only [State.snapshotAnswered]
    split
    · have second := Ledger.Moves.snapshotSecond s.ledger atMemory inFlight
        (x' := { k with faulted := k.faulted || !ok, unanswered := 1 }) rfl whose
        (new := snapshotWrite k.copy k.addr 1) rfl
      subst tail
      exact second
    · have done := Ledger.Moves.snapshotDone s.ledger atMemory (Option.isSome_iff_exists.2 ⟨_, inFlight⟩) whose
      subst tail
      simp only [State.snapshotDone]
      split <;> exact done
  · exact (answers_next _ _).2 (.refl _)

theorem noticeWriteAnswered_enters (ok : Bool) : Answers (execNoticeWriteAnswered ok s) s.Enters := by
  unfold execNoticeWriteAnswered
  split
  · next o head =>
    obtain ⟨⟨rest, atMemory⟩, whose⟩ := ownHead_some head
    have tail : s.path.ownAtMemory.tail = rest := by rw [atMemory]; rfl
    have answered := Ledger.Moves.noticeAnswered s.ledger atMemory whose
    subst tail
    refine (answers_next _ _).2 (Enters.settle ?_)
    unfold State.noticeAnswered
    split
    · exact answered
    · cases ok <;> exact answered
  · exact (answers_next _ _).2 (.refl _)

/-- The arbiter grants a forwarded transaction, or the own head (R152). -/
theorem grant_enters : s.Enters (s.onPath Path.grant) := by
  have own : s.Enters (s.onPath Path.grantOwn) := by
    cases queue : s.path.ownQueue with
    | nil =>
      simp only [State.onPath, Path.grantOwn, queue]
      exact .refl _
    | cons o os =>
      simp only [State.onPath, Path.grantOwn, queue]
      exact .granted _ queue
  unfold State.onPath Path.grant
  split
  · exact own
  · next fs found _ => exact .flights _ (inOrder_of_keys (grantForwarded_keys found))
  · next fs o os found queue =>
    split
    · next less =>
      have some : s.ledger.waiting ≠ [] := fun none => List.cons_ne_nil _ _ (queue.symm.trans none)
      exact (Ledger.Moves.flights _ (inOrder_of_keys (grantForwarded_keys found))).trans (.waited _ some less)
    · exact own

/-! ## Loads -/

/-- A load request is refused, or begins a load when none is READING (R156, R157). -/
theorem requestLoad_enters (n : Nat) : s.Enters (s.requestLoad n) := by
  simp only [State.requestLoad]
  split
  · exact .refl _
  · next k refusal _ =>
    have unread : s.loader.kind.isSome = false := by
      cases reading : s.loader.kind with
      | none => rfl
      | some _ => simp [State.requestRefusal, State.onLoader, reading] at refusal
    exact .loadBegins _ unread rfl
  · exact .refl _

/-- The ledger after the application of a FULL load (R160). -/
theorem applyFull_ledger (c : HallConfig) (b : Bank) :
    ∃ f : OwnTxn → OwnTxn, (∀ o, (f o).requester = o.requester) ∧ (s.applyFull c b).ledger = s.ledger.reload f := by
  have followed : ∀ (s : State) g, (s.followGate c g).ledger = s.ledger := fun s g => by simp [State.ledger]
  have same : (s.applyFull c b).ledger = (s.reload c b).ledger := by
    simp only [State.applyFull, State.retestDues_ledger]
    exact (followed _ _).trans (followed _ _)
  refine ⟨fun o => if o.requester = .notice then { o with oldRing := true } else o, fun o => ?_, ?_⟩
  · simp only
    split <;> rfl
  rw [same]
  simp only [State.ledger, Ledger.reload, State.reload, Grading.reload, CameraRec.fresh, Table.get_replicate]
  rfl

/-- The ledger after the application of an image: that of a FULL load, or as it was (R160 to R162). -/
theorem applyImage_ledger (k : LoadKind) (m : Image) :
    (s.applyImage k m).ledger = s.ledger ∨
      ∃ f : OwnTxn → OwnTxn, (∀ o, (f o).requester = o.requester) ∧ (s.applyImage k m).ledger = s.ledger.reload f := by
  unfold State.applyImage
  split
  · exact .inr (applyFull_ledger _ _)
  · exact .inl (State.applyParameter_ledger _ _ _)
  · exact .inl rfl
  · exact .inl rfl

/-- The end of a load whose last line is answered (R157 to R159). -/
theorem finishLoad_enters (k : LoadKind) (m : Image) (ends : s.ledger.Moves { t.ledger with reading := false }) :
    s.Enters (t.finishLoad k m) := by
  unfold State.finishLoad
  split
  · exact ends
  · have applied : ((t.applyImage k m).loadApplied k).ledger = { (t.applyImage k m).ledger with reading := false } := rfl
    unfold Enters
    rw [applied]
    rcases applyImage_ledger (s := t) k m with same | ⟨f, whose, reloaded⟩
    · rw [same]
      exact ends
    · rw [reloaded]
      exact ends.trans (.reloaded _ whose)

/-- A line's answer is followed by the next line's read, or ends the load (R157 to R159). -/
theorem configReadAnswered_enters (ok : Bool) (data : List Word) : Answers (execConfigReadAnswered ok data s) s.Enters := by
  unfold execConfigReadAnswered
  split
  · next o k head reads =>
    obtain ⟨⟨rest, atMemory⟩, whose⟩ := ownHead_some head
    have tail : s.path.ownAtMemory.tail = rest := by rw [atMemory]; rfl
    have ends := Ledger.Moves.loadEnds s.ledger atMemory whose (show s.loader.kind.isSome = true by rw [reads]; rfl)
    subst tail
    split
    · refine (answers_next _ _).2 (Enters.settle ?_)
      simp only [State.lineStaged]
      split
      · exact .nextLine _ atMemory whose rfl
      · exact finishLoad_enters k _ ends
    · exact (answers_next _ _).2 (Enters.settle ends)
  · exact (answers_next _ _).2 (.refl _)

end State

end Sys2Proof.Machine
end

section
/-! What the transactions of the sources enter in the ledger (R144, R147), and with them every command; the two invariants (O9,
O13). -/

namespace Sys2Proof.Machine

namespace State

variable {s t : State}

/-! ## The sources' transactions -/

theorem refuse_enters (x : Txn) : s.Enters (s.refuse x) :=
  .after (s.countDenial_ledger x.tag) (enters_enter _)

theorem treat_enters (x : Txn) (how : Treatment) : s.Enters (s.treat x how) := by
  cases how with
  | denied => exact refuse_enters x
  | view => exact enters_enter _
  | plain => exact enters_enter _
  | image => exact enters_enter _
  | observed i w => exact enters_enter _
  | substituted i w => exact enters_enter _

theorem portPresents_enters (c : HallConfig) (p : Fin 16) (x : Txn) : s.Enters (s.portPresents c p x) := by
  simp only [State.portPresents, State.portWrite]
  split
  · exact .after (s.writeAttempt_ledger p) (refuse_enters x)
  · split
    · exact .after (s.violation_ledger c p) (refuse_enters x)
    · split
      · split
        · split
          · exact .after (s.chargeBudget_ledger c p x.length) (enters_enter _)
          · exact .after (s.chargeBudget_ledger c p x.length) (enters_enter _)
        · exact .after (s.chargeBudget_ledger c p x.length) (refuse_enters x)
      · exact enters_enter _

theorem agentPresents_enters (c : HallConfig) (x : Txn) : s.Enters (s.agentPresents c x) := by
  unfold State.agentPresents
  split
  · exact refuse_enters x
  · split
    · split
      · split
        · exact enters_enter _
        · exact enters_enter _
      · exact refuse_enters x
    · exact refuse_enters x

theorem upstreamTransaction_enters (x : Txn) (b : Bool) : Answers (execUpstreamTransaction x b s) s.Enters := by
  simp only [execUpstreamTransaction]
  split
  · next c _ =>
    refine (answers_next _ _).2 (Enters.settle (.after (a := { s with observeAll := b }) rfl ?_))
    unfold State.presents
    split
    · exact treat_enters x _
    · split
      · exact portPresents_enters c _ x
      · split
        · exact agentPresents_enters c x
        · exact refuse_enters x
  · refine (answers_next _ _).2 (Enters.settle (.after (a := { s with observeAll := b }) rfl ?_))
    unfold State.presentsUnconfigured
    split
    · exact treat_enters x _
    · exact refuse_enters x

theorem respondOkay_enters (f : Flight) (data : List Word) : s.Enters (s.respondOkay f data) := by
  have answered : ∀ r, s.Enters (s.onPath fun p => p.answer r) := enters_answer
  have emptied : ∀ empty r, s.Enters (if empty = true then s.onPath fun p => p.answer r else s) := fun empty r => by
    split
    · exact answered r
    · exact .refl _
  unfold State.respondOkay
  split
  · exact answered _
  · split
    · exact .refl _
    · exact .after (s.countDenial_ledger _) (enters_answer _)
  · exact emptied _ _
  · exact emptied _ _
  all_goals exact .refl _

theorem forwardedResponse_enters (tag : Fin 32) (ok : Bool) (data : List Word) :
    Answers (execForwardedResponse tag ok data s) s.Enters := by
  unfold execForwardedResponse
  repeat' split
  · exact (answers_next _ _).2 (.refl _)
  · exact (answers_next _ _).2 (respondOkay_enters _ data)
  · exact (answers_next _ _).2 (enters_answer _)
  · exact (answers_next _ _).2 (.refl _)

theorem viewRead_enters (b : Bool) : Answers (execViewRead b s) s.Enters := by
  unfold execViewRead
  split
  · split
    · exact (answers_next _ _).2 (enters_answer (s := { s with observeAll := b }) _)
    · exact (answers_next _ _).2 (.refl _)
  · exact (answers_next _ _).2 (.refl _)

theorem mailboxRead_enters (data : List Word) : Answers (execMailboxRead data s) s.Enters := by
  unfold execMailboxRead
  split
  · split
    · exact (answers_next _ _).2 (enters_answer _)
    · exact (answers_next _ _).2 (.refl _)
  · exact (answers_next _ _).2 (.refl _)

theorem robotCommandRead_enters (tag : Fin 32) (data : List Word) : Answers (execRobotCommandRead tag data s) s.Enters := by
  have forwarded : ∀ (s : State) c u x, s.Enters (s.forwardFrame c u x data) := fun s c u x => by
    unfold State.forwardFrame
    split
    · exact .refl _
    · exact .after (State.onRobot_ledger _ _ _) (enters_answer _)
  unfold execRobotCommandRead
  split
  · next c w x _ =>
    split
    · next u _ _ =>
      split
      · exact (answers_next _ _).2 (.settle (.after (s.staleTest_ledger c u) (forwarded _ c u x)))
      · exact (answers_next _ _).2 (.refl _)
    · exact (answers_next _ _).2 (.refl _)
  · exact (answers_next _ _).2 (.refl _)

theorem gateCommandRead_enters (tag : Fin 32) (data : List Word) : Answers (execGateCommandRead tag data s) s.Enters := by
  unfold execGateCommandRead
  split
  · next c w x _ =>
    split
    · next g _ _ => exact (answers_next _ _).2 (.settle (.after (s.deliver_ledger c g) (enters_answer _)))
    · exact (answers_next _ _).2 (.refl _)
  · exact (answers_next _ _).2 (.refl _)

/-! ## Every command -/

/-- A next state that is the end of a quiet step, or the same state. -/
theorem Enters.quiet (same : t.ledger = s.ledger) : Answers (.next t.settle) s.Enters :=
  (answers_next _ _).2 (.settle (.of_eq same))

/-- Nothing happens. -/
theorem Enters.stands : Answers (.next s) s.Enters :=
  (answers_next _ _).2 (.refl _)

/-- Every command enters in the ledger what a step can. -/
theorem exec_enters (i : Instr) (s : State) : Answers (exec i s) s.Enters := by
  cases i with
  | resetN straps => exact (answers_next _ _).2 (.reset _)
  | referencePeriod => exact (answers_next _ _).2 (.refl _)
  | pitchEdge =>
    simp only [exec, execPitchEdge]
    repeat' split
    · exact .stands
    · exact (answers_next _ _).2 (.refl _)
    · exact .quiet (s.pitchMark_ledger _)
  | stopTimerExpiry =>
    simp only [exec, execStopTimerExpiry]
    split
    · exact .quiet rfl
    · exact .stands
  | slewMove =>
    simp only [exec, execSlewMove]
    split
    · exact (answers_next _ _).2 (.refl _)
    · exact .stands
  | holdoverExpiry =>
    simp only [exec, execHoldoverExpiry]
    split
    · exact .quiet rfl
    · exact .stands
  | accountSecond u =>
    simp only [exec, execAccountSecond]
    split
    · refine .quiet ?_
      split <;> rfl
    · exact .stands
  | timeFrame tag => exact taking_quiet fun r s => s.timeFrameTaken_ledger r.1 r.2
  | verdictRecord tag => exact taking_enters fun r s => verdictTaken_enters r.1 r.2
  | robotStatusFrame tag => exact taking_quiet fun r s => s.robotStatusTaken_ledger r.1 r.2
  | gateStatusFrame tag => exact taking_quiet fun r s => s.gateStatusTaken_ledger r.1 r.2
  | sequenceWrite u => exact taking_quiet fun q s => s.sequenceTaken_ledger u q
  | switchTable => exact taking_quiet fun b s => s.tableTaken_ledger b
  | consumerWrite => exact taking_quiet fun v s => s.consume_ledger v
  | robotStatusTimeout u =>
    simp only [exec, execRobotStatusTimeout]
    repeat' split
    · exact .quiet (s.robotLost_ledger _ u)
    · exact .stands
    · exact .stands
  | gateStatusTimeout g =>
    simp only [exec, execGateStatusTimeout]
    repeat' split
    · exact .quiet (State.handOn_ledger _)
    · exact .stands
    · exact .stands
  | accessTimerExpiry z =>
    simp only [exec, execAccessTimerExpiry]
    repeat' split
    · exact .quiet (s.accessExpired_ledger _ z)
    · exact .stands
    · exact .stands
  | clearingWindowExpiry z =>
    simp only [exec, execClearingWindowExpiry]
    repeat' split
    · exact .quiet ((State.handOn_ledger _).trans (s.moveZone_ledger _ z _))
    · exact .stands
    · exact .stands
  | tableTimerExpiry =>
    simp only [exec, execTableTimerExpiry]
    repeat' split
    · exact .quiet (s.tableStale_ledger _)
    · exact .stands
    · exact .stands
  | silenceExpiry p =>
    simp only [exec, execSilenceExpiry]
    repeat' split
    · exact .quiet ((State.handOn_ledger _).trans (s.movePort_ledger _ p _ _))
    · exact .stands
    · exact .stands
  | intervalBoundary =>
    simp only [exec, execIntervalBoundary]
    split
    · exact (answers_next _ _).2 (.refl _)
    · exact .stands
  | guardRawChange z opened => exact (answers_next _ _).2 (.refl _)
  | guardOpen z =>
    simp only [exec, execGuardOpen]
    repeat' split
    · exact (answers_next _ _).2 (.refl _)
    · exact .quiet ((State.guardOpened_ledger _ _ z).trans (s.setLevel_ledger z _))
    · exact .stands
  | guardClosed z =>
    simp only [exec, execGuardClosed]
    repeat' split
    · exact (answers_next _ _).2 (.refl _)
    · exact .quiet ((State.guardClosed_ledger _ _ z).trans (s.setLevel_ledger z _))
    · exact .stands
  | robotCommandRead tag data => exact robotCommandRead_enters tag data
  | gateCommandRead tag data => exact gateCommandRead_enters tag data
  | mailboxRead data => exact mailboxRead_enters data
  | viewRead b => exact viewRead_enters b
  | enter z => exact zoneCommand_quiet fun c q s => s.enterZone_ledger c z q
  | confirm z => exact zoneCommand_quiet fun c q s => s.confirmZone_ledger c z q
  | extend z => exact zoneCommand_quiet fun c q s => s.extendZone_ledger z q
  | cancel z => exact zoneCommand_quiet fun c q s => s.cancelZone_ledger c z q
  | reset z => exact zoneCommand_quiet fun c q s => s.resetZone_ledger c z q
  | resume z => exact zoneCommand_quiet fun c q s => s.resumeZone_ledger c z q
  | sense z => exact taking_quiet fun w s => s.zoneReceives_ledger z w _ fun _ _ _ => rfl
  | release => exact generalCommand_enters fun c w _ idle => releaseTaken_enters c w idle
  | clearSuspect => exact generalCommand_enters fun c w _ idle => clearSuspectTaken_enters c w idle
  | accountClear => exact generalCommand_enters fun _ w _ idle => accountClearTaken_enters w idle
  | portClear => exact generalCommand_enters fun c w _ idle => portClearTaken_enters c w idle
  | snapshot => exact generalCommand_enters fun c w _ idle => snapshotTaken_enters c w idle
  | purge => exact generalCommand_enters fun _ w _ idle => completeGeneral_enters rfl idle w _
  | lineResume => exact generalCommand_enters fun c w _ idle => lineResumeTaken_enters c w idle
  | otherCommandCode slot => exact otherCommandCode_enters slot
  | snapshotWriteAnswered ok => exact snapshotWriteAnswered_enters ok
  | noticeWriteAnswered ok => exact noticeWriteAnswered_enters ok
  | upstreamTransaction x b => exact upstreamTransaction_enters x b
  | forwardedResponse tag ok data => exact forwardedResponse_enters tag ok data
  | arbiterGrant => exact (answers_next _ _).2 grant_enters
  | fullLoad => exact taking_enters fun _ s => requestLoad_enters _
  | parameterLoad => exact taking_enters fun _ s => requestLoad_enters _
  | changeoverLoad => exact taking_enters fun _ s => requestLoad_enters _
  | otherLoadKind => exact taking_enters fun _ s => requestLoad_enters _
  | configReadAnswered ok data => exact configReadAnswered_enters ok data

end State

/-- A step enters in the ledger what a command can. -/
theorem step_enters {s t : State} (h : step s = .next t) : s.Enters t := by
  unfold step at h
  split at h
  · cases h
    exact .refl _
  · next i rest _ => exact State.exec_enters i { s with pending := rest } t h

/-- Settles O9: each entry of a step keeps one own transaction per requester, in step with the load and the snapshot. -/
theorem stepKeepsOwnSound : Obligations.StepKeepsOwnSound :=
  fun s t sound h => t.ownSound_iff.2 ((step_enters h).ownSound (s.ownSound_iff.1 sound))

/-- Settles O13: each entry of a step keeps the sums of the statistics. -/
theorem stepKeepsCountsSound : Obligations.StepKeepsCountsSound :=
  fun s t sound h => t.countsSound_iff.2 ((step_enters h).countsSound (s.countsSound_iff.1 sound))

end Sys2Proof.Machine
end

section
/-! Checks, templates and chains (R50 to R54): the result of a template goes by its lowest unmet check, and the grade of a record by
the first template of the chain that is not MAJOR (O24). -/

namespace Sys2Proof.Machine

/-! ## The first of a sorted list -/

/-- In a sorted list the search finds the least element it is true of. -/
theorem find?_of_least {α : Type} {lt : α → α → Prop} {l : List α} (sorted : l.Pairwise lt) {p : α → Bool} {a : α}
    (mem : a ∈ l) (holds : p a = true) (least : ∀ x ∈ l, lt x a → p x = false) : l.find? p = some a := by
  induction l with
  | nil => cases mem
  | cons x l ih =>
    obtain ⟨before, sorted⟩ := List.pairwise_cons.1 sorted
    rcases List.mem_cons.1 mem with rfl | mem
    · exact List.find?_cons_of_pos holds
    · rw [List.find?_cons_of_neg (by simp [least x List.mem_cons_self (before a mem)])]
      exact ih sorted mem fun y hy => least y (List.mem_cons_of_mem _ hy)

/-! ## Checks (R51) -/

/-- What a check that is neither OFF nor masked asks of a measured byte (R51). -/
theorem Check.tests_iff (k : Check) (m : Nat) (on : k.op ≠ .off) :
    k.tests m = true ↔
      (k.op = .eq ∧ m = k.a) ∨ (k.op = .le ∧ m ≤ k.a) ∨ (k.op = .ge ∧ k.a ≤ m) ∨
        (k.op = .within ∧ k.a ≤ m ∧ (k.b = 255 ∨ m ≤ k.b)) ∨
        (k.op = .outside ∧ (m < k.a ∨ (k.b ≠ 255 ∧ k.b < m))) := by
  unfold Check.tests
  cases op : k.op with
  | off => exact absurd op on
  | _ => simp

/-- When a check is met (R51). -/
theorem Check.met_iff (k : Check) (m : Nat) :
    k.met m = true ↔ k.op = .off ∨ k.a = 255 ∨
      if m = 255 then k.policy = .skip
      else
        (k.op = .eq ∧ m = k.a) ∨ (k.op = .le ∧ m ≤ k.a) ∨ (k.op = .ge ∧ k.a ≤ m) ∨
          (k.op = .within ∧ k.a ≤ m ∧ (k.b = 255 ∨ m ≤ k.b)) ∨
          (k.op = .outside ∧ (m < k.a ∨ (k.b ≠ 255 ∧ k.b < m))) := by
  unfold Check.met
  split
  · next stands =>
    rw [← or_assoc]
    simp only [stands, true_or]
  · next on =>
    obtain ⟨op, a⟩ := not_or.1 on
    simp only [op, a, false_or]
    split
    · exact decide_eq_true_iff
    · exact k.tests_iff m op

/-! ## Templates (R52) -/

/-- Check `i` of the template is met by the record. -/
def Template.meets (t : Template) (v : VerdictRec) (i : Fin 16) : Bool :=
  (t.get i).met (v.measure (t.get i).byteNo)

/-- The lowest unmet check of a severity is the first check of that severity that is unmet. -/
theorem Template.firstUnmet_eq (t : Template) (v : VerdictRec) (sev : Severity) :
    t.firstUnmet v sev = (List.finRange 16).find? fun i => !t.meets v i && decide ((t.get i).severity = sev) := by
  rw [Template.firstUnmet, Template.unmet, List.find?_filter]
  simp only [Bool.decide_and, Bool.decide_eq_true]
  rfl

/-- It is an unmet check of that severity before which all of that severity are met. -/
theorem Template.firstUnmet_some {t : Template} {v : VerdictRec} {sev : Severity} {i : Fin 16} (unmet : ¬ t.meets v i = true)
    (severity : (t.get i).severity = sev) (least : ∀ j < i, (t.get j).severity = sev → t.meets v j = true) :
    t.firstUnmet v sev = some i := by
  rw [Template.firstUnmet_eq]
  refine find?_of_least (List.pairwise_lt_finRange 16) (List.mem_finRange i) (by simp [unmet, severity]) fun j _ less => ?_
  by_cases same : (t.get j).severity = sev
  · simp [least j less same]
  · simp [same]

/-- There is none when every check of that severity is met. -/
theorem Template.firstUnmet_none {t : Template} {v : VerdictRec} {sev : Severity}
    (met : ∀ j, (t.get j).severity = sev → t.meets v j = true) : t.firstUnmet v sev = none := by
  rw [Template.firstUnmet_eq, List.find?_eq_none]
  intro j _
  by_cases same : (t.get j).severity = sev
  · simp [met j same]
  · simp [same]

section

variable {t : Template} {no : Nat} {v : VerdictRec}

/-- The lowest unmet MAJOR check gives the result. -/
theorem Template.result_major {i : Fin 16} (unmet : ¬ t.meets v i = true) (severity : (t.get i).severity = .major)
    (least : ∀ j < i, (t.get j).severity = .major → t.meets v j = true) :
    t.result no v = { grade := .major, cls := (t.get i).cls, check := i.val, template := some no } := by
  simp only [Template.result, Template.firstUnmet_some unmet severity least]

/-- With every MAJOR check met, the lowest unmet check, which is MINOR, gives it. -/
theorem Template.result_minor {i : Fin 16} (major : ∀ j, (t.get j).severity = .major → t.meets v j = true)
    (unmet : ¬ t.meets v i = true) (least : ∀ j < i, t.meets v j = true) :
    t.result no v = { grade := .minor, cls := (t.get i).cls, check := i.val, template := some no } := by
  have severity : (t.get i).severity = .minor := by
    cases eq : (t.get i).severity with
    | minor => rfl
    | major => exact absurd (major i eq) unmet
  simp only [Template.result, Template.firstUnmet_none major, Template.firstUnmet_some unmet severity fun j less _ => least j less]

/-- With every check met the result is PASS. -/
theorem Template.result_pass (met : ∀ j, t.meets v j = true) :
    t.result no v = { grade := .pass, cls := .none, check := 0, template := some no } := by
  simp only [Template.result, Template.firstUnmet_none fun j _ => met j]

/-- A result names its template. -/
theorem Template.result_template : (t.result no v).template = some no := by
  unfold Template.result
  split <;> rfl

end

/-! ## Chains (R53) -/

/-- The numbers of a chain, with fuel enough to reach its last. -/
theorem mem_chainFrom {step last fuel no n : Nat} (positive : 1 ≤ step) (enough : last < no + fuel) :
    n ∈ chainFrom step last fuel no ↔ no ≤ n ∧ n ≤ last ∧ (n - no) % step = 0 := by
  induction fuel generalizing no with
  | zero =>
    simp only [chainFrom, List.not_mem_nil, false_iff]
    omega
  | succ fuel ih =>
    unfold chainFrom
    split
    · rw [List.mem_cons, ih (by omega)]
      constructor
      · rintro (rfl | ⟨above, below, divides⟩)
        · simpa using ‹_ ≤ last›
        · refine ⟨by omega, below, ?_⟩
          rw [show n - no = (n - (no + step)) + step by omega, Nat.add_mod_right]
          exact divides
      · rintro ⟨above, below, divides⟩
        rcases Nat.eq_or_lt_of_le above with rfl | above
        · exact .inl rfl
        · have far : step ≤ n - no := Nat.le_of_dvd (by omega) (Nat.dvd_of_mod_eq_zero divides)
          refine .inr ⟨by omega, below, ?_⟩
          rw [show n - no = (n - (no + step)) + step by omega, Nat.add_mod_right] at divides
          exact divides
    · simp only [List.not_mem_nil, false_iff]
      omega

/-- A chain ascends. -/
theorem chainFrom_sorted {step : Nat} (positive : 1 ≤ step) (last fuel no : Nat) :
    (chainFrom step last fuel no).Pairwise (· < ·) ∧ ∀ n ∈ chainFrom step last fuel no, no ≤ n := by
  induction fuel generalizing no with
  | zero => exact ⟨.nil, nofun⟩
  | succ fuel ih =>
    obtain ⟨sorted, above⟩ := ih (no + step)
    unfold chainFrom
    split
    · refine ⟨List.pairwise_cons.2 ⟨fun n mem => ?_, sorted⟩, fun n mem => ?_⟩
      · have := above n mem
        omega
      · rcases List.mem_cons.1 mem with rfl | mem
        · exact Nat.le_refl _
        · have := above n mem
          omega
    · exact ⟨.nil, nofun⟩

/-- Template number `n` is one of the camera's chain (3.4). -/
def CameraCfg.Chains (k : CameraCfg) (n : Nat) : Prop :=
  k.chainFirst ≤ n ∧ n ≤ k.chainLast ∧ (n - k.chainFirst) % k.chainStep = 0

/-- A validated chain is the list of its numbers (R158). -/
theorem CameraCfg.mem_chain {k : CameraCfg} (last : k.chainLast ≤ 15) (step : 1 ≤ k.chainStep) {n : Nat} :
    n ∈ k.chain ↔ k.Chains n :=
  mem_chainFrom step (by omega)

/-- The result of a template that a bank has. -/
theorem Bank.resultOf_val (b : Bank) (v : VerdictRec) (no : Fin 16) : b.resultOf v no.val = (b.get no).result no.val v := by
  simp [Bank.resultOf, Bank.template]

/-- A record with a usable image takes the first result of the chain that is not MAJOR, else that of its first template (R53). -/
theorem Bank.gradeOf_usable (b : Bank) (k : CameraCfg) {v : VerdictRec} (usable : v.imageOk = true) :
    b.gradeOf k v =
      ((k.chain.find? fun n => decide ((b.resultOf v n).grade ≠ .major)).map (b.resultOf v)).getD
        (b.resultOf v k.chainFirst) := by
  rw [Bank.gradeOf, if_pos usable, List.find?_map]
  rfl

section

variable {b : Bank} {k : CameraCfg} {v : VerdictRec} (usable : v.imageOk = true) (last : k.chainLast ≤ 15)
  (step : 1 ≤ k.chainStep)
include usable last step

/-- The first template of the chain whose result is not MAJOR grades the record. -/
theorem Bank.gradeOf_first {n : Nat} (member : k.Chains n) (good : (b.resultOf v n).grade ≠ .major)
    (before : ∀ j, k.Chains j → j < n → (b.resultOf v j).grade = .major) : b.gradeOf k v = b.resultOf v n := by
  have found : k.chain.find? (fun n => decide ((b.resultOf v n).grade ≠ .major)) = some n := by
    refine find?_of_least (chainFrom_sorted step _ _ _).1 ((CameraCfg.mem_chain last step).2 member) (by simpa using good) ?_
    intro j mem less
    simp [before j ((CameraCfg.mem_chain last step).1 mem) less]
  rw [Bank.gradeOf_usable b k usable, found]
  rfl

/-- With every result MAJOR the first template grades it. -/
theorem Bank.gradeOf_major (major : ∀ j, k.Chains j → (b.resultOf v j).grade = .major) :
    b.gradeOf k v = b.resultOf v k.chainFirst := by
  have none : k.chain.find? (fun n => decide ((b.resultOf v n).grade ≠ .major)) = none := by
    rw [List.find?_eq_none]
    intro j mem
    simp [major j ((CameraCfg.mem_chain last step).1 mem)]
  rw [Bank.gradeOf_usable b k usable, none]
  rfl

end

/-- A statement of the chain's numbers is one of the bank's templates. -/
theorem CameraCfg.forall_chains {k : CameraCfg} (last : k.chainLast ≤ 15) {p : Nat → Prop}
    (h : ∀ j : Fin 16, k.Chains j.val → p j.val) (j : Nat) (member : k.Chains j) : p j := by
  have below : j < 16 := Nat.lt_succ_of_le (member.2.1.trans last)
  exact h ⟨j, below⟩ member

/-- Settles O24: R50 to R54 on banks, chains, templates and checks. -/
theorem templateResultRanksChecks : Obligations.TemplateResultRanksChecks := by
  refine ⟨fun _ _ => rfl, fun b k v => ⟨fun unusable => ?_, fun usable _ last step => ⟨?_, ?_⟩⟩, fun t no v => ?_⟩
  · simp [Bank.gradeOf, unusable]
  · intro no member good before
    have its := b.resultOf_val v
    refine (Bank.gradeOf_first usable last step member (by rw [its]; exact good) ?_).trans (its no)
    exact CameraCfg.forall_chains last fun j chained less => (congrArg Graded.grade (its j)).trans (before j chained less)
  · intro no first major
    have its := b.resultOf_val v
    refine (Bank.gradeOf_major usable last step ?_).trans (first ▸ its no)
    exact CameraCfg.forall_chains last fun j chained => (congrArg Graded.grade (its j)).trans (major j chained)
  · have met_iff : ∀ i, t.meets v i = true ↔ _ := fun i => (t.get i).met_iff (v.measure (t.get i).byteNo)
    refine ⟨met_iff, Template.result_template, fun i unmet severity least => ?_, fun i major unmet least => ?_,
      fun met => ?_, fun off => ?_⟩
    · rw [Template.result_major (mt (met_iff i).1 unmet) severity fun j less same => (met_iff j).2 (least j less same)]
      exact ⟨rfl, rfl, rfl⟩
    · rw [Template.result_minor (fun j same => (met_iff j).2 (major j same)) (mt (met_iff i).1 unmet)
        fun j less => (met_iff j).2 (least j less)]
      exact ⟨rfl, rfl, rfl⟩
    · rw [Template.result_pass fun j => (met_iff j).2 (met j)]
      exact ⟨rfl, rfl, rfl⟩
    · rw [Template.result_pass fun j => (met_iff j).2 ((off j).imp_right .inl)]

end Sys2Proof.Machine
end

section
/-! SNAPSHOT and the answers to its two lines (R61 to R63, R164; O56). -/

namespace Sys2Proof.Machine

/-! ## The copy -/

/-- The camera that SNAPSHOT's argument numbers, when it is held (11.3). -/
theorem HallConfig.cameraArg_eq {c : HallConfig} {w : Word} {n : Fin 6} (held : (c.cameras.get n).present = true)
    (arg : wordArg w % 256 = n.val) : c.cameraArg w = some n := by
  have below : wordArg w % 256 < 6 := arg ▸ n.isLt
  have number : (⟨wordArg w % 256, below⟩ : Fin 6) = n := Fin.ext arg
  rw [HallConfig.cameraArg, dif_pos below, number]
  exact if_pos held

/-- A line of a snapshot as the record of 11.4 has it (R172). -/
theorem snapshotWrite_eq (k : SnapshotCopy) (addr i : Nat) :
    snapshotWrite k addr i =
      { requester := .snapshot, addr := addr + 128 * i, data := recordWords k.layout (128 * i) 16, oldRing := false } := by
  rw [snapshotWrite, SnapshotCopy.fields_eq_layout]

/-- The report unit once a snapshot of `copy` begins (R61, R164). -/
def Report.begins (r : Report) (copy : SnapshotCopy) (addr : Nat) (command : Byte) : Report :=
  { r with
    slot := .inProgress
    snapshotSeq := copy.sequence
    snapshot := some { copy := copy, addr := addr, unanswered := 2, faulted := false, command := command } }

/-- The camera records after a snapshot of camera `n` that clears, or does not (R61). -/
def clearedCameras (cameras : Table CameraRec 6) (n : Fin 6) (clears : Bool) : Table CameraRec 6 :=
  if clears then cameras.modify n fun r => { r with counts := CameraCounts.zero } else cameras

/-- The camera of the snapshot. -/
theorem clearedCameras_self (cameras : Table CameraRec 6) (n : Fin 6) (clears : Bool) :
    (clearedCameras cameras n clears).get n =
      if clears then { cameras.get n with counts := CameraCounts.zero } else cameras.get n := by
  unfold clearedCameras
  split
  · exact Table.get_modify_self _ _ _
  · rfl

/-- Every other camera stands. -/
theorem clearedCameras_ne (cameras : Table CameraRec 6) {n m : Fin 6} (ne : m ≠ n) (clears : Bool) :
    (clearedCameras cameras n clears).get m = cameras.get m := by
  unfold clearedCameras
  split
  · exact Table.get_modify_ne _ _ ne
  · rfl

/-- The snapshot begins: report unit, own queue and the camera's statistics move (R61, R62). -/
theorem State.startSnapshot_eq (s : State) (c : HallConfig) (n : Fin 6) (w : Word) :
    let k := c.cameras.get n
    let copy := s.copyCamera n k (clearArg w) (s.report.snapshotSeq + 1)
    s.startSnapshot c n w =
      { s with
        report := s.report.begins copy k.snapshotAddr (wordSeq w)
        grading := { s.grading with cameras := clearedCameras s.grading.cameras n (clearArg w) }
        path := { s.path with ownQueue := s.path.ownQueue ++ [snapshotWrite copy k.snapshotAddr 0] } } := by
  simp only [State.startSnapshot, clearedCameras]
  cases clearArg w <;> rfl

/-- Handing a record over leaves the own queue. -/
theorem State.take_ownQueue {α : Type} {s s1 : State} {tag : Fin 32} {sel : Handover → Option α} {a : α}
    (take : s.take tag sel = some (a, s1)) : s1.path.ownQueue = s.path.ownQueue := by
  obtain ⟨f, left, -, -, rfl⟩ := State.take_spec s take
  show (s.path.handed tag left).ownQueue = _
  unfold Path.handed
  split <;> rfl

/-- What the end of a step presents, once the own queue is known (R167). -/
theorem State.settle_presents_of {a : State} {waiting : List OwnTxn} (queue : a.path.ownQueue = waiting) :
    a.settle.Presents waiting :=
  queue ▸ a.settle_presents

/-! ## The answers to its lines -/

/-- The answer to the first line presents the second (R62, R63). -/
theorem State.snapshotAnswered_first (s : State) {k : Snapshot} (first : k.unanswered = 2) (ok : Bool) :
    s.snapshotAnswered k ok =
      { s with
        report := { s.report with snapshot := some { k with unanswered := 1, faulted := k.faulted || !ok } }
        path := { s.path with ownQueue := s.path.ownQueue ++ [snapshotWrite k.copy k.addr 1] } } := by
  simp only [State.snapshotAnswered, first, if_true]
  rfl

/-- The notices of a snapshot's end: COMMAND_COMPLETION, and SNAPSHOT_FAULT after a FAULT (R63, R164). -/
def State.snapshotNotices (s : State) (k : Snapshot) (faulted : Bool) : List Notice :=
  { s.note .commandCompletion with
    subject := 8, code := Completion.normal.code
    detail := BitVec.ofNat 32 (GeneralCommand.snapshot.code + 256 * k.command.toNat) } ::
    if faulted then [{ s.note .snapshotFault with subject := k.copy.unit, detail := k.copy.sequence }] else []

/-- The answer to the second line completes the command (R62, R63, R164). -/
theorem State.snapshotAnswered_second (s : State) {k : Snapshot} (second : k.unanswered ≠ 2) (ok : Bool) :
    s.snapshotAnswered k ok =
      { s with
        report := { s.report with snapshot := none, slot := .complete, reply := some (k.command, .normal) }
        given := s.given ++ s.snapshotNotices k (k.faulted || !ok) } := by
  simp only [State.snapshotAnswered, second, if_false, State.snapshotDone, State.snapshotNotices]
  cases k.faulted || !ok
  · rfl
  · simp only [if_true, State.give, State.giveCommandCompletion, List.append_assoc]
    rfl

/-- Settles O56: each of the three events moves the report unit and the own queue as R61 to R63 say. -/
theorem snapshotTakenAndWritten : Obligations.SnapshotTakenAndWritten := by
  intro s c config
  constructor
  · intro w s1 n take fresh idle held arg
    have answer : exec .snapshot s = _ := State.generalCommand_acts take config fresh idle fun c w s => s.snapshotTaken c w
    have queue := State.take_ownQueue take
    obtain ⟨p, rfl⟩ := State.take_path take
    simp only [State.snapshotTaken, HallConfig.cameraArg_eq held arg, State.startSnapshot_eq] at answer
    refine ⟨_, _, answer, rfl, rfl, ?_, ?_, fun m ne => ?_, ?_, rfl⟩
    · exact State.settle_presents_of (congrArg₂ (fun l o => l ++ [o]) queue (snapshotWrite_eq _ _ 0))
    · exact clearedCameras_self _ _ _
    · exact clearedCameras_ne _ ne _
    · exact State.settle_givesOnly rfl rfl (List.append_nil _).symm
  · intro ok o rest k atMemory whose inFlight
    have head : s.path.ownHead .snapshot = some o := by simp [Path.ownHead, atMemory, whose]
    have answer : exec (.snapshotWriteAnswered ok) s = .next (s.ownAnswered.snapshotAnswered k ok).settle := by
      simp only [exec, execSnapshotWriteAnswered, head, inFlight]
    have tail : s.ownAnswered.path.ownAtMemory = rest := by rw [State.ownAnswered, State.onPath, atMemory]; rfl
    by_cases first : k.unanswered = 2
    · rw [State.snapshotAnswered_first _ first] at answer
      refine ⟨_, answer, tail, fun _ => ⟨?_, rfl, ?_⟩, fun second => absurd first second, rfl⟩
      · exact State.settle_givesOnly rfl rfl (List.append_nil _).symm
      · exact State.settle_presents_of (congrArg (fun o => s.path.ownQueue ++ [o]) (snapshotWrite_eq _ _ 1))
    · rw [State.snapshotAnswered_second _ first] at answer
      exact ⟨_, answer, tail, fun second => absurd second first,
        fun _ => ⟨State.settle_presents_of rfl, State.settle_givesOnly rfl rfl rfl, rfl⟩, rfl⟩

end Sys2Proof.Machine
end

section
/-! SUPPORT. Fields of records that share no byte: sorted fields, fields moved to a record's place, and records side by side. -/

namespace Sys2Proof.Machine

/-- The fields share no byte and stand in the bytes from `lo` to `hi`. -/
structure FitsIn (lo hi : Nat) (fs : List Field) : Prop where
  /-- They share no byte. -/
  disjoint : disjointFields fs
  /-- They stand in these bytes. -/
  inside : ∀ f ∈ fs, lo ≤ f.off ∧ f.off + f.size ≤ hi

/-- The fields stand one after another in the bytes from `lo` to `hi`. -/
def ascending (lo hi : Nat) : List Field → Bool
  | [] => decide (lo ≤ hi)
  | f :: fs => decide (lo ≤ f.off) && ascending (f.off + f.size) hi fs

/-- Fields that stand one after another share no byte. -/
theorem FitsIn.of_ascending {lo hi : Nat} {fs : List Field} (h : ascending lo hi fs = true) : FitsIn lo hi fs := by
  induction fs generalizing lo with
  | nil => exact ⟨.nil, nofun⟩
  | cons f fs ih =>
    simp only [ascending, Bool.and_eq_true, decide_eq_true_eq] at h
    obtain ⟨low, rest⟩ := h
    obtain ⟨disjoint, inside⟩ := ih rest
    have reaches : f.off + f.size ≤ hi := by
      cases fs with
      | nil => simpa [ascending] using rest
      | cons g _ =>
        have := inside g List.mem_cons_self
        omega
    refine ⟨List.pairwise_cons.2 ⟨fun g mem => .inl (inside g mem).1, disjoint⟩, fun g mem => ?_⟩
    rcases List.mem_cons.1 mem with rfl | mem
    · exact ⟨low, reaches⟩
    · have := inside g mem
      omega

/-- Fields in lower bytes and fields in higher bytes. -/
theorem FitsIn.append {lo mid hi : Nat} {fs gs : List Field} (low : FitsIn lo mid fs) (high : FitsIn mid hi gs)
    (up : lo ≤ mid) (down : mid ≤ hi) : FitsIn lo hi (fs ++ gs) := by
  refine ⟨List.pairwise_append.2 ⟨low.disjoint, high.disjoint, fun f hf g hg => .inl ?_⟩, fun f mem => ?_⟩
  · exact (low.inside f hf).2.trans (high.inside g hg).1
  · rcases List.mem_append.1 mem with mem | mem
    · have := low.inside f mem
      omega
    · have := high.inside f mem
      omega

/-- Their order plays no part. -/
theorem FitsIn.perm {lo hi : Nat} {fs gs : List Field} (h : FitsIn lo hi fs) (perm : fs.Perm gs) : FitsIn lo hi gs :=
  ⟨(perm.pairwise_iff fun h => Or.symm h).1 h.disjoint, fun f mem => h.inside f (perm.mem_iff.2 mem)⟩

/-- Fields moved by `base`. -/
theorem FitsIn.moved {lo hi : Nat} {fs : List Field} (h : FitsIn lo hi fs) (base : Nat) :
    FitsIn (base + lo) (base + hi) (moved base fs) := by
  refine ⟨List.pairwise_map.2 (h.disjoint.imp fun {a b} apart => ?_), fun f mem => ?_⟩
  · simp only
    omega
  · obtain ⟨g, own, rfl⟩ := List.mem_map.1 mem
    have := h.inside g own
    simp only
    omega

/-- Records of `size` bytes side by side from `base` on. -/
theorem FitsIn.records {n base size : Nat} {fs : Fin n → List Field}
    (h : ∀ i : Fin n, FitsIn (base + size * i.val) (base + size * i.val + size) (fs i)) :
    FitsIn base (base + size * n) ((List.finRange n).flatMap fs) := by
  have next : ∀ i j : Nat, i < j → size * i + size ≤ size * j := fun i j less =>
    Nat.mul_succ size i ▸ Nat.mul_le_mul_left size less
  refine ⟨List.pairwise_flatMap.2 ⟨fun i _ => (h i).disjoint, (List.pairwise_lt_finRange n).imp ?_⟩, fun f mem => ?_⟩
  · intro i j less f hf g hg
    have low := (h i).inside f hf
    have high := (h j).inside g hg
    have := next i j less
    omega
  · obtain ⟨i, _, mem⟩ := List.mem_flatMap.1 mem
    have := (h i).inside f mem
    have := next i n i.isLt
    omega

end Sys2Proof.Machine
end

section
/-! What the part answers of itself: the reply words of the mailbox (11.3) and the supervisor view (11.5), field by field (O50). -/

namespace Sys2Proof.Machine

/-! ## The model's fields are those of chapter 11 -/

/-- Fields moved to a record's place. -/
theorem map_shift (base : Nat) (fs : List Field) : fs.map (Field.shift base) = moved base fs := rfl

/-- The slot state of a zone slot (R112). -/
theorem Zone.slotState_code (k : Zone) : k.slotState.code = k.slotShown := by
  unfold Zone.slotState Zone.slotShown
  cases k.inFlight <;> cases k.pending <;> rfl

/-- The reply word of a zone slot (R112). -/
theorem Zone.replyFields_eq (k : Zone) : k.replyFields = k.replyLayout := by
  simp only [Zone.replyFields, Zone.replyLayout, Zone.slotState_code]
  cases k.reply.seq <;> cases k.reply.code <;> cases k.reply.origin <;> cases k.forcedCause <;> rfl

/-- The reply word of the general slot (R165). -/
theorem Report.replyFields_eq (r : Report) : r.replyFields = r.replyLayout := by
  unfold Report.replyFields Report.replyLayout
  cases r.reply <;> rfl

/-- A bottle index that may be absent. -/
theorem codeOr0_bottle (b : Option Bottle) : codeOr0 BitVec.toNat b = shownBottle b := by
  cases b <;> rfl

/-- The bottle index of a slot that may be absent. -/
theorem codeOr0_slot (q : Option Slot) : codeOr0 (fun q => q.bottle.toNat) q = shownBottle (q.map Slot.bottle) := by
  cases q <;> rfl

/-- The header of the view. -/
theorem State.headerFields_eq (s : State) : s.headerFields = s.headerLayout := by
  simp only [State.headerFields, State.headerLayout, codeOr0_bottle, codeOr0_slot]
  cases s.loader.kind <;> rfl

/-- The record of a port (R142). -/
theorem State.portFields_eq (s : State) (c : HallConfig) (p : Fin 16) : s.portFields c p = s.portLayout c p := by
  simp only [State.portFields, State.portLayout]
  cases (s.ports.get p).history.head? <;> rfl

/-- The record of a zone (R126). -/
theorem State.zoneFields_eq (s : State) (z : Fin 8) : s.zoneFields z = s.zoneLayout z := by
  have length : ∀ e, accessLength e = if e then 20000000000 else 15000000000 := fun e => by cases e <;> rfl
  simp only [State.zoneFields, State.zoneLayout, Zone.expiry, Zone.furtherPending, Zone.slotState_code, length]
  cases (s.zones.get z).access <;> cases (s.zones.get z).clearing <;> cases (s.zones.get z).pending <;>
    cases (s.zones.get z).forcedCause <;> rfl

/-- The fields of a robot (R104). -/
theorem Robot.viewFields_eq (r : Robot) : r.viewFields = r.viewLayout := by
  unfold Robot.viewFields Robot.viewLayout
  cases r.lastVolume <;> rfl

/-- The fields of a gate (R80). -/
theorem State.gateFields_eq (s : State) (c : HallConfig) (g : Fin 2) (r : GateRec) :
    r.viewFields (s.available c g) (s.outstanding g).length = s.gateLayout c g r := by
  unfold GateRec.viewFields State.gateLayout
  cases r.lastReport with
  | none => rfl
  | some report =>
    obtain ⟨b, ejected⟩ := report
    simp only [Nat.add_assoc]
    rfl

/-- The fields of a unit's kind. -/
theorem State.mem_kindFields (s : State) (c : HallConfig) (u : Fin 24) (f : Field) :
    f ∈ s.kindFields c u ↔
      (c.kindOf u = .filler ∧ ∃ r, s.robots.get u = some r ∧ f ∈ r.viewLayout) ∨
        (c.kindOf u = .camera ∧ ∃ n, c.cameraOfUnit u = some n ∧ f ∈ (s.grading.cameras.get n).counts.viewLayout) ∨
        (c.kindOf u = .gate ∧ ∃ g r, c.gateOfUnit u = some g ∧ s.gates.get g = some r ∧ f ∈ s.gateLayout c g r) ∨
        (c.kindOf u = .clock ∧ f = ⟨4, 2, s.time.rejected⟩) := by
  unfold State.kindFields
  cases c.kindOf u with
  | absent => simp
  | filler => cases s.robots.get u <;> simp [Robot.viewFields_eq]
  | camera => cases c.cameraOfUnit u <;> simp [CameraCounts.viewFields, CameraCounts.viewLayout]
  | gate =>
    cases c.gateOfUnit u with
    | none => simp
    | some g => cases gate : s.gates.get g <;> simp [State.gateFields_eq, gate]
  | clock => simp

/-- The fields of a unit's record. -/
theorem State.mem_unitFields (s : State) (c : HallConfig) (u : Fin 24) (f : Field) :
    f ∈ s.unitFields c u ↔ s.UnitShows c u f := by
  rw [State.unitFields, List.mem_append, State.mem_kindFields]
  rfl

/-! ## The view and the reply words -/

/-- The view is its header and the records of ports, units and zones, each in its place (11.5). -/
theorem State.viewFields_eq (s : State) (c : HallConfig) :
    s.viewFields c = s.headerLayout ++
      ((List.finRange 16).flatMap fun p => moved (512 + 64 * p.val) (s.portLayout c p)) ++
      ((List.finRange 24).flatMap fun u => moved (1536 + 64 * u.val) (s.unitFields c u)) ++
      (List.finRange 8).flatMap fun z => moved (3072 + 64 * z.val) (s.zoneLayout z) := by
  simp only [State.viewFields, map_shift, State.headerFields_eq, State.portFields_eq, State.zoneFields_eq]

/-- The reply words, each in its slot (11.3). -/
theorem State.replyFields_eq (s : State) :
    s.replyFields =
      ((List.finRange 8).flatMap fun z => moved (32 * z.val + 24) (s.zones.get z).replyLayout) ++
        moved 280 s.report.replyLayout := by
  simp only [State.replyFields, map_shift, Zone.replyFields_eq, Report.replyFields_eq]

/-- The fields of the view, by record. -/
theorem State.mem_viewFields (s : State) (c : HallConfig) (f : Field) :
    f ∈ s.viewFields c ↔
      f ∈ s.headerLayout ∨ (∃ p : Fin 16, f ∈ moved (512 + 64 * p.val) (s.portLayout c p)) ∨
        (∃ (u : Fin 24) (g : Field), s.UnitShows c u g ∧ f = ⟨1536 + 64 * u.val + g.off, g.size, g.value⟩) ∨
        ∃ z : Fin 8, f ∈ moved (3072 + 64 * z.val) (s.zoneLayout z) := by
  have unit : ∀ u, f ∈ moved (1536 + 64 * u.val) (s.unitFields c u) ↔
      ∃ g, s.UnitShows c u g ∧ f = ⟨1536 + 64 * u.val + g.off, g.size, g.value⟩ := fun u => by
    simp only [moved, List.mem_map, State.mem_unitFields, eq_comm]
  simp only [State.viewFields_eq, List.mem_append, List.mem_flatMap, List.mem_finRange, true_and, or_assoc, unit]

/-- The fields that depend on a unit's kind stand in bytes 2 to 55. -/
theorem State.kindFields_fit (s : State) (c : HallConfig) (u : Fin 24) : FitsIn 2 56 (s.kindFields c u) := by
  refine FitsIn.of_ascending ?_
  unfold State.kindFields
  cases c.kindOf u with
  | absent => rfl
  | filler => cases s.robots.get u <;> rfl
  | camera => cases c.cameraOfUnit u <;> rfl
  | gate =>
    cases c.gateOfUnit u with
    | none => rfl
    | some g => cases gate : s.gates.get g <;> simp only [gate] <;> rfl
  | clock => rfl

/-- A unit's record is of 64 bytes. -/
theorem State.unitFields_fit (s : State) (c : HallConfig) (u : Fin 24) : FitsIn 0 64 (s.unitFields c u) := by
  have start : FitsIn 0 2 [⟨0, 1, (c.units.get u).kind.code⟩, ⟨1, 1, (c.units.get u).port⟩] := .of_ascending rfl
  have account : FitsIn 56 64
      [⟨56, 4, (s.time.accounts.get u).seconds⟩, ⟨60, 1, bit (s.time.accounts.get u).due 0⟩] := .of_ascending rfl
  have sorted := (start.append (s.kindFields_fit c u) (by omega) (by omega)).append account (by omega) (by omega)
  refine sorted.perm ?_
  rw [List.append_assoc]
  exact List.perm_append_comm.append_left _

/-- No two fields of the view share a byte: header, ports, units and zones follow one another. -/
theorem State.viewFields_disjoint (s : State) (c : HallConfig) : disjointFields (s.viewFields c) := by
  have header : FitsIn 0 512 s.headerLayout := .of_ascending rfl
  have port : ∀ p, FitsIn 0 64 (s.portLayout c p) := fun p => .of_ascending rfl
  have zone : ∀ z, FitsIn 0 64 (s.zoneLayout z) := fun z => .of_ascending rfl
  have ports := FitsIn.records fun p => (port p).moved (512 + 64 * p.val)
  have units := FitsIn.records fun u => (s.unitFields_fit c u).moved (1536 + 64 * u.val)
  have zones := FitsIn.records fun z => (zone z).moved (3072 + 64 * z.val)
  rw [State.viewFields_eq]
  exact (((header.append ports (by omega) (by omega)).append units (by omega) (by omega)).append zones (by omega)
    (by omega)).disjoint

/-- No two fields of the reply words share a byte. -/
theorem State.replyFields_disjoint (s : State) : disjointFields s.replyFields := by
  have slot : ∀ z, FitsIn 0 32 (s.zones.get z).replyLayout := fun z => .of_ascending rfl
  have word : FitsIn 0 8 s.report.replyLayout := .of_ascending rfl
  have zones := FitsIn.records (base := 24) fun z => (slot z).moved (24 + 32 * z.val)
  have general := word.moved 280
  rw [State.replyFields_eq]
  simp only [Nat.add_comm (32 * _) 24]
  exact (zones.append general (by omega) (by omega)).disjoint

/-! ## Spans in ms -/

/-- A span of whole ms that four bytes can hold (log 42). -/
theorem viewMs_of_lt {ns n : Nat} (counts : (if Config.msRoundsUp then (ns + 999999) / 1000000 else ns / 1000000) = n)
    (fits : n < 2 ^ 32) : viewMs ns = n := by
  simp only [viewMs, counts]
  exact if_pos fits

/-- Settles O50: the answers of VIEW_READ and MAILBOX_READ, their fields as chapter 11 lists them, and the codes of 11.1. -/
theorem viewAndMailboxAnswered : Obligations.ViewAndMailboxAnswered := by
  refine ⟨fun s c config => ⟨fun observeAll f oldest view => ?_, fun data w x substituted mailbox => ?_,
    s.mem_viewFields c, s.viewFields_disjoint c⟩, fun s => ⟨fun f => ?_, s.replyFields_disjoint⟩,
    fun ns => ⟨fun down => viewMs_of_lt (if_neg (by simp [down])), fun up => viewMs_of_lt (if_pos up)⟩,
    rfl, rfl, rfl, rfl, rfl, rfl, rfl, rfl, rfl, rfl, rfl⟩
  · simp only [exec, execViewRead, oldest, config, view, if_true]
    rfl
  · simp only [exec, execMailboxRead, substituted, mailbox, if_true]
    rfl
  · simp only [State.replyFields_eq, List.mem_append, List.mem_flatMap, List.mem_finRange, true_and]

end Sys2Proof.Machine
end


section
/-! SUPPORT. What following does to one robot (R86, R89, R90): its causes bit by bit, and its record as one equation with a cause
and one without. -/

namespace Sys2Proof.Machine

/-! ## The causes of one robot -/

/-- The condition of cause `k` of robot `u` (R86). -/
def State.robotCondition (s : State) (c : HallConfig) (u : Fin 24) (r : Robot) : Cause → Bool
  | .zone => decide (s.zoneStateOf c u ≠ .run)
  | .port => decide (s.portStateOf c u ≠ .active)
  | .lost => decide (r.accepted = .lost) || decide (r.accepted = .offline)
  | .fault => decide (r.accepted = .fault)
  | .safe => decide (r.accepted = .safe)
  | .stale => r.has .stale
  | .suspect => r.suspect
  | .line => decide (s.lineHold ≠ 0)

/-- Each cause stands in the set while its condition holds (R86). -/
theorem State.causesOf_getLsbD (s : State) (c : HallConfig) (u : Fin 24) (r : Robot) (k : Cause) :
    (s.causesOf c u r).getLsbD k.code = s.robotCondition c u r k := by
  cases k <;> simp [State.causesOf, causeIf_getLsbD, State.robotCondition]

/-- A robot with a condition of R86 has a cause. -/
theorem State.causesOf_ne_zero {s : State} {c : HallConfig} {u : Fin 24} {r : Robot} {k : Cause}
    (holds : s.robotCondition c u r k = true) : s.causesOf c u r ≠ 0 := by
  intro none
  rw [← State.causesOf_getLsbD, none] at holds
  exact absurd holds (by simp)

/-! ## The record that follows -/

/-- A robot with a cause after it has followed: HELD, with release-confirm when ZONE or LOST is new, or when it leaves another state
under always-confirm (R89, R90). -/
theorem State.robotAfter_of_causes {s : State} {c : HallConfig} {u : Fin 24} {r : Robot} (cause : s.causesOf c u r ≠ 0) :
    s.robotAfter c u r = { r with
      causes := s.causesOf c u r
      gate := .held
      confirm := r.confirm || (s.robotCondition c u r .zone && !r.has .zone) ||
        (s.robotCondition c u r .lost && !r.has .lost) || (decide (r.gate ≠ .held) && (c.units.get u).alwaysConfirm) } := by
  have added : ∀ k : Cause, (s.causesOf c u r &&& ~~~r.causes).getLsbD k.code = (s.robotCondition c u r k && !r.has k) := by
    intro k
    have small : k.code < 8 := by cases k <;> decide
    rw [BitVec.getLsbD_and, BitVec.getLsbD_not, State.causesOf_getLsbD, decide_eq_true small, Bool.true_and, Robot.has]
  simp only [State.robotAfter, Robot.evaluate, State.followRobot, added, ne_eq, cause, not_false_eq_true, if_true]
  by_cases held : r.gate = .held
  · rw [if_pos held]
    simp [held]
  · rw [if_neg held]
    simp [held]

/-- A robot without a cause after it has followed: out of HELD to ARMING or RELEASED by release-confirm, else where it was (R89). -/
theorem State.robotAfter_of_clear {s : State} {c : HallConfig} {u : Fin 24} {r : Robot} (clear : s.causesOf c u r = 0) :
    s.robotAfter c u r =
      if r.gate = .held then { r with causes := 0, gate := if r.confirm then .arming else .released }
      else { r with causes := 0 } := by
  have none : ∀ i, ((0 : Byte) &&& ~~~r.causes).getLsbD i = false := fun i => by simp
  simp only [State.robotAfter, Robot.evaluate, State.followRobot, clear, none, ne_eq, not_true_eq_false, if_false, Bool.or_false]
  by_cases held : r.gate = .held
  · cases r.confirm <;> simp [held]
  · simp only [held, if_false]

end Sys2Proof.Machine
end


section
/-! SUPPORT. What the laws of causes and gate states read (R67, R86, R89), and what it is for an event to keep these laws. The laws
are those of O6 and O12; `State.Keeps` holds all three, so that each command needs one lemma. -/

namespace Sys2Proof.Machine

/-! ## What the laws read -/

/-- What the laws of causes and gate states read of a robot. -/
structure Gating where
  /-- The accepted state. -/
  accepted : MachineState
  /-- The SUSPECT latch. -/
  suspect : Bool
  /-- The cause set. -/
  causes : Byte
  /-- The gate state. -/
  gate : GateState
  /-- Release-confirm. -/
  confirm : Bool
  /-- The attribution ring. -/
  ring : List Bool
  /-- The last forwarded speed. -/
  lastSpeed : Nat

/-- That part of a robot record. -/
def Robot.gating (r : Robot) : Gating :=
  { accepted := r.accepted, suspect := r.suspect, causes := r.causes, gate := r.gate, confirm := r.confirm, ring := r.ring
    lastSpeed := r.lastSpeed }

/-- That part of every robot record. -/
def State.gatings (s : State) : Fin 24 → Option Gating :=
  fun u => (s.robots.get u).map Robot.gating

/-- What the laws read of a state: of a zone only whether it is in RUN. -/
structure Conditions where
  /-- The configuration. -/
  config : Option HallConfig
  /-- The line-hold set. -/
  lineHold : BitVec 14
  /-- The accepted states of the gates. -/
  gates : Fin 2 → Option MachineState
  /-- The robots. -/
  robots : Fin 24 → Option Gating
  /-- The states of the ports. -/
  ports : Fin 16 → PortState
  /-- The zones in RUN. -/
  running : Fin 8 → Bool

/-- The conditions of a state. -/
def State.conditions (s : State) : Conditions :=
  { config := s.config, lineHold := s.lineHold, gates := fun g => (s.gates.get g).map GateRec.accepted, robots := s.gatings
    ports := fun p => (s.ports.get p).state, running := fun z => decide ((s.zones.get z).state = .run) }

/-- States that agree in each part have the same conditions. -/
theorem State.conditions_congr {s t : State} (config : t.config = s.config) (lineHold : t.lineHold = s.lineHold)
    (gates : ∀ g, (t.gates.get g).map GateRec.accepted = (s.gates.get g).map GateRec.accepted)
    (robots : t.gatings = s.gatings) (ports : ∀ p, (t.ports.get p).state = (s.ports.get p).state)
    (zones : ∀ z, (t.zones.get z).state = .run ↔ (s.zones.get z).state = .run) : t.conditions = s.conditions := by
  simp only [State.conditions, config, lineHold, gates, robots, ports, zones]

/-! ## The laws are laws of the conditions -/

section
variable {s t : State} (same : t.conditions = s.conditions)
include same

/-- Conditions of units read the same. -/
theorem State.portStateOf_of_conditions (c : HallConfig) (u : Fin 24) : t.portStateOf c u = s.portStateOf c u := by
  unfold State.portStateOf
  split
  · next p _ => exact congrFun (congrArg Conditions.ports same) p
  · rfl

/-- Whether a unit's zone is in RUN reads the same. -/
theorem State.zoneStateOf_of_conditions (c : HallConfig) (u : Fin 24) : t.zoneStateOf c u = .run ↔ s.zoneStateOf c u = .run := by
  unfold State.zoneStateOf
  split
  · next z _ => exact decide_eq_decide.1 (congrFun (congrArg Conditions.running same) z)
  · rfl

/-- A gate of one state is a gate of the other, with the same accepted state. -/
theorem State.gate_of_conditions {g : Fin 2} {r : GateRec} (hr : t.gates.get g = some r) :
    ∃ r', s.gates.get g = some r' ∧ r.accepted = r'.accepted := by
  have accepted : (t.gates.get g).map GateRec.accepted = (s.gates.get g).map GateRec.accepted :=
    congrFun (congrArg Conditions.gates same) g
  rw [hr] at accepted
  obtain ⟨r', get, eq⟩ := Option.map_eq_some_iff.1 accepted.symm
  exact ⟨r', get, eq.symm⟩

/-- The conditional line-hold causes keep following (R67). -/
theorem State.CausesFollow.of_conditions (h : s.CausesFollow) : t.CausesFollow := by
  have config : t.config = s.config := congrArg Conditions.config same
  have lineHold : t.lineHold = s.lineHold := congrArg Conditions.lineHold same
  have port := State.portStateOf_of_conditions same
  have zone := State.zoneStateOf_of_conditions same
  refine ⟨fun c g u r hc hu hr k hk => ?_, fun c u r hc hr => ?_⟩
  · obtain ⟨r', hr', accepted⟩ := State.gate_of_conditions same hr
    have set : t.holds g k = s.holds g k := by rw [State.holds, lineHold, State.holds]
    rw [set, h.gates c g u r' (config ▸ hc) hu hr' k hk]
    cases k <;> simp only [State.gateCondition, port, zone, accepted, ne_eq]
  · have gating : (t.robots.get u).map Robot.gating = (s.robots.get u).map Robot.gating :=
      congrFun (congrArg Conditions.robots same) u
    rw [hr] at gating
    obtain ⟨r', hr', eq⟩ := Option.map_eq_some_iff.1 gating.symm
    have causes : r'.causes = r.causes := congrArg Gating.causes eq
    have accepted : r'.accepted = r.accepted := congrArg Gating.accepted eq
    have suspect : r'.suspect = r.suspect := congrArg Gating.suspect eq
    rw [← causes, h.robots c u r' (config ▸ hc) hr']
    simp only [State.causesOf, port, zone, lineHold, accepted, suspect, Robot.has, causes, ne_eq]

end

/-- What makes a robot record sound is read from its gating. -/
theorem Robot.Sound.of_gating {r r' : Robot} (same : r'.gating = r.gating) (h : r.Sound) : r'.Sound := by
  obtain ⟨released, arming, ring, speed⟩ := h
  have causes : r'.causes = r.causes := congrArg Gating.causes same
  have gate : r'.gate = r.gate := congrArg Gating.gate same
  have confirm : r'.confirm = r.confirm := congrArg Gating.confirm same
  have ring' : r'.ring = r.ring := congrArg Gating.ring same
  have speed' : r'.lastSpeed = r.lastSpeed := congrArg Gating.lastSpeed same
  exact ⟨by rwa [gate, causes, confirm], by rwa [gate, causes, confirm], by rwa [ring'], by rwa [speed']⟩

/-- A robot of one state is a robot of another with the same gatings. -/
theorem State.robot_of_gatings {s t : State} (same : t.gatings = s.gatings) {u : Fin 24} {r : Robot}
    (hr : t.robots.get u = some r) : ∃ r', s.robots.get u = some r' ∧ r.gating = r'.gating := by
  have gating : (t.robots.get u).map Robot.gating = (s.robots.get u).map Robot.gating := congrFun same u
  rw [hr] at gating
  obtain ⟨r', get, eq⟩ := Option.map_eq_some_iff.1 gating.symm
  exact ⟨r', get, eq.symm⟩

/-- The robots stay sound while their gatings stand. -/
theorem State.RobotsSound.of_gatings {s t : State} (same : t.gatings = s.gatings) (h : s.RobotsSound) : t.RobotsSound := by
  intro u r hr
  obtain ⟨r', hr', gating⟩ := State.robot_of_gatings same hr
  exact (h u r' hr').of_gating gating

/-! ## Events that keep the laws -/

/-- From `s` to `t` the laws of causes and gate states are kept. -/
structure State.Keeps (s t : State) : Prop where
  /-- The causes follow their conditions (R67, R86). -/
  follow : s.CausesFollow → t.CausesFollow
  /-- A robot with a cause is neither RELEASED nor ARMING (R89). -/
  sound : s.RobotsSound → t.RobotsSound
  /-- A robot without a cause is not HELD (R89). -/
  held : s.HeldForCause → t.HeldForCause

namespace State

/-- Nothing happens. -/
theorem Keeps.refl (s : State) : s.Keeps s :=
  ⟨id, id, id⟩

/-- One event after another. -/
theorem Keeps.trans {s a t : State} (first : s.Keeps a) (second : a.Keeps t) : s.Keeps t :=
  ⟨second.follow ∘ first.follow, second.sound ∘ first.sound, second.held ∘ first.held⟩

/-- An event that leaves the conditions. -/
theorem Keeps.of_conditions {s t : State} (same : t.conditions = s.conditions) : s.Keeps t where
  follow h := h.of_conditions same
  sound h := h.of_gatings (congrArg Conditions.robots same)
  held h hc u r hr gate := by
    have config : t.config = s.config := congrArg Conditions.config same
    obtain ⟨r', hr', gating⟩ := State.robot_of_gatings (congrArg Conditions.robots same) hr
    rw [show r.causes = r'.causes from congrArg Gating.causes gating]
    exact h (config ▸ hc) u r' hr' ((congrArg Gating.gate gating).symm.trans gate)

/-- What leaves the conditions after an event that keeps the laws. -/
theorem Keeps.then_conditions {s a t : State} (h : s.Keeps a) (same : t.conditions = a.conditions) : s.Keeps t :=
  h.trans (.of_conditions same)

/-- What leaves the conditions before such an event. -/
theorem Keeps.after {s a t : State} (same : a.conditions = s.conditions) (h : a.Keeps t) : s.Keeps t :=
  (Keeps.of_conditions same).trans h

end State

/-! ## Handing a change on -/

/-- A record that following makes sound: RELEASED with release-confirm only where a cause is sure to come. -/
structure Robot.Ready (r : Robot) (cause : Prop) : Prop where
  /-- A RELEASED robot. -/
  released : r.gate = .released → r.confirm = false ∨ cause
  /-- An ARMING robot. -/
  arming : r.gate = .arming → r.confirm = true
  /-- The attribution ring. -/
  ring : r.ring.length ≤ 32
  /-- The last forwarded speed. -/
  speed : r.lastSpeed ≤ 1000

/-- A sound record is ready. -/
theorem Robot.Sound.ready {r : Robot} (h : r.Sound) (cause : Prop) : r.Ready cause where
  released gate := .inl (h.released gate).2
  arming gate := (h.arming gate).2
  ring := h.ring
  speed := h.speed

/-- Every robot is ready to follow: one that waits with release-confirm for its gate to be closed has ZONE or LOST to come. -/
def State.Ready (s : State) (c : HallConfig) : Prop :=
  ∀ u r, s.robots.get u = some r → r.Ready (s.zoneStateOf c u ≠ .run ∨ r.accepted = .lost)

/-- Sound robots are ready. -/
theorem State.RobotsSound.ready {s : State} (h : s.RobotsSound) (c : HallConfig) : s.Ready c :=
  fun u r hr => (h u r hr).ready _

/-- A ready robot is sound once it has followed (R89). -/
theorem State.robotAfter_sound {s : State} {c : HallConfig} {u : Fin 24} {r : Robot}
    (h : r.Ready (s.zoneStateOf c u ≠ .run ∨ r.accepted = .lost)) : (s.robotAfter c u r).Sound := by
  by_cases clear : s.causesOf c u r = 0
  · have calm : ¬ (s.zoneStateOf c u ≠ .run ∨ r.accepted = .lost) := by
      rintro (zone | lost)
      · exact State.causesOf_ne_zero (k := .zone) (decide_eq_true zone) clear
      · exact State.causesOf_ne_zero (k := .lost) (by simp [State.robotCondition, lost]) clear
    rw [State.robotAfter_of_clear clear]
    split
    · cases r.confirm
      · exact ⟨fun _ => ⟨rfl, rfl⟩, nofun, h.ring, h.speed⟩
      · exact ⟨nofun, fun _ => ⟨rfl, rfl⟩, h.ring, h.speed⟩
    · exact ⟨fun gate => ⟨rfl, (h.released gate).resolve_right calm⟩, fun gate => ⟨rfl, h.arming gate⟩, h.ring, h.speed⟩
  · rw [State.robotAfter_of_causes clear]
    exact ⟨nofun, nofun, h.ring, h.speed⟩

/-- A robot that has followed is HELD only with a cause (R89). -/
theorem State.robotAfter_heldForCause {s : State} {c : HallConfig} {u : Fin 24} {r : Robot}
    (gate : (s.robotAfter c u r).gate = .held) : (s.robotAfter c u r).causes ≠ 0 := by
  rw [State.robotAfter_causes]
  intro clear
  rw [State.robotAfter_of_clear clear] at gate
  split at gate
  · cases confirm : r.confirm <;> simp [confirm] at gate
  · next out => exact out gate

namespace State

/-- A change handed on leaves the robots sound, if they were ready for it. -/
theorem handOn_robotsSound {s : State} (h : s.RobotsSound ∨ ∃ c, s.config = some c ∧ s.Ready c) : s.handOn.RobotsSound := by
  cases hc : s.config with
  | none =>
    rw [s.handOn_none hc]
    exact h.resolve_right fun ⟨_, configured, _⟩ => nomatch hc.symm.trans configured
  | some c =>
    have ready : s.Ready c := by
      rcases h with sound | ⟨c', configured, ready⟩
      · exact sound.ready c
      · obtain rfl := Option.some.inj (hc.symm.trans configured)
        exact ready
    intro u r' hr'
    rw [s.handOn_get hc] at hr'
    obtain ⟨r, hr, rfl⟩ := Option.map_eq_some_iff.1 hr'
    refine State.robotAfter_sound ?_
    rw [State.zoneStateOf_congr (s := s) (by simp)]
    exact ready u r hr

/-- A change handed on leaves no robot HELD without a cause. -/
theorem handOn_heldForCause (s : State) : s.handOn.HeldForCause := by
  intro configured u r' hr'
  cases hc : s.config with
  | none =>
    rw [s.handOn_none hc] at configured
    exact absurd hc configured
  | some c =>
    rw [s.handOn_get hc] at hr'
    obtain ⟨r, -, rfl⟩ := Option.map_eq_some_iff.1 hr'
    exact State.robotAfter_heldForCause

/-- A change handed on sets every law up anew; the robots must be ready for it. -/
theorem keeps_handOn {s a : State} (h : s.RobotsSound → a.RobotsSound ∨ ∃ c, a.config = some c ∧ a.Ready c) :
    s.Keeps a.handOn where
  follow _ := a.handOn_causesFollow
  sound sound := handOn_robotsSound (h sound)
  held _ := a.handOn_heldForCause

/-- The case of a change that leaves the robots. -/
theorem keeps_handOn_of_gatings {s a : State} (same : a.gatings = s.gatings) : s.Keeps a.handOn :=
  keeps_handOn fun h => .inl (h.of_gatings same)

/-- A change of one robot's record that keeps it sound. -/
theorem RobotsSound.onRobot {s : State} (h : s.RobotsSound) {u : Fin 24} {f : Robot → Robot}
    (sound : ∀ r, s.robots.get u = some r → r.Sound → (f r).Sound) : (s.onRobot u f).RobotsSound := by
  intro v r' hr'
  rw [onRobot_robots, Table.get_modify] at hr'
  split at hr'
  · next same =>
    subst same
    obtain ⟨r, hr, rfl⟩ := Option.map_eq_some_iff.1 hr'
    exact sound r hr (h v r hr)
  · exact h v r' hr'

/-- A change of one robot's record that its conditions do not read, and that gives no HELD. -/
theorem keeps_onRobot (s : State) {u : Fin 24} {f : Robot → Robot} (accepted : ∀ r, (f r).accepted = r.accepted)
    (suspect : ∀ r, (f r).suspect = r.suspect) (causes : ∀ r, (f r).causes = r.causes)
    (sound : ∀ r, s.robots.get u = some r → r.Sound → (f r).Sound) (held : ∀ r, (f r).gate = .held → r.gate = .held) :
    s.Keeps (s.onRobot u f) := by
  have before : ∀ v r', (s.onRobot u f).robots.get v = some r' →
      s.robots.get v = some r' ∨ ∃ r, s.robots.get v = some r ∧ r' = f r := by
    intro v r' hr'
    rw [onRobot_robots, Table.get_modify] at hr'
    split at hr'
    · obtain ⟨r, hr, rfl⟩ := Option.map_eq_some_iff.1 hr'
      exact .inr ⟨r, hr, rfl⟩
    · exact .inl hr'
  refine ⟨fun h => ⟨h.gates, fun c v r' hc hr' => ?_⟩, fun h => h.onRobot sound, fun h hc v r' hr' gate => ?_⟩
  · rcases before v r' hr' with hr | ⟨r, hr, rfl⟩
    · exact h.robots c v r' hc hr
    · rw [causes, h.robots c v r hc hr]
      exact (causesOf_congr rfl rfl rfl (accepted r) (suspect r) (by rw [Robot.has, causes, Robot.has])).symm
  · rcases before v r' hr' with hr | ⟨r, hr, rfl⟩
    · exact h hc v r' hr gate
    · rw [causes]
      exact h hc v r hr (held r gate)

/-- A part without a configuration and without robots keeps every law. -/
theorem Keeps.of_bare {s t : State} (bare : t.Bare) : s.Keeps t where
  follow _ := ⟨fun c g u r hc => (by rw [bare.config] at hc; cases hc), fun c u r hc => (by rw [bare.config] at hc; cases hc)⟩
  sound _ u r hr := by rw [bare.robots] at hr; cases hr
  held _ hc := absurd bare.config hc

end State

end Sys2Proof.Machine
end


section
/-! SUPPORT. The operations that leave the conditions, and those that leave the robots' gatings. -/

namespace Sys2Proof.Machine

variable (s : State)

/-! ## Small updates -/

@[simp] theorem State.onTime_conditions (f : TimeUnit → TimeUnit) : (s.onTime f).conditions = s.conditions := rfl
@[simp] theorem State.onReport_conditions (f : Report → Report) : (s.onReport f).conditions = s.conditions := rfl
@[simp] theorem State.onPath_conditions (f : Path → Path) : (s.onPath f).conditions = s.conditions := rfl
@[simp] theorem State.onTable_conditions (f : TableState → TableState) : (s.onTable f).conditions = s.conditions := rfl
@[simp] theorem State.onCamera_conditions (n : Fin 6) (f : CameraRec → CameraRec) :
    (s.onCamera n f).conditions = s.conditions := rfl
@[simp] theorem State.onCounts_conditions (n : Fin 6) (f : CameraCounts → CameraCounts) :
    (s.onCounts n f).conditions = s.conditions := rfl
@[simp] theorem State.onAccount_conditions (u : Fin 24) (f : Account → Account) :
    (s.onAccount u f).conditions = s.conditions := rfl
@[simp] theorem State.onSlot_conditions (b : Bottle) (f : Slot → Slot) : (s.onSlot b f).conditions = s.conditions := rfl
@[simp] theorem State.give_conditions (n : Notice) : (s.give n).conditions = s.conditions := rfl
@[simp] theorem State.present_conditions (o : OwnTxn) : (s.present o).conditions = s.conditions := rfl
@[simp] theorem State.setLevel_conditions (z : Fin 8) (b : Bool) : (s.setLevel z b).conditions = s.conditions := rfl
@[simp] theorem State.ownAnswered_conditions : s.ownAnswered.conditions = s.conditions := rfl
@[simp] theorem State.settle_conditions : s.settle.conditions = s.conditions := rfl
@[simp] theorem State.completeGeneral_conditions (w : Word) (code : Completion) :
    (s.completeGeneral w code).conditions = s.conditions := rfl

/-- Taking a record moves the path alone. -/
theorem State.take_conditions {α : Type} {s s1 : State} {tag : Fin 32} {sel : Handover → Option α} {a : α}
    (h : s.take tag sel = some (a, s1)) : s1.conditions = s.conditions := by
  obtain ⟨p, rfl⟩ := State.take_path h
  rfl

/-- A change of a gate's record but for its accepted state. -/
theorem State.onGate_conditions (g : Fin 2) {f : GateRec → GateRec} (keeps : ∀ r, (f r).accepted = r.accepted) :
    (s.onGate g f).conditions = s.conditions := by
  refine State.conditions_congr rfl rfl (fun h => ?_) rfl (fun _ => rfl) fun _ => Iff.rfl
  rw [State.onGate_gates, Table.get_modify]
  split
  · rw [Option.map_map]
    exact congrArg (Option.map · _) (funext keeps)
  · rfl

/-- A change of a zone's record that takes it neither into RUN nor out of it. -/
theorem State.onZone_conditions (z : Fin 8) {f : Zone → Zone}
    (keeps : (f (s.zones.get z)).state = .run ↔ (s.zones.get z).state = .run) : (s.onZone z f).conditions = s.conditions := by
  refine State.conditions_congr rfl rfl (fun _ => rfl) rfl (fun _ => rfl) fun y => ?_
  rw [State.onZone_zones, Table.get_modify]
  split
  · next same => rwa [same]
  · rfl

/-- A change of a port's record but for its state. -/
theorem State.onPort_conditions (p : Fin 16) {f : Port → Port} (keeps : ∀ r, (f r).state = r.state) :
    (s.onPort p f).conditions = s.conditions :=
  State.conditions_congr rfl rfl (fun _ => rfl) rfl (s.onPort_state keeps) fun _ => Iff.rfl

/-- A change of a robot's record but for its gating. -/
theorem State.onRobot_conditions (u : Fin 24) {f : Robot → Robot} (keeps : ∀ r, (f r).gating = r.gating) :
    (s.onRobot u f).conditions = s.conditions := by
  refine State.conditions_congr rfl rfl (fun _ => rfl) (funext fun v => ?_) (fun _ => rfl) fun _ => Iff.rfl
  rw [State.gatings, State.onRobot_robots, Table.get_modify]
  split
  · rw [Option.map_map]
    exact congrArg (Option.map · _) (funext keeps)
  · rfl

/-- A fold of operations that keep the conditions keeps them. -/
theorem State.foldl_conditions {α : Type} (f : State → α → State) (h : ∀ s a, (f s a).conditions = s.conditions) (l : List α) :
    (l.foldl f s).conditions = s.conditions := by
  induction l generalizing s with
  | nil => rfl
  | cons a l ih => rw [List.foldl_cons, ih, h]

/-! ## Zones -/

@[simp] theorem State.completeNow_conditions (z : Fin 8) (q : Byte) (code : Completion) :
    (s.completeNow z q code).conditions = s.conditions :=
  s.onZone_conditions z Iff.rfl

@[simp] theorem State.completeAlone_conditions (z : Fin 8) (code : Completion) :
    (s.completeAlone z code).conditions = s.conditions :=
  s.onZone_conditions z Iff.rfl

@[simp] theorem State.completeEnter_conditions (z : Fin 8) (code : Completion) :
    (s.completeEnter z code).conditions = s.conditions := by
  unfold State.completeEnter
  split
  · exact s.onZone_conditions z Iff.rfl
  · rfl

@[simp] theorem State.markSpan_conditions (c : HallConfig) (z : Fin 8) : (s.markSpan c z).conditions = s.conditions := by
  simp only [State.markSpan]
  split <;> rfl

/-- A zone out of RUN that enters another state out of RUN. -/
theorem State.moveZone_conditions (c : HallConfig) {z : Fin 8} {new : ZoneState} (out : (s.zones.get z).state ≠ .run)
    (enters : new ≠ .run) : (s.moveZone c z new).conditions = s.conditions := by
  have entered : (s.onZone z fun k => k.enter new s.time.localTime).conditions = s.conditions :=
    s.onZone_conditions z ⟨fun run => absurd run enters, fun run => absurd run out⟩
  simp only [State.moveZone]
  split
  · exact (State.markSpan_conditions _ c z).trans entered
  · exact entered

/-- The states that a granted zone enters are out of RUN (R116). -/
theorem grantOf_ne_run (k : ZoneCfg) : (grantOf k).1 ≠ .run := by
  unfold grantOf
  split <;> nofun

/-- A zone that tests its robots is out of RUN before and after (R116, R117). -/
theorem State.zoneTest_conditions (c : HallConfig) (z : Fin 8) (u : Fin 24) (old new : MachineState) :
    (s.zoneTest c z u old new).conditions = s.conditions := by
  simp only [State.zoneTest, State.grantLater]
  split
  · next requested =>
    have out : (s.zones.get z).state ≠ .run := by rw [requested]; nofun
    split
    · have reached : (s.onZone z fun k => { k with safeReached := addReached k.safeReached u }).conditions = s.conditions :=
        s.onZone_conditions z Iff.rfl
      split
      · rw [State.completeEnter_conditions, State.moveZone_conditions _ c (by simpa using out) (grantOf_ne_run _), reached]
      · exact reached
    · split
      · rw [State.completeEnter_conditions, State.moveZone_conditions s c (new := .held) out nofun]
      · rfl
  · split
    · next broken =>
      rw [State.completeAlone_conditions, State.moveZone_conditions s c (new := .held) (by rw [broken.1]; nofun) nofun]
    · rfl

@[simp] theorem State.zoneSees_conditions (c : HallConfig) (u : Fin 24) (old new : MachineState) :
    (s.zoneSees c u old new).conditions = s.conditions := by
  unfold State.zoneSees
  repeat' split
  · rfl
  · exact s.zoneTest_conditions c _ u old new
  · rfl

@[simp] theorem State.extendZone_conditions (z : Fin 8) (q : Byte) : (s.extendZone z q).conditions = s.conditions := by
  simp only [State.extendZone]
  split
  · exact (State.completeNow_conditions _ z q .normal).trans (s.onZone_conditions z Iff.rfl)
  · exact s.completeNow_conditions z q .invalid

/-- The answer to SENSE is no matter of the zone's state (R112). -/
theorem State.sense_conditions (z : Fin 8) : (s.onZone z Zone.sense).conditions = s.conditions := by
  refine s.onZone_conditions z ?_
  unfold Zone.sense
  split <;> rfl

/-! ## Ports and transactions -/

@[simp] theorem State.countDenial_conditions (tag : Fin 32) : (s.countDenial tag).conditions = s.conditions := by
  unfold State.countDenial
  split
  · exact s.onPort_conditions _ fun _ => rfl
  · rfl

@[simp] theorem State.refuse_conditions (x : Txn) : (s.refuse x).conditions = s.conditions := by
  simp [State.refuse]

@[simp] theorem State.forward_conditions (x : Txn) (how : Treatment) : (s.forward x how).conditions = s.conditions := rfl

@[simp] theorem State.treat_conditions (x : Txn) (how : Treatment) : (s.treat x how).conditions = s.conditions := by
  cases how <;> simp [State.treat, State.holdView]

@[simp] theorem State.presentsUnconfigured_conditions (x : Txn) :
    (s.presentsUnconfigured x).conditions = s.conditions := by
  unfold State.presentsUnconfigured
  split <;> simp

@[simp] theorem State.agentPresents_conditions (c : HallConfig) (x : Txn) :
    (s.agentPresents c x).conditions = s.conditions := by
  unfold State.agentPresents
  repeat' split
  all_goals simp

@[simp] theorem State.writeAttempt_conditions (p : Fin 16) : (s.writeAttempt p).conditions = s.conditions := by
  unfold State.writeAttempt
  split
  · exact s.onPort_conditions p fun _ => rfl
  · rfl

@[simp] theorem State.countFragment_conditions (p : Fin 16) : (s.countFragment p).conditions = s.conditions :=
  s.onPort_conditions p fun _ => rfl

@[simp] theorem State.wouldQuarantine_conditions (p : Fin 16) (reason : PortReason) :
    (s.wouldQuarantine p reason).conditions = s.conditions := by
  unfold State.wouldQuarantine
  split
  · rfl
  · exact s.onPort_conditions p fun _ => rfl

@[simp] theorem State.respondOkay_conditions (f : Flight) (data : List Word) :
    (s.respondOkay f data).conditions = s.conditions := by
  unfold State.respondOkay
  repeat' split
  all_goals simp

/-! ## Verdicts and time -/

@[simp] theorem State.giveGap_conditions (k : CameraCfg) (gap : Nat) : (s.giveGap k gap).conditions = s.conditions := by
  unfold State.giveGap
  split <;> simp

@[simp] theorem State.countUnplaced_conditions (n : Fin 6) (k : CameraCfg) (why : Unplaced) (b : Option Bottle)
    (d : BitVec 32) : (s.countUnplaced n k why b d).conditions = s.conditions := by
  simp only [State.countUnplaced]
  split <;> simp

@[simp] theorem State.verdictTaken_conditions (n : Fin 6) (v : VerdictRec) : (s.verdictTaken n v).conditions = s.conditions := by
  simp only [State.verdictTaken, State.placed, State.recordPlaced]
  repeat' split
  all_goals simp

@[simp] theorem State.timeFrameTaken_conditions (u : Fin 24) (f : TimeFrame) :
    (s.timeFrameTaken u f).conditions = s.conditions := by
  have given : ∀ (s : State) before o stamp, (s.giveFrameNotices u before o stamp).conditions = s.conditions := by
    intro s before o stamp
    simp only [State.giveFrameNotices]
    repeat' split
    all_goals simp
  unfold State.timeFrameTaken
  repeat' split
  · rfl
  · exact given _ _ _ _
  · simp

@[simp] theorem State.setDue_conditions (u : Fin 24) : (s.setDue u).conditions = s.conditions := rfl


@[simp] theorem State.retestDues_conditions (old : Option HallConfig) : (s.retestDues old).conditions = s.conditions := by
  refine State.foldl_conditions _ _ (fun s u => ?_) _
  simp only [State.retestDue]
  repeat' split
  all_goals simp

/-! ## Reports and load requests -/

@[simp] theorem State.snapshotTaken_conditions (c : HallConfig) (w : Word) :
    (s.snapshotTaken c w).conditions = s.conditions := by
  unfold State.snapshotTaken
  split
  · simp only [State.startSnapshot]
    split <;> simp
  · simp

@[simp] theorem State.snapshotAnswered_conditions (k : Snapshot) (ok : Bool) :
    (s.snapshotAnswered k ok).conditions = s.conditions := by
  simp only [State.snapshotAnswered, State.snapshotSecond, State.snapshotDone]
  repeat' split
  all_goals rfl

@[simp] theorem State.noticeAnswered_conditions (o : OwnTxn) (ok : Bool) :
    (s.noticeAnswered o ok).conditions = s.conditions := by
  unfold State.noticeAnswered
  split <;> simp

@[simp] theorem State.accountClearTaken_conditions (w : Word) : (s.accountClearTaken w).conditions = s.conditions := by
  unfold State.accountClearTaken
  split <;> simp


@[simp] theorem State.requestLoad_conditions (n : Nat) : (s.requestLoad n).conditions = s.conditions := by
  simp only [State.requestLoad]
  split <;> rfl

@[simp] theorem State.refuseLoad_conditions (k : LoadKind) (r : Refused) : (s.refuseLoad k r).conditions = s.conditions := rfl

@[simp] theorem State.loadApplied_conditions (k : LoadKind) : (s.loadApplied k).conditions = s.conditions := rfl

/-! ## The robots' gatings -/

variable {s}

/-- Operations that leave the robots leave their gatings. -/
theorem State.gatings_of_robots {t : State} (same : t.robots = s.robots) : t.gatings = s.gatings := by
  unfold State.gatings
  rw [same]

/-- Operations that leave the conditions leave the gatings. -/
theorem State.gatings_of_conditions {t : State} (same : t.conditions = s.conditions) : t.gatings = s.gatings :=
  congrArg Conditions.robots same

/-- A change of every robot's record but for its gating. -/
theorem State.gatings_of_map {t : State} (f : Fin 24 → Robot → Robot) (keeps : ∀ u r, (f u r).gating = r.gating)
    (robots : t.robots = s.robots.mapFin fun u o => o.map (f u)) : t.gatings = s.gatings := by
  funext u
  rw [State.gatings, robots, Table.get_mapFin, Option.map_map]
  exact congrArg (Option.map · _) (funext (keeps u))

/-- A fold of operations that keep the gatings keeps them. -/
theorem State.foldl_gatings {α : Type} (f : State → α → State) (h : ∀ s a, (f s a).gatings = s.gatings) (l : List α) :
    (l.foldl f s).gatings = s.gatings := by
  induction l generalizing s with
  | nil => rfl
  | cons a l ih => rw [List.foldl_cons, ih, h]

variable (s)

/-- Discarding sequences leaves what the laws read of a robot (R82). -/
@[simp] theorem State.discardSequences_gatings (c : HallConfig) (p : Fin 16) : (s.discardSequences c p).gatings = s.gatings :=
  State.gatings_of_map (fun u r => if c.portOf u = some p then { r with lastSeq := none } else r)
    (fun u r => by split <;> rfl) rfl

@[simp] theorem State.onPort_gatings (p : Fin 16) (f : Port → Port) : (s.onPort p f).gatings = s.gatings := rfl
@[simp] theorem State.give_gatings (n : Notice) : (s.give n).gatings = s.gatings := rfl
@[simp] theorem State.onTable_gatings (f : TableState → TableState) : (s.onTable f).gatings = s.gatings := rfl

@[simp] theorem State.movePort_gatings (c : HallConfig) (p : Fin 16) (new : PortState) (reason : PortReason) :
    (s.movePort c p new reason).gatings = s.gatings := by
  simp only [State.movePort]
  split <;> simp

@[simp] theorem State.linkDown_gatings (c : HallConfig) (p : Fin 16) (reason : PortReason) :
    (s.linkDown c p reason).gatings = s.gatings := by
  simp only [State.linkDown]
  split <;> simp

@[simp] theorem State.applyEntry_gatings (c : HallConfig) (p : Fin 16) (e : TableEntry) :
    (s.applyEntry c p e).gatings = s.gatings := by
  simp only [State.applyEntry, State.applyLink, State.linkUp]
  repeat' split
  all_goals simp

@[simp] theorem State.restartTable_gatings : s.restartTable.gatings = s.gatings := by
  simp only [State.restartTable]
  split <;> simp

@[simp] theorem State.stalePort_gatings (c : HallConfig) (p : Fin 16) : (s.stalePort c p).gatings = s.gatings := by
  simp only [State.stalePort]
  split <;> simp

@[simp] theorem State.clearPort_gatings (c : HallConfig) (p : Fin 16) : (s.clearPort c p).gatings = s.gatings := by
  simp only [State.clearPort]
  split <;> simp

end Sys2Proof.Machine
end


section
/-! The commands of zones, robots and gates keep the laws of causes and gate states (R108, R121, R84 to R101, R66). -/

namespace Sys2Proof.Machine

namespace State

/-! ## Commands that take a record -/

/-- A step that takes a record keeps the laws when acting on the record does. -/
theorem taking_keeps (s : State) {α : Type} {tag : Fin 32} {sel : Handover → Option α} {act : α → State → State}
    (h : ∀ a (s : State), s.Keeps (act a s)) : Answers (s.taking tag sel act) s.Keeps :=
  State.taking_answers (.refl s) fun a s1 taken =>
    (Keeps.after (take_conditions taken) (h a s1)).then_conditions (settle_conditions _)

/-- A step that takes a record whose handling leaves the conditions. -/
theorem taking_stands (s : State) {α : Type} {tag : Fin 32} {sel : Handover → Option α} {act : α → State → State}
    (h : ∀ a (s : State), (act a s).conditions = s.conditions) : Answers (s.taking tag sel act) s.Keeps :=
  s.taking_keeps fun a s => .of_conditions (h a s)

/-- A word received by a zone slot keeps the laws when its handling does (R109). -/
theorem zoneReceives_keeps (s : State) (z : Fin 8) (w : Word) {act : HallConfig → Byte → State → State}
    (h : ∀ c q (s : State), s.Keeps (act c q s)) : s.Keeps (s.zoneReceives z w act) := by
  unfold zoneReceives
  repeat' split
  · exact .refl s
  · exact .refl s
  · exact Keeps.after (s.onZone_conditions z Iff.rfl) (h _ _ _)

/-- A command that a pending completion answers INVALID (R109). -/
theorem unlessPending_keeps (s : State) (z : Fin 8) {act : State → State} (h : ∀ s : State, s.Keeps (act s)) :
    s.Keeps (s.unlessPending z act) := by
  unfold unlessPending
  split
  · exact .of_conditions (s.onZone_conditions z Iff.rfl)
  · exact h s

/-- A zone command keeps the laws when its taking does (R109). -/
theorem zoneCommand_keeps (s : State) (z : Fin 8) (k : ZoneCommand) {act : HallConfig → Byte → State → State}
    (h : ∀ c q (s : State), s.Keeps (act c q s)) : Answers (s.zoneCommand z k act) s.Keeps :=
  s.taking_keeps fun w s => s.zoneReceives_keeps z w fun c q s => s.unlessPending_keeps z (h c q)

/-- A word received by the general slot keeps the laws when its handling does (R164). -/
theorem generalReceives_keeps (s : State) (w : Word) {act : HallConfig → State → State}
    (h : ∀ c (s : State), s.Keeps (act c s)) : s.Keeps (s.generalReceives w act) := by
  simp only [generalReceives]
  repeat' split
  · exact .refl s
  · exact .refl s
  · exact .of_conditions rfl
  · exact Keeps.after (s.onReport_conditions _) (h _ _)

/-- A general command keeps the laws when its taking does (R164). -/
theorem generalCommand_keeps (s : State) (k : GeneralCommand) {act : HallConfig → Word → State → State}
    (h : ∀ c w (s : State), s.Keeps (act c w s)) : Answers (s.generalCommand k act) s.Keeps :=
  s.taking_keeps fun w s => s.generalReceives_keeps w fun c s => h c w s

/-- A change that leaves the robots, handed on. -/
theorem keeps_handOn_of_robots {s a : State} (same : a.robots = s.robots) : s.Keeps a.handOn :=
  keeps_handOn_of_gatings (gatings_of_robots same)

/-! ## Zones -/

variable (s : State) (c : HallConfig)

theorem enterZone_keeps (z : Fin 8) (q : Byte) : s.Keeps (s.enterZone c z q) := by
  have requested : (s.requestZone c z q).robots = s.robots := by
    simp only [requestZone, grantAtOnce]
    split <;> simp
  unfold enterZone
  repeat' split
  · exact keeps_handOn_of_robots (by simp)
  · exact keeps_handOn_of_robots requested
  · exact .of_conditions (by simp)

theorem confirmZone_keeps (z : Fin 8) (q : Byte) : s.Keeps (s.confirmZone c z q) := by
  unfold confirmZone
  split
  · exact keeps_handOn_of_robots (by simp)
  · exact .of_conditions (by simp)

theorem cancelZone_keeps (z : Fin 8) (q : Byte) : s.Keeps (s.cancelZone c z q) := by
  have refused : ∀ code, s.Keeps (s.completeNow z q code) := fun code => .of_conditions (by simp)
  unfold cancelZone
  split
  · exact keeps_handOn_of_robots (by simp)
  · exact keeps_handOn_of_robots (by simp)
  · split
    · exact refused _
    · exact keeps_handOn_of_robots (by simp)
  all_goals exact refused _

theorem returnToRun_keeps (z : Fin 8) (q : Byte) : s.Keeps (s.returnToRun c z q) := by
  unfold returnToRun
  split
  · exact .of_conditions (by simp)
  · exact keeps_handOn_of_robots (by simp)

theorem resetZone_keeps (z : Fin 8) (q : Byte) : s.Keeps (s.resetZone c z q) := by
  simp only [resetZone]
  split
  · exact s.returnToRun_keeps c z q
  · exact .of_conditions (by simp)

theorem resumeZone_keeps (z : Fin 8) (q : Byte) : s.Keeps (s.resumeZone c z q) := by
  unfold resumeZone
  split
  · exact s.returnToRun_keeps c z q
  · exact .of_conditions (by simp)

theorem accessExpired_keeps (z : Fin 8) : s.Keeps (s.accessExpired c z) := by
  unfold accessExpired
  split
  · exact keeps_handOn_of_robots (by simp)
  · exact keeps_handOn_of_robots (by simp)
  all_goals exact .refl s

theorem guardClosed_keeps (z : Fin 8) : s.Keeps (s.guardClosed c z) := by
  unfold guardClosed
  split
  · exact keeps_handOn_of_robots (by simp)
  · exact .refl s

variable {s c}

/-- Release-confirm set on the members of a zone out of RUN leaves every robot ready: ZONE is sure to come (R90, R121). -/
theorem confirmMembers_ready {z : Fin 8} (out : (s.zones.get z).state ≠ .run) (h : s.RobotsSound) :
    (s.confirmMembers c z).Ready c := by
  intro u r' hr'
  rw [confirmMembers, Table.get_mapFin] at hr'
  obtain ⟨r, hr, rfl⟩ := Option.map_eq_some_iff.1 hr'
  split
  · next member =>
    have zone : (s.confirmMembers c z).zoneStateOf c u ≠ .run := by
      rw [zoneStateOf, member.2]
      exact out
    obtain ⟨-, -, ring, speed⟩ := h u r hr
    exact ⟨fun _ => .inr (.inl zone), fun _ => rfl, ring, speed⟩
  · exact (h u r hr).ready _

/-- What is forced before the robots' release-confirm is set: the zone's record, as far as the conditions go (R121). -/
theorem forceZone_eq (s : State) (c : HallConfig) (z : Fin 8) : ∃ a : State, s.forceZone c z = a.confirmMembers c z ∧
    a.conditions = (s.onZone z fun k => k.force s.time.localTime).conditions := by
  refine ⟨_, rfl, ?_⟩
  repeat' split
  all_goals simp

theorem guardOpened_keeps (config : s.config = some c) (z : Fin 8) : s.Keeps (s.guardOpened c z) := by
  unfold guardOpened
  split
  · exact .refl s
  · refine keeps_handOn fun h => .inr ⟨c, ?_⟩
    obtain ⟨a, eq, same⟩ := s.forceZone_eq c z
    have running : decide ((a.zones.get z).state = .run) = false :=
      (congrFun (congrArg Conditions.running same) z).trans (by simp [conditions, Zone.force, Zone.enter])
    rw [eq]
    exact ⟨(congrArg Conditions.config same :).trans config,
      confirmMembers_ready (of_decide_eq_false running) (h.of_gatings (gatings_of_conditions same))⟩
  · refine keeps_handOn fun h => .inr ⟨c, config, confirmMembers_ready ?_ (h.of_gatings (gatings_of_robots rfl))⟩
    simp [Zone.reopen, Zone.enter]

end State

/-! ### The commands of guards and timers -/

variable (s : State)

theorem execGuardOpen_keeps (z : Fin 8) : Answers (execGuardOpen z s) s.Keeps := by
  unfold execGuardOpen
  repeat' split
  · exact (answers_next _ _).2 (.of_conditions rfl)
  · next config =>
    refine (answers_next _ _).2 (State.Keeps.then_conditions ?_ (State.settle_conditions _))
    exact State.Keeps.after (s.setLevel_conditions z true) (State.guardOpened_keeps (s := s.setLevel z true) config z)
  · exact (answers_next _ _).2 (.refl s)

theorem execGuardClosed_keeps (z : Fin 8) : Answers (execGuardClosed z s) s.Keeps := by
  unfold execGuardClosed
  repeat' split
  · exact (answers_next _ _).2 (.of_conditions rfl)
  · next c _ =>
    refine (answers_next _ _).2 (State.Keeps.then_conditions ?_ (State.settle_conditions _))
    exact State.Keeps.after (s.setLevel_conditions z false) (State.guardClosed_keeps _ c z)
  · exact (answers_next _ _).2 (.refl s)

theorem execAccessTimerExpiry_keeps (z : Fin 8) : Answers (execAccessTimerExpiry z s) s.Keeps := by
  unfold execAccessTimerExpiry
  repeat' split
  · next c _ _ => exact (answers_next _ _).2 ((s.accessExpired_keeps c z).then_conditions (State.settle_conditions _))
  · exact (answers_next _ _).2 (.refl s)
  · exact (answers_next _ _).2 (.refl s)

theorem execClearingWindowExpiry_keeps (z : Fin 8) : Answers (execClearingWindowExpiry z s) s.Keeps := by
  unfold execClearingWindowExpiry
  repeat' split
  · exact (answers_next _ _).2
      ((State.keeps_handOn_of_robots (by simp)).then_conditions (State.settle_conditions _))
  · exact (answers_next _ _).2 (.refl s)
  · exact (answers_next _ _).2 (.refl s)

/-! ## Robots -/

/-- A robot record that becomes LOST, with release-confirm set (R84, R90). -/
def Robot.lose (r : Robot) : Robot :=
  { r with accepted := .lost, safeRun := 0, statusStart := none, confirm := true }

/-- The robots after one has become LOST. -/
@[simp] theorem State.loseRobot_robots (u : Fin 24) (r : Robot) :
    (s.loseRobot u r).robots = s.robots.modify u (Option.map Robot.lose) := by
  simp only [State.loseRobot]
  split <;> rfl

/-- A robot that becomes LOST is ready: LOST is sure to come. -/
theorem Robot.Ready.lose {r : Robot} {cause : Prop} (h : r.Ready cause) {cause' : Prop} (comes : cause') :
    r.lose.Ready cause' where
  released _ := .inr comes
  arming _ := rfl
  ring := h.ring
  speed := h.speed

/-- A status report changes a record's accepted state and safe run alone. -/
theorem Robot.Sound.takeFrame {r : Robot} (h : r.Sound) (f : StatusFrame) (safeCount now : Nat) :
    (r.takeFrame f safeCount now).Sound := by
  have kept : (r.report f.reported safeCount).Sound := by
    unfold Robot.report
    obtain ⟨released, arming, ring, speed⟩ := h
    repeat' split
    all_goals exact ⟨released, arming, ring, speed⟩
  exact ⟨kept.released, kept.arming, kept.ring, kept.speed⟩

namespace State

/-- Robots that are ready stay so when one becomes LOST. -/
theorem Ready.loseRobot {s : State} {c : HallConfig} (h : s.Ready c) (u : Fin 24) (r : Robot) : (s.loseRobot u r).Ready c := by
  have zone : ∀ v, (s.loseRobot u r).zoneStateOf c v = s.zoneStateOf c v := fun v => zoneStateOf_congr (by
    simp only [State.loseRobot]
    split <;> rfl)
  intro v r' hr'
  rw [zone]
  rw [loseRobot_robots, Table.get_modify] at hr'
  split at hr'
  · obtain ⟨r0, hr0, rfl⟩ := Option.map_eq_some_iff.1 hr'
    exact (h v r0 hr0).lose (.inr rfl)
  · exact h v r' hr'

/-- The change of a robot's record by a taken frame, handed on and tested by its zone (R82, R116). -/
theorem robotChanged_keeps {s a : State} (h : s.RobotsSound → a.RobotsSound) (c : HallConfig) (u : Fin 24) (r r' : Robot)
    (f : StatusFrame) : s.Keeps (a.robotChanged c u r r' f) := by
  simp only [robotChanged]
  refine Keeps.then_conditions (keeps_handOn fun sound => .inl ?_) (zoneSees_conditions _ c u _ _)
  split
  · exact (h sound).of_gatings rfl
  · exact h sound

theorem robotStatusTaken_keeps (s : State) (u : Fin 24) (f : StatusFrame) : s.Keeps (s.robotStatusTaken u f) := by
  unfold robotStatusTaken
  repeat' split
  · next c r _ hr _ =>
    refine robotChanged_keeps (fun h => h.onRobot fun r' hr' sound => ?_) c u _ _ f
    exact (h u r hr).takeFrame f _ _
  · exact .of_conditions (s.onRobot_conditions u fun _ => rfl)
  · exact .refl s

theorem robotLost_keeps {s : State} {c : HallConfig} (config : s.config = some c) (u : Fin 24) : s.Keeps (s.robotLost c u) := by
  unfold robotLost
  split
  · next r _ =>
    have same : (s.loseRobot u r).config = some c := (congrArg Prod.fst (s.loseRobot_track u r) :).trans config
    exact (keeps_handOn fun h => .inr ⟨c, same, (h.ready c).loseRobot u r⟩).then_conditions (zoneSees_conditions _ c u _ _)
  · exact .refl s

/-- A changing sequence write takes STALE away (R93). -/
theorem sequenceTaken_keeps (s : State) (u : Fin 24) (q : Seq) : s.Keeps (s.sequenceTaken u q) := by
  unfold sequenceTaken
  repeat' split
  · exact .refl s
  · refine keeps_handOn fun h => .inl (h.onRobot fun r _ sound => ?_)
    obtain ⟨released, arming, ring, speed⟩ := sound
    have clear : r.causes = 0 → (r.takeSequence q s.time.hall).causes = 0 := fun clear => by
      simp [Robot.takeSequence, Robot.fresh, clear]
    exact ⟨fun gate => ⟨clear (released gate).1, (released gate).2⟩, fun gate => ⟨clear (arming gate).1, (arming gate).2⟩,
      ring, speed⟩
  · exact .refl s

/-- STALE joins a robot's causes (R94). -/
theorem staleTest_keeps {s : State} {c : HallConfig} (config : s.config = some c) (u : Fin 24) : s.Keeps (s.staleTest c u) := by
  unfold staleTest
  repeat' split
  · refine keeps_handOn fun h => .inr ⟨c, config, fun v r' hr' => ?_⟩
    rw [onRobot_robots, Table.get_modify] at hr'
    split at hr'
    · obtain ⟨r, hr, rfl⟩ := Option.map_eq_some_iff.1 hr'
      obtain ⟨released, arming, ring, speed⟩ := (h v r hr).ready (_ ∨ r.accepted = .lost)
      exact ⟨released, arming, ring, speed⟩
    · exact (h v r' hr').ready _
  · exact .refl s
  · exact .refl s

end State

/-- The speed that a read forwards is at most 1,000: it lies between the last one and the target (R100). -/
theorem Robot.slewSpeed_le {r : Robot} (h : r.lastSpeed ≤ 1000) (slew written now : Nat) :
    r.slewSpeed slew written now ≤ 1000 := by
  simp only [Robot.slewSpeed, clampInt]
  have target : min (written : Int) 1000 ≤ 1000 := Int.min_le_right _ _
  repeat' split
  all_goals omega

/-- The speed of the form under which a read is substituted (R97, R100). -/
theorem Robot.form_speed_le {r : Robot} (h : r.lastSpeed ≤ 1000) (k : UnitCfg) (w : Written) (now : Nat) :
    (r.form k w now).speed ≤ 1000 := by
  unfold Robot.form
  split
  · simp only [Robot.releasedForm]
    split
    · exact Robot.slewSpeed_le h _ _ _
    · exact Nat.zero_le _
  · exact Nat.zero_le _

namespace State

/-- A read forwarded moves the last forwarded speed, which stays at most 1,000 (R101). -/
theorem forwardFrame_keeps (s : State) (c : HallConfig) (u : Fin 24) (x : Txn) (data : List Word) :
    s.Keeps (s.forwardFrame c u x data) := by
  unfold forwardFrame
  split
  · exact .refl s
  · next r hr =>
    refine Keeps.then_conditions ?_ (onPath_conditions _ _)
    refine keeps_onRobot s (fun _ => rfl) (fun _ => rfl) (fun _ => rfl) (fun r' hr' sound => ?_) fun _ => id
    obtain rfl := Option.some.inj (hr'.symm.trans hr)
    obtain ⟨released, arming, ring, speed⟩ := sound
    refine ⟨released, arming, ring, ?_⟩
    simp only [Robot.record]
    split
    · exact Robot.form_speed_le speed _ _ _
    · exact speed

/-- A substituted read finds the configuration in force (R150). -/
theorem substituting_config {s : State} {tag : Fin 32} {c : HallConfig} {w : Window} {x : Txn}
    (h : s.substituting tag = some (c, w, x)) : s.config = some c := by
  unfold substituting at h
  repeat' split at h
  all_goals first | cases h; assumption | cases h

end State

theorem execRobotCommandRead_keeps (tag : Fin 32) (data : List Word) : Answers (execRobotCommandRead tag data s) s.Keeps := by
  unfold execRobotCommandRead
  repeat' split
  · next c w x found _ _ u _ _ _ =>
    refine (answers_next _ _).2 (State.Keeps.then_conditions ?_ (State.settle_conditions _))
    exact (State.staleTest_keeps (State.substituting_config found) u).trans (State.forwardFrame_keeps _ c u x data)
  all_goals exact (answers_next _ _).2 (.refl s)

theorem execRobotStatusTimeout_keeps (u : Fin 24) : Answers (execRobotStatusTimeout u s) s.Keeps := by
  unfold execRobotStatusTimeout
  repeat' split
  · next config _ =>
    exact (answers_next _ _).2 ((State.robotLost_keeps config u).then_conditions (State.settle_conditions _))
  all_goals exact (answers_next _ _).2 (.refl s)

/-! ## RELEASE and CLEAR_SUSPECT -/

namespace State

/-- A robot released from ARMING has no cause (R91). -/
theorem releaseRobot_keeps {s : State} {u : Fin 24} (arms : s.isArming u = true) : s.Keeps (s.releaseRobot u) := by
  refine Keeps.then_conditions ?_ (give_conditions _ _)
  refine keeps_onRobot s (fun _ => rfl) (fun _ => rfl) (fun _ => rfl) (fun r hr sound => ?_) fun _ => GateState.noConfusion
  simp only [isArming, hr, decide_eq_true_eq] at arms
  exact ⟨fun _ => ⟨(sound.arming arms).1, rfl⟩, GateState.noConfusion, sound.ring, sound.speed⟩

theorem releaseTaken_keeps (s : State) (c : HallConfig) (w : Word) : s.Keeps (s.releaseTaken c w) := by
  unfold releaseTaken
  repeat' split
  · next arms => exact (releaseRobot_keeps arms).then_conditions (completeGeneral_conditions _ w .normal)
  · exact .of_conditions rfl
  · exact .of_conditions rfl

theorem clearSuspectTaken_keeps (s : State) (c : HallConfig) (w : Word) : s.Keeps (s.clearSuspectTaken c w) := by
  unfold clearSuspectTaken
  split
  · refine (keeps_handOn fun h => .inl (h.onRobot fun r _ sound => ?_)).then_conditions (completeGeneral_conditions _ w _)
    exact ⟨sound.released, sound.arming, Nat.zero_le _, sound.speed⟩
  · exact .of_conditions rfl

/-! ## Gates -/

/-- Examining a report moves no robot (R72). -/
theorem takeReport_robots (s : State) (g : Fin 2) (f : StatusFrame) : (s.takeReport g f).robots = s.robots := by
  unfold takeReport examine
  repeat' split
  all_goals simp

theorem gateStatusTaken_keeps (s : State) (g : Fin 2) (f : StatusFrame) : s.Keeps (s.gateStatusTaken g f) := by
  unfold gateStatusTaken
  repeat' split
  · exact .refl s
  · refine Keeps.trans ?_ (keeps_handOn_of_robots (takeReport_robots _ g f))
    exact keeps_handOn_of_robots rfl
  · exact .of_conditions (s.onGate_conditions g fun _ => rfl)

end State

theorem execGateStatusTimeout_keeps (g : Fin 2) : Answers (execGateStatusTimeout g s) s.Keeps := by
  unfold execGateStatusTimeout
  repeat' split
  · refine (answers_next _ _).2 (State.Keeps.then_conditions ?_ (State.settle_conditions _))
    exact State.keeps_handOn_of_robots rfl
  all_goals exact (answers_next _ _).2 (.refl s)

theorem execGateCommandRead_keeps (tag : Fin 32) (data : List Word) : Answers (execGateCommandRead tag data s) s.Keeps := by
  unfold execGateCommandRead
  repeat' split
  · exact (answers_next _ _).2 (.of_conditions rfl)
  all_goals exact (answers_next _ _).2 (.refl s)

end Sys2Proof.Machine
end


section
/-! The commands of ports, of the path and of marks keep the laws of causes and gate states (R131 to R140, R74, R78). -/

namespace Sys2Proof.Machine

namespace State

variable (s : State) (c : HallConfig)

/-! ## Ports -/

theorem tableTaken_keeps (b : List Byte) : s.Keeps (s.tableTaken b) := by
  unfold tableTaken
  split
  · exact .refl s
  · exact keeps_handOn_of_gatings ((foldl_gatings _ (fun s p => s.applyEntry_gatings _ p _) _).trans s.restartTable_gatings)

theorem tableStale_keeps : s.Keeps (s.tableStale c) := by
  simp only [tableStale]
  refine keeps_handOn_of_gatings ((foldl_gatings _ (fun s p => s.stalePort_gatings c p) _).trans ?_)
  rw [give_gatings, onTable_gatings]

theorem portClearTaken_keeps (w : Word) : s.Keeps (s.portClearTaken c w) := by
  unfold portClearTaken
  split
  · exact (keeps_handOn_of_gatings (s.clearPort_gatings c _)).then_conditions (completeGeneral_conditions _ w .normal)
  · exact .of_conditions rfl

/-- Latched causes removed are handed on (R76). -/
theorem lineResumeTaken_keeps (w : Word) : s.Keeps (s.lineResumeTaken c w) := by
  have resumed : ∀ (s : State) g, (s.resumeGate c g).robots = s.robots := fun s g => by
    unfold resumeGate
    split <;> rfl
  refine Keeps.then_conditions ?_ (completeGeneral_conditions _ w _)
  exact keeps_handOn_of_robots ((resumed _ 1).trans (resumed s 0))

theorem enterListen_keeps (p : Fin 16) (reason : PortReason) : s.Keeps (s.enterListen c p reason) := by
  simp only [enterListen]
  refine keeps_handOn_of_gatings ?_
  split <;> simp

theorem violation_keeps (p : Fin 16) : s.Keeps (s.violation c p) := by
  have counted : (s.onPort p Port.violate).conditions = s.conditions := s.onPort_conditions p fun _ => rfl
  simp only [violation]
  refine Keeps.after counted ?_
  repeat' split
  · exact .of_conditions (wouldQuarantine_conditions _ p _)
  · exact .refl _
  · exact enterListen_keeps _ c p _
  · exact .refl _
  · exact .refl _

theorem chargeBudget_keeps (p : Fin 16) (w : Nat) : s.Keeps (s.chargeBudget c p w) := by
  unfold chargeBudget
  repeat' split
  · exact .of_conditions (s.onPort_conditions p fun _ => rfl)
  · exact .of_conditions ((wouldQuarantine_conditions _ p _).trans (s.onPort_conditions p fun _ => rfl))
  · exact Keeps.after (s.onPort_conditions p (f := Port.overrun) fun _ => rfl) (enterListen_keeps _ c p _)

/-! ## Transactions -/

theorem portWrite_keeps (p : Fin 16) (x : Txn) (how : Treatment) : s.Keeps (s.portWrite c p x how) := by
  simp only [portWrite]
  repeat' split
  · exact (s.chargeBudget_keeps c p _).then_conditions ((forward_conditions _ x how).trans (countFragment_conditions _ p))
  · exact (s.chargeBudget_keeps c p _).then_conditions (forward_conditions _ x how)
  · exact (s.chargeBudget_keeps c p _).then_conditions (refuse_conditions _ x)

theorem portPresents_keeps (p : Fin 16) (x : Txn) : s.Keeps (s.portPresents c p x) := by
  unfold portPresents
  repeat' split
  · exact .of_conditions (by simp)
  · exact (s.violation_keeps c p).then_conditions (refuse_conditions _ x)
  · exact s.portWrite_keeps c p x _
  · exact .of_conditions (by simp)

theorem presents_keeps (x : Txn) : s.Keeps (s.presents c x) := by
  unfold presents
  repeat' split
  · exact .of_conditions (by simp)
  · exact .of_conditions (by simp)
  · exact s.portPresents_keeps c _ x
  · exact .of_conditions (by simp)
  · exact .of_conditions (by simp)

/-! ## Marks -/

/-- Forming decisions counts them in the gate records (R69). -/
@[simp] theorem formAt_conditions (g : Fin 2) : (s.formAt c g).conditions = s.conditions := by
  unfold formAt
  repeat' split
  · rfl
  · refine (onGate_conditions _ g ?_).trans (onSlot_conditions _ _ _)
    exact fun _ => rfl
  · rfl
  · rfl

/-- An accepted mark leaves the conditions up to its checks (R12, R21, R57). -/
theorem marked_conditions (k : Bottle) (t : Nat) :
    (((s.acceptMark).applyChangeover k).trackMark c k t).conditions = s.conditions := by
  have accepted : s.acceptMark.conditions = s.conditions := by
    simp only [acceptMark]
    split <;> simp
  have changed : ∀ s : State, (s.applyChangeover k).conditions = s.conditions := fun s => by
    unfold applyChangeover
    split <;> rfl
  have first : ∀ (s : State) z, (s.markFirst c z).conditions = s.conditions := fun s z => by
    unfold markFirst
    split <;> rfl
  have left : ∀ s : State, (s.leave c).conditions = s.conditions := fun s => by
    unfold leave
    repeat' split
    all_goals rfl
  simp only [trackMark, left, markFirsts, foldl_conditions _ _ first]
  exact (changed _).trans accepted

/-- The checks of a mark leave the robots (R74). -/
theorem checkGate_robots (g : Fin 2) : (s.checkGate c g).robots = s.robots := by
  simp only [checkGate]
  repeat' split
  all_goals simp

/-- A ring entry keeps the robots sound (R78). -/
theorem RobotsSound.attributed {s : State} (h : s.RobotsSound) (c : HallConfig) : (s.attribute c).RobotsSound := by
  unfold State.attribute
  repeat' split
  · exact h
  · exact h
  · intro v r' hr'
    rw [feedRing_get] at hr'
    split at hr'
    · obtain ⟨r, hr, rfl⟩ := Option.map_eq_some_iff.1 hr'
      obtain ⟨released, arming, -, speed⟩ := h v r hr
      exact ⟨released, arming, ringAdd_length r.ring _, speed⟩
    · exact h v r' hr'
  · exact h

theorem pitchMark_keeps : s.Keeps (s.pitchMark c) := by
  refine keeps_handOn fun h => .inl (RobotsSound.attributed ?_ c)
  refine RobotsSound.of_gatings (gatings_of_robots (checkGate_robots _ c 1)) ?_
  refine RobotsSound.of_gatings (gatings_of_robots (checkGate_robots _ c 0)) ?_
  refine RobotsSound.of_gatings (gatings_of_conditions ?_) h
  rw [formAt_conditions, formAt_conditions, marked_conditions]

end State

variable (s : State)

theorem execTableTimerExpiry_keeps : Answers (execTableTimerExpiry s) s.Keeps := by
  unfold execTableTimerExpiry
  repeat' split
  · next c _ _ => exact (answers_next _ _).2 ((s.tableStale_keeps c).then_conditions (State.settle_conditions _))
  all_goals exact (answers_next _ _).2 (.refl s)

/-- The interval's counts are no matter of the ports' states (R133). -/
theorem execIntervalBoundary_keeps : Answers (execIntervalBoundary s) s.Keeps := by
  unfold execIntervalBoundary
  split
  · refine (answers_next _ _).2 (.of_conditions (State.conditions_congr rfl rfl (fun _ => rfl) rfl (fun p => ?_) fun _ => .rfl))
    simp only [Table.get_mapFin]
    rfl
  · exact (answers_next _ _).2 (.refl s)

theorem execSilenceExpiry_keeps (p : Fin 16) : Answers (execSilenceExpiry p s) s.Keeps := by
  unfold execSilenceExpiry
  repeat' split
  · refine (answers_next _ _).2 (State.Keeps.then_conditions ?_ (State.settle_conditions _))
    exact State.keeps_handOn_of_gatings (State.movePort_gatings s _ p _ _)
  all_goals exact (answers_next _ _).2 (.refl s)

theorem execUpstreamTransaction_keeps (x : Txn) (b : Bool) : Answers (execUpstreamTransaction x b s) s.Keeps := by
  have observed : ({ s with observeAll := b } : State).conditions = s.conditions := rfl
  simp only [execUpstreamTransaction]
  split
  · next c _ =>
    refine (answers_next _ _).2 (State.Keeps.then_conditions ?_ (State.settle_conditions _))
    exact State.Keeps.after observed (State.presents_keeps _ c x)
  · exact (answers_next _ _).2 (.of_conditions ((State.presentsUnconfigured_conditions _ x).trans observed))

theorem execForwardedResponse_keeps (tag : Fin 32) (ok : Bool) (data : List Word) :
    Answers (execForwardedResponse tag ok data s) s.Keeps := by
  unfold execForwardedResponse
  repeat' split
  · exact (answers_next _ _).2 (.refl s)
  · exact (answers_next _ _).2 (.of_conditions (State.respondOkay_conditions s _ data))
  · exact (answers_next _ _).2 (.of_conditions rfl)
  · exact (answers_next _ _).2 (.refl s)

theorem execViewRead_keeps (b : Bool) : Answers (execViewRead b s) s.Keeps := by
  unfold execViewRead
  repeat' split
  · exact (answers_next _ _).2 (.of_conditions rfl)
  all_goals exact (answers_next _ _).2 (.refl s)

theorem execMailboxRead_keeps (data : List Word) : Answers (execMailboxRead data s) s.Keeps := by
  unfold execMailboxRead
  repeat' split
  · exact (answers_next _ _).2 (.of_conditions rfl)
  all_goals exact (answers_next _ _).2 (.refl s)

theorem execPitchEdge_keeps : Answers (execPitchEdge s) s.Keeps := by
  unfold execPitchEdge
  repeat' split
  · exact (answers_next _ _).2 (.refl s)
  · exact (answers_next _ _).2 (.of_conditions rfl)
  · next c _ _ => exact (answers_next _ _).2 ((s.pitchMark_keeps c).then_conditions (State.settle_conditions _))

theorem execAccountSecond_keeps (u : Fin 24) : Answers (execAccountSecond u s) s.Keeps := by
  simp only [execAccountSecond]
  repeat' split
  · exact (answers_next _ _).2 (.of_conditions (by simp))
  · exact (answers_next _ _).2 (.of_conditions (by simp))
  · exact (answers_next _ _).2 (.refl s)

end Sys2Proof.Machine
end

section
/-! The application of a load keeps the laws of causes and gate states (R160, R161). -/

namespace Sys2Proof.Machine

namespace State

/-! ## FULL -/

/-- Both gates' conditional causes after they have followed (R67). -/
theorem followGates_holds (s : State) {c : HallConfig} {g : Fin 2} {u : Fin 24} {r : GateRec} (hu : c.gateUnit g = some u)
    (hr : s.gates.get g = some r) {k : LineCause} (hk : k = .port ∨ k = .lost ∨ k = .fault ∨ k = .zone) :
    ((s.followGate c 0).followGate c 1).holds g k = s.gateCondition c u r k := by
  match g with
  | 0 => rw [followGate_holds_stands _ c (.inl (by decide)), followGate_holds s hu hr hk]
  | 1 =>
    rw [followGate_holds (s.followGate c 0) hu (by simpa using hr) hk]
    exact gateCondition_congr (by simp) (by simp)

/-- The causes of a robot that a FULL load brings about: OFFLINE, behind a port in DOWN, in a zone in START (R81). -/
theorem causesOf_loaded {s : State} {c : HallConfig} {u : Fin 24} (zones : ∀ z, (s.zones.get z).state = .start)
    (ports : ∀ p, (s.ports.get p).state = .down) :
    s.causesOf c u (Robot.loaded (decide (s.lineHold ≠ 0))) = (Robot.loaded (decide (s.lineHold ≠ 0))).causes := by
  have zone : s.zoneStateOf c u = .start := by
    unfold zoneStateOf
    split
    · exact zones _
    · rfl
  have port : s.portStateOf c u = .down := by
    unfold portStateOf
    split
    · exact ports _
    · rfl
  simp only [causesOf, zone, port]
  generalize decide (s.lineHold ≠ 0) = held
  cases held <;> decide

/-- A robot that a FULL load brings about is HELD with causes (R81). -/
theorem loaded_laws (held : Bool) : (Robot.loaded held).Sound ∧ (Robot.loaded held).causes ≠ 0 := by
  refine ⟨⟨GateState.noConfusion, GateState.noConfusion, Nat.zero_le _, Nat.zero_le _⟩, ?_⟩
  cases held <;> decide

/-- The robots that a FULL load brings about. -/
theorem reloadRobots_get {s : State} {c : HallConfig} {u : Fin 24} {r : Robot}
    (hr : (s.reloadRobots c).robots.get u = some r) : r = Robot.loaded (decide (s.lineHold ≠ 0)) := by
  rw [reloadRobots, Table.get_ofFn] at hr
  split at hr
  · exact (Option.some.inj hr).symm
  · cases hr

theorem applyFull_keeps (s : State) (c : HallConfig) (b : Bank) : s.Keeps (s.applyFull c b) := by
  refine Keeps.then_conditions ?_ (retestDues_conditions _ s.config)
  generalize ha : ({ s.reload c b with given := _ } : State) = a
  have config : a.config = some c := by rw [← ha]; rfl
  have zones : ∀ z, (a.zones.get z).state = .start := fun z => by rw [← ha]; exact congrArg Zone.state (Table.get_replicate _ z)
  have ports : ∀ p, (a.ports.get p).state = .down := fun p => by rw [← ha]; exact congrArg Port.state (Table.get_replicate _ p)
  refine ⟨fun _ => ⟨fun c' g u r hc hu hr k hk => ?_, fun c' u r hc hr => ?_⟩, fun _ u r hr => ?_, fun _ _ u r hr _ => ?_⟩
  · obtain rfl : c = c' := Option.some.inj (config.symm.trans (by simpa [reloadRobots] using hc))
    have gate : a.gates.get g = some r := by simpa [reloadRobots] using hr
    have set : (((a.followGate c 0).followGate c 1).reloadRobots c).holds g k =
        ((a.followGate c 0).followGate c 1).holds g k := rfl
    rw [set, followGates_holds a hu gate hk]
    exact (gateCondition_congr (by simp [reloadRobots]) (by simp [reloadRobots])).symm
  · rw [reloadRobots_get hr]
    exact (causesOf_loaded (by simpa [reloadRobots] using zones) (by simpa [reloadRobots] using ports)).symm
  · rw [reloadRobots_get hr]
    exact (loaded_laws _).1
  · rw [reloadRobots_get hr]
    exact (loaded_laws _).2

/-! ## PARAMETER -/

/-- Under configuration `c` every robot is ready: one that waits with release-confirm is LOST. -/
structure LostReady (s : State) (c : HallConfig) : Prop where
  /-- The configuration in force. -/
  config : s.config = some c
  /-- The robots. -/
  robots : ∀ u r, s.robots.get u = some r → r.Ready (r.accepted = .lost)

namespace LostReady

variable {s t : State} {c : HallConfig}

/-- Such robots are ready for a change handed on. -/
theorem ready (h : s.LostReady c) : s.Ready c := by
  intro u r hr
  obtain ⟨released, arming, ring, speed⟩ := h.robots u r hr
  exact ⟨fun gate => (released gate).imp_right .inr, arming, ring, speed⟩

/-- An operation that leaves the configuration and the robots' gatings. -/
theorem of_gatings (h : s.LostReady c) (track : t.track = s.track) (same : t.gatings = s.gatings) : t.LostReady c where
  config := (congrArg Prod.fst track :).trans h.config
  robots u r hr := by
    obtain ⟨r', hr', gating⟩ := robot_of_gatings same hr
    obtain ⟨released, arming, ring, speed⟩ := h.robots u r' hr'
    have accepted : r.accepted = r'.accepted := congrArg Gating.accepted gating
    have gate : r.gate = r'.gate := congrArg Gating.gate gating
    have confirm : r.confirm = r'.confirm := congrArg Gating.confirm gating
    have ring' : r.ring = r'.ring := congrArg Gating.ring gating
    have speed' : r.lastSpeed = r'.lastSpeed := congrArg Gating.lastSpeed gating
    exact ⟨by rwa [accepted, gate, confirm], by rwa [gate, confirm], by rwa [ring'], by rwa [speed']⟩

/-- A robot becomes LOST (R84). -/
theorem loseRobot (h : s.LostReady c) (u : Fin 24) (r : Robot) : (s.loseRobot u r).LostReady c where
  config := (congrArg Prod.fst (s.loseRobot_track u r) :).trans h.config
  robots v r' hr' := by
    rw [loseRobot_robots, Table.get_modify] at hr'
    split at hr'
    · obtain ⟨r0, hr0, rfl⟩ := Option.map_eq_some_iff.1 hr'
      exact (h.robots v r0 hr0).lose rfl
    · exact h.robots v r' hr'

/-- A robot may turn SUSPECT (R79). -/
theorem retestSuspect (h : s.LostReady c) (new : HallConfig) (u : Fin 24) : (s.retestSuspect new u).LostReady c := by
  refine ⟨(congrArg Prod.fst (s.retestSuspect_track new u) :).trans h.config, fun v r' hr' => ?_⟩
  unfold State.retestSuspect at hr'
  repeat' split at hr'
  · rw [latchSuspect, give_robots, onRobot_robots, Table.get_modify] at hr'
    split at hr'
    · obtain ⟨r, hr, rfl⟩ := Option.map_eq_some_iff.1 hr'
      obtain ⟨released, arming, ring, speed⟩ := h.robots v r hr
      exact ⟨released, arming, ring, speed⟩
    · exact h.robots v r' hr'
  · exact h.robots v r' hr'
  · exact h.robots v r' hr'

end LostReady

theorem applyParameter_keeps (s : State) (old new : HallConfig) : s.Keeps (s.applyParameter old new) := by
  have stop : ∀ s : State, (s.retestStop old new).conditions = s.conditions := fun s => by
    unfold retestStop
    split <;> rfl
  have gate : ∀ (s : State) g, (s.retestGate old new g).gatings = s.gatings := fun s g => by
    unfold retestGate
    split <;> rfl
  have silence : ∀ (s : State) p, (s.retestSilence new p).gatings = s.gatings := fun s p => by
    unfold retestSilence
    split <;> simp
  simp only [applyParameter]
  refine Keeps.then_conditions ?_ (foldl_conditions _ _ (fun s (r : Fin 24 × Robot) => s.zoneSees_conditions new r.1 _ _) _)
  refine keeps_handOn fun h => .inr ⟨new, ?_⟩
  have timed : (({ s with config := some new }.retestDues (some old)).retestStop old new).LostReady new := by
    have same : (({ s with config := some new }.retestDues (some old)).retestStop old new).conditions =
        ({ s with config := some new } : State).conditions := (stop _).trans (retestDues_conditions _ _)
    refine ⟨congrArg Conditions.config same, fun u r hr => ?_⟩
    exact (h.of_gatings (gatings_of_conditions same) u r hr).ready _
  have gates := (timed.of_gatings (retestGate_track _ old new 0) (gate _ 0)).of_gatings (retestGate_track _ old new 1) (gate _ 1)
  have lost := List.foldlRecOn (s.lateRobots old new) (fun s (r : Fin 24 × Robot) => s.loseRobot r.1 r.2)
    (motive := fun t : State => t.LostReady new) gates
    fun t h r _ => h.loseRobot r.1 r.2
  have latched := List.foldlRecOn (List.finRange 24) (fun s u => s.retestSuspect new u) (motive := fun t : State => t.LostReady new) lost
    fun t h u _ => h.retestSuspect new u
  have ports := List.foldlRecOn (List.finRange 16) (fun s p => s.retestSilence new p) (motive := fun t : State => t.LostReady new) latched
    fun t h p _ => h.of_gatings (t.retestSilence_track new p) (silence t p)
  exact ⟨ports.config, ports.ready⟩

/-! ## The end of a load -/

theorem finishLoad_keeps (s : State) (k : LoadKind) (m : Image) : s.Keeps (s.finishLoad k m) := by
  unfold finishLoad
  split
  · exact .of_conditions rfl
  · refine Keeps.then_conditions ?_ (loadApplied_conditions _ k)
    unfold applyImage
    split
    · exact s.applyFull_keeps _ _
    · exact s.applyParameter_keeps _ _
    · exact .refl s
    · exact .of_conditions rfl

end State

theorem execConfigReadAnswered_keeps (s : State) (ok : Bool) (data : List Word) :
    Answers (execConfigReadAnswered ok data s) s.Keeps := by
  unfold execConfigReadAnswered
  repeat' split
  · refine (answers_next _ _).2 (State.Keeps.then_conditions ?_ (State.settle_conditions _))
    refine State.Keeps.after s.ownAnswered_conditions ?_
    simp only [State.lineStaged]
    split
    · exact .of_conditions rfl
    · exact State.finishLoad_keeps _ _ _
  · exact (answers_next _ _).2 (.of_conditions (by simp))
  · exact (answers_next _ _).2 (.refl s)

end Sys2Proof.Machine
end

section
/-! Every command keeps the laws of causes and gate states (O6, O12). -/

namespace Sys2Proof.Machine

/-- Every command keeps the laws. -/
theorem exec_keeps (i : Instr) (s : State) : Answers (exec i s) s.Keeps := by
  cases i with
  | resetN straps => exact (answers_next _ _).2 (.of_bare (s.resetWith_bare straps))
  | pitchEdge => exact execPitchEdge_keeps s
  | stopTimerExpiry =>
    simp only [exec, execStopTimerExpiry]
    split
    · exact (answers_next _ _).2 (.of_conditions rfl)
    · exact (answers_next _ _).2 (.refl s)
  | slewMove =>
    simp only [exec, execSlewMove]
    split
    · exact (answers_next _ _).2 (.of_conditions rfl)
    · exact (answers_next _ _).2 (.refl s)
  | holdoverExpiry =>
    simp only [exec, execHoldoverExpiry]
    split
    · exact (answers_next _ _).2 (.of_conditions rfl)
    · exact (answers_next _ _).2 (.refl s)
  | accountSecond u => exact execAccountSecond_keeps s u
  | referencePeriod => exact (answers_next _ _).2 (.of_conditions rfl)
  | timeFrame tag => exact s.taking_stands fun r s => s.timeFrameTaken_conditions _ _
  | verdictRecord tag => exact s.taking_stands fun r s => s.verdictTaken_conditions _ _
  | robotStatusFrame tag => exact s.taking_keeps fun r s => s.robotStatusTaken_keeps _ _
  | robotStatusTimeout u => exact execRobotStatusTimeout_keeps s u
  | gateStatusFrame tag => exact s.taking_keeps fun r s => s.gateStatusTaken_keeps _ _
  | gateStatusTimeout g => exact execGateStatusTimeout_keeps s g
  | sequenceWrite u => exact s.taking_keeps fun q s => s.sequenceTaken_keeps _ _
  | robotCommandRead tag data => exact execRobotCommandRead_keeps s tag data
  | gateCommandRead tag data => exact execGateCommandRead_keeps s tag data
  | guardRawChange z opened => exact (answers_next _ _).2 (.of_conditions rfl)
  | guardOpen z => exact execGuardOpen_keeps s z
  | guardClosed z => exact execGuardClosed_keeps s z
  | accessTimerExpiry z => exact execAccessTimerExpiry_keeps s z
  | clearingWindowExpiry z => exact execClearingWindowExpiry_keeps s z
  | enter z => exact s.zoneCommand_keeps z _ fun c q s => s.enterZone_keeps c z q
  | confirm z => exact s.zoneCommand_keeps z _ fun c q s => s.confirmZone_keeps c z q
  | extend z => exact s.zoneCommand_keeps z _ fun c q s => .of_conditions (s.extendZone_conditions z q)
  | cancel z => exact s.zoneCommand_keeps z _ fun c q s => s.cancelZone_keeps c z q
  | reset z => exact s.zoneCommand_keeps z _ fun c q s => s.resetZone_keeps c z q
  | resume z => exact s.zoneCommand_keeps z _ fun c q s => s.resumeZone_keeps c z q
  | sense z =>
    exact s.taking_keeps fun w s => s.zoneReceives_keeps z w fun _ _ s => .of_conditions (s.sense_conditions z)
  | mailboxRead data => exact execMailboxRead_keeps s data
  | release => exact s.generalCommand_keeps _ fun c w s => s.releaseTaken_keeps c w
  | clearSuspect => exact s.generalCommand_keeps _ fun c w s => s.clearSuspectTaken_keeps c w
  | accountClear => exact s.generalCommand_keeps _ fun c w s => .of_conditions (s.accountClearTaken_conditions w)
  | portClear => exact s.generalCommand_keeps _ fun c w s => s.portClearTaken_keeps c w
  | snapshot => exact s.generalCommand_keeps _ fun c w s => .of_conditions (s.snapshotTaken_conditions c w)
  | purge => exact s.generalCommand_keeps _ fun c w s => .of_conditions rfl
  | lineResume => exact s.generalCommand_keeps _ fun c w s => s.lineResumeTaken_keeps c w
  | snapshotWriteAnswered ok =>
    simp only [exec, execSnapshotWriteAnswered]
    split
    · exact (answers_next _ _).2 (.of_conditions (State.snapshotAnswered_conditions _ _ ok))
    · exact (answers_next _ _).2 (.refl s)
  | noticeWriteAnswered ok =>
    simp only [exec, execNoticeWriteAnswered]
    split
    · exact (answers_next _ _).2 (.of_conditions (State.noticeAnswered_conditions s _ ok))
    · exact (answers_next _ _).2 (.refl s)
  | consumerWrite => exact s.taking_stands fun _ _ => rfl
  | switchTable => exact s.taking_keeps fun b s => s.tableTaken_keeps b
  | tableTimerExpiry => exact execTableTimerExpiry_keeps s
  | intervalBoundary => exact execIntervalBoundary_keeps s
  | silenceExpiry p => exact execSilenceExpiry_keeps s p
  | upstreamTransaction x b => exact execUpstreamTransaction_keeps s x b
  | viewRead b => exact execViewRead_keeps s b
  | forwardedResponse tag ok data => exact execForwardedResponse_keeps s tag ok data
  | arbiterGrant => exact (answers_next _ _).2 (.of_conditions rfl)
  | fullLoad => exact s.taking_stands fun _ s => s.requestLoad_conditions _
  | parameterLoad => exact s.taking_stands fun _ s => s.requestLoad_conditions _
  | changeoverLoad => exact s.taking_stands fun _ s => s.requestLoad_conditions _
  | otherLoadKind => exact s.taking_stands fun _ s => s.requestLoad_conditions _
  | configReadAnswered ok data => exact execConfigReadAnswered_keeps s ok data
  | otherCommandCode slot =>
    simp only [exec, execOtherCommandCode]
    split
    · refine s.taking_keeps fun w s => s.zoneReceives_keeps _ w fun _ q s => s.unlessPending_keeps _ ?_
      exact fun s => .of_conditions (s.completeNow_conditions _ q .invalid)
    · exact s.taking_keeps fun w s => s.generalReceives_keeps w fun _ _ => .of_conditions rfl

/-- A step keeps the laws: the queue of commands is none of their conditions. -/
theorem step_keeps {s t : State} (h : step s = .next t) : s.Keeps t := by
  unfold step at h
  split at h
  · cases h
    exact .refl s
  · next i rest _ => exact State.Keeps.after (a := { s with pending := rest }) rfl (exec_keeps i _ t h)

/-- Settles O6: each command leaves what the laws read, or hands a change on to robots that are ready for it. -/
theorem stepKeepsRobotsSound : Obligations.StepKeepsRobotsSound :=
  fun _ _ h => ⟨(step_keeps h).sound, (step_keeps h).held⟩

/-- Settles O12: each command leaves what the laws read, or hands its change on, which sets every cause by its condition. -/
theorem stepKeepsCausesFollow : Obligations.StepKeepsCausesFollow :=
  fun _ _ follow h => (step_keeps h).follow follow

end Sys2Proof.Machine
end


section
/-! What a change handed on makes of one robot, and the notices it gives (O31). -/

namespace Sys2Proof.Machine

/-! ## LINE_HOLD of the conditional causes (R75) -/

/-- LINE_HOLD for cause `k` of gate `g`, without a bottle (R75). -/
def State.holdNotice (s : State) (g : Fin 2) (k : LineCause) : Notice :=
  { s.note .lineHold with subject := g.val, code := k.code }

/-- LINE_HOLD for each conditional cause of gate `g` that the set gains from `s` to `t`. -/
def State.holdNotices (s t : State) (g : Fin 2) : List Notice :=
  ([.port, .lost, .fault, .zone] : List LineCause).filterMap fun k =>
    if t.holds g k && !s.holds g k then some (s.holdNotice g k) else none

/-- A cause that follows its condition into the set has its notice. -/
theorem State.followHold_gives (s : State) (g : Fin 2) (k : LineCause) (on : Bool) :
    (s.followHold g k on).given = s.given ++ if on && !s.holds g k then [s.holdNotice g k] else [] := by
  cases on with
  | false => simp [State.followHold]
  | true => cases held : s.holds g k <;> simp [State.followHold, State.addHold, held, State.give, State.holdNotice, State.note]

/-- The conditional causes that a gate gains have their notices. -/
theorem State.followGate_gives (s : State) (c : HallConfig) (g : Fin 2) :
    (s.followGate c g).given = s.given ++ s.holdNotices (s.followGate c g) g := by
  have stands : ∀ t : State, (∀ k, t.holds g k = s.holds g k) → s.holdNotices t g = [] := fun t same =>
    List.filterMap_eq_nil_iff.2 fun k _ => by simp [same]
  cases hu : c.gateUnit g with
  | none => simp [State.followGate, hu, stands]
  | some u =>
    cases hr : s.gates.get g with
    | none => simp [State.followGate, hu, hr, stands]
    | some r =>
      have follows : ∀ k, k = .port ∨ k = .lost ∨ k = .fault ∨ k = .zone →
          (s.followGate c g).holds g k = s.gateCondition c u r k := fun k hk => s.followGate_holds hu hr hk
      have notice : ∀ (t : State), t.time = s.time → ∀ k, t.holdNotice g k = s.holdNotice g k := fun t time k => by
        rw [State.holdNotice, State.note, time, State.holdNotice, State.note]
      have given : (s.followGate c g).given = s.given ++ ([.port, .lost, .fault, .zone] : List LineCause).flatMap fun k =>
          if s.gateCondition c u r k && !s.holds g k then [s.holdNotice g k] else [] := by
        simp only [State.followGate, hu, hr, State.followHold_gives, State.followHold_holds, State.followHold_time, notice]
        simp
      rw [given, State.holdNotices, List.filterMap_eq_flatMap_toList]
      refine congrArg (s.given ++ ·) (List.flatMap_congr fun k mem => ?_)
      rw [follows k (by simpa using mem)]
      split <;> rfl

/-! ## The notices of a change handed on -/

/-- A change handed on gives LINE_HOLD for what the gates gain, and each robot's change of gate state (R75, R89). -/
theorem State.handOn_gives_eq {s : State} {c : HallConfig} (hc : s.config = some c) :
    s.handOn.given = s.given ++ (s.holdNotices s.handOn 0 ++ s.holdNotices s.handOn 1 ++
      (List.finRange 24).filterMap (((s.followGate c 0).followGate c 1).robotNotice c)) := by
  have holds : ∀ g k, s.handOn.holds g k = ((s.followGate c 0).followGate c 1).holds g k := fun g k => by
    simp only [State.holds, s.handOn_lineHold hc]
  have first : s.holdNotices (s.followGate c 0) 0 = s.holdNotices s.handOn 0 := by
    simp only [State.holdNotices, holds, State.followGate_holds_stands (s.followGate c 0) c (g := 1) (g' := 0) (.inl (by decide))]
  have second : (s.followGate c 0).holdNotices ((s.followGate c 0).followGate c 1) 1 = s.holdNotices s.handOn 1 := by
    simp only [State.holdNotices, holds, State.followGate_holds_stands s c (g := 0) (g' := 1) (.inl (by decide)),
      State.holdNotice, State.note, State.followGate_time]
  have given : s.handOn.given = ((s.followGate c 0).followGate c 1).given ++
      (List.finRange 24).filterMap (((s.followGate c 0).followGate c 1).robotNotice c) := by
    simp only [State.handOn, hc, State.followRobots]
  rw [given, State.followGate_gives, State.followGate_gives, first, second]
  simp only [List.append_assoc]

/-- These notices are LINE_HOLD and name their gate. -/
theorem State.mem_holdNotices {s t : State} {g : Fin 2} {n : Notice} (mem : n ∈ s.holdNotices t g) :
    n.kind = .lineHold ∧ n.subject = g.val := by
  obtain ⟨k, -, gives⟩ := List.mem_filterMap.1 mem
  split at gives
  · obtain rfl := Option.some.inj gives
    exact ⟨rfl, rfl⟩
  · cases gives

/-- LINE_HOLD of one gate among those of both. -/
theorem State.holdNotices_filter (s t : State) (g g' : Fin 2) :
    (s.holdNotices t g).filter (fun n => decide (n.kind = .lineHold) && decide (n.subject = g'.val)) =
      if g = g' then s.holdNotices t g else [] := by
  split
  · next same =>
    subst same
    exact List.filter_eq_self.2 fun n mem => by simp [State.mem_holdNotices mem]
  · next other =>
    exact List.filter_eq_nil_iff.2 fun n mem => by simp [State.mem_holdNotices mem, Fin.val_inj, other]

/-- A notice of a change of gate state is of one of its three kinds, and names its robot. -/
theorem State.gateNotice_kind {s : State} {u : Fin 24} {r r' : Robot} {n : Notice} (h : s.gateNotice u r r' = some n) :
    n.kind ≠ .lineHold ∧ n.subject = u.val := by
  unfold State.gateNotice at h
  repeat' split at h
  · cases h
  all_goals
    obtain rfl := Option.some.inj h
    exact ⟨NoticeKind.noConfusion, rfl⟩

/-- The notice of one robot among those of all. -/
theorem State.robotNotices_filter {s : State} {c : HallConfig} {u : Fin 24} {r : Robot} (hr : s.robots.get u = some r) :
    ((List.finRange 24).filterMap (s.robotNotice c)).filter
        (fun n => decide (n.kind ≠ .lineHold) && decide (n.subject = u.val)) =
      (s.gateNotice u r (s.robotAfter c u r)).toList := by
  have kinds : ∀ v n, s.robotNotice c v = some n → n.kind ≠ .lineHold ∧ n.subject = v.val := fun v n h => by
    obtain ⟨r, -, gives⟩ := Option.bind_eq_some_iff.1 h
    exact State.gateNotice_kind gives
  have mine : s.robotNotice c u = s.gateNotice u r (s.robotAfter c u r) := by simp [State.robotNotice, hr]
  rw [List.filter_filterMap, filterMap_eq_single (List.nodup_finRange 24) (List.mem_finRange u), mine]
  · cases notice : s.gateNotice u r (s.robotAfter c u r) with
    | none => rfl
    | some n => simp [State.gateNotice_kind notice]
  · intro v other
    cases notice : s.robotNotice c v with
    | none => rfl
    | some n =>
      obtain ⟨-, subject⟩ := kinds v n notice
      simp [subject, Fin.val_inj, other]

/-- The robots' notices are no LINE_HOLD. -/
theorem State.robotNotices_filter_lineHold (s : State) (c : HallConfig) (g : Fin 2) :
    ((List.finRange 24).filterMap (s.robotNotice c)).filter
      (fun n => decide (n.kind = .lineHold) && decide (n.subject = g.val)) = [] := by
  refine List.filter_eq_nil_iff.2 fun n mem => ?_
  obtain ⟨v, -, gives⟩ := List.mem_filterMap.1 mem
  obtain ⟨r, -, notice⟩ := Option.bind_eq_some_iff.1 gives
  simp [State.gateNotice_kind notice]

/-- The causes that ROBOT_HELD shows are some of the robot's (log 13). -/
theorem heldCauses_part (i u : Nat) (causes : Byte) :
    heldCauses i u causes &&& causes = heldCauses i u causes ∧ (causes ≠ 0 → heldCauses i u causes ≠ 0) := by
  unfold heldCauses
  split
  · exact ⟨BitVec.and_self, id⟩
  · next shows =>
    refine ⟨?_, fun _ => shows⟩
    rw [BitVec.and_comm causes, BitVec.and_assoc, BitVec.and_self]

/-! ## The obligation -/

/-- Each cause of a robot that has followed holds by its condition (R86). -/
theorem State.robotAfter_has (s : State) (c : HallConfig) (u : Fin 24) (r : Robot) (k : Cause) :
    (s.robotAfter c u r).has k = s.robotCondition c u r k := by
  rw [Robot.has, State.robotAfter_causes, State.causesOf_getLsbD]

/-- The gate state of a robot that has followed, with a cause (R89, R90). -/
theorem State.robotAfter_gate_of_causes {s : State} {c : HallConfig} {u : Fin 24} {r : Robot}
    (cause : (s.robotAfter c u r).causes ≠ 0) :
    (s.robotAfter c u r).gate = .held ∧
      ((s.robotAfter c u r).confirm = true ↔ r.confirm = true ∨
        (r.has .zone = false ∧ (s.robotAfter c u r).has .zone = true) ∨
        (r.has .lost = false ∧ (s.robotAfter c u r).has .lost = true) ∨
        (r.gate ≠ .held ∧ (c.units.get u).alwaysConfirm = true)) := by
  rw [State.robotAfter_has, State.robotAfter_has]
  rw [State.robotAfter_causes] at cause
  rw [State.robotAfter_of_causes cause]
  refine ⟨rfl, ?_⟩
  simp only [Bool.or_eq_true, Bool.and_eq_true, Bool.not_eq_true', decide_eq_true_eq, or_assoc,
    and_comm (a := State.robotCondition _ _ _ _ _ = true)]

/-- The gate state of a robot that has followed, without a cause (R89). -/
theorem State.robotAfter_gate_of_clear {s : State} {c : HallConfig} {u : Fin 24} {r : Robot}
    (clear : (s.robotAfter c u r).causes = 0) :
    (r.gate = .held → r.confirm = true → (s.robotAfter c u r).gate = .arming ∧ (s.robotAfter c u r).confirm = true) ∧
      (r.gate = .held → r.confirm = false → (s.robotAfter c u r).gate = .released ∧ (s.robotAfter c u r).confirm = false) ∧
      (r.gate ≠ .held → (s.robotAfter c u r).gate = r.gate ∧ (s.robotAfter c u r).confirm = r.confirm) := by
  rw [State.robotAfter_causes] at clear
  rw [State.robotAfter_of_clear clear]
  refine ⟨fun held confirm => ?_, fun held confirm => ?_, fun held => ?_⟩
  · simp [held, confirm]
  · simp [held, confirm]
  · simp [held]

/-- The notice of a robot's change of gate state, with the causes that ROBOT_HELD shows (R89, log 13). -/
theorem State.gateNotice_toList {a s : State} (note : a.note = s.note) (u : Fin 24) (r r' : Robot) :
    (a.gateNotice u r r').toList =
      if r'.gate = r.gate then []
      else
        match r'.gate with
        | .held => [{ s.note .robotHeld with
            subject := u.val, detail := (heldCauses a.freeIndex u.val r'.causes).setWidth 32 }]
        | .arming => [{ s.note .robotArming with subject := u.val }]
        | .released => [{ s.note .robotReleased with subject := u.val }] := by
  rw [← note]
  unfold State.gateNotice
  by_cases same : r'.gate = r.gate
  · rw [if_pos same, if_pos same.symm]
    rfl
  · rw [if_neg same, if_neg (Ne.symm same)]
    cases r'.gate <;> rfl

/-- Settles O31: `State.robotAfter_of_causes` and `State.robotAfter_of_clear` give the record, `State.handOn_gives_eq` the
notices. -/
theorem robotGateFollowsCauses : Obligations.RobotGateFollowsCauses := by
  intro s c u r config robot
  have lineHold := s.handOn_lineHold config
  generalize ha : (s.followGate c 0).followGate c 1 = a at lineHold
  have zones : a.zones = s.zones := by rw [← ha]; simp
  have ports : a.ports = s.ports := by rw [← ha]; simp
  have time : a.time = s.time := by rw [← ha]; simp
  have given := State.handOn_gives_eq config
  have after : s.handOn.robots.get u = some (a.robotAfter c u r) := by rw [s.handOn_get config, robot, ha]; rfl
  have robot' : a.robots.get u = some r := by rw [← ha]; simpa using robot
  rw [ha] at given
  have has : ∀ k, (a.robotAfter c u r).has k = a.robotCondition c u r k := a.robotAfter_has c u r
  have zone : a.zoneStateOf c u = s.zoneStateOf c u := State.zoneStateOf_congr zones
  have port : a.portStateOf c u = s.portStateOf c u := State.portStateOf_congr ports
  refine ⟨a.robotAfter c u r, after, ?_, ?_, ?_, ?_, ?_, ?_, ?_, ?_, State.robotAfter_gate_of_causes,
    fun clear => (State.robotAfter_gate_of_clear clear).1, fun clear => (State.robotAfter_gate_of_clear clear).2.1,
    fun clear => (State.robotAfter_gate_of_clear clear).2.2, State.robotAfter_own a c u r, _, given, ?_, fun g => ?_,
    heldCauses a.freeIndex u.val (a.robotAfter c u r).causes, (heldCauses_part _ _ _).1, (heldCauses_part _ _ _).2, ?_⟩
  · simp [has, State.robotCondition, zone]
  · simp [has, State.robotCondition, port]
  · simp [has, State.robotCondition]
  · simp [has, State.robotCondition]
  · simp [has, State.robotCondition]
  · simp [has, State.robotCondition]
  · simp [has, State.robotCondition]
  · simp [has, State.robotCondition, lineHold]
  · obtain ⟨more, eq, handed⟩ := s.handOn_given
    rw [given] at eq
    exact List.append_cancel_left eq ▸ handed
  · rw [List.filter_append, List.filter_append, State.holdNotices_filter, State.holdNotices_filter,
      State.robotNotices_filter_lineHold, List.append_nil]
    match g with
    | 0 => exact List.append_nil _
    | 1 => rfl
  · have none : ∀ g, (s.holdNotices s.handOn g).filter
        (fun n => decide (n.kind ≠ .lineHold) && decide (n.subject = u.val)) = [] := fun g => by
      refine List.filter_eq_nil_iff.2 fun n mem => ?_
      simp [State.mem_holdNotices mem]
    have note : a.note = s.note := funext fun k => by rw [State.note, time, State.note]
    rw [List.filter_append, List.filter_append, none, none, List.nil_append, List.nil_append,
      State.robotNotices_filter robot']
    exact State.gateNotice_toList note u r _

end Sys2Proof.Machine
end


section
/-! The gate's command read (O34): which gate is available, and the frame that the read returns. -/

namespace Sys2Proof.Machine

/-- The gate that a unit is has that unit. -/
theorem HallConfig.gateUnit_of_gateOfUnit {c : HallConfig} {u : Fin 24} {g : Fin 2} (h : c.gateOfUnit u = some g) :
    c.gateUnit g = some u :=
  of_decide_eq_true (List.find?_some (p := fun g => decide (c.gateUnit g = some u)) h)

/-- A gate is available while none of its conditions fails (R67). -/
theorem State.available_iff {s : State} {c : HallConfig} {g : Fin 2} {u : Fin 24} (hu : c.gateUnit g = some u) :
    s.available c g = true ↔
      ∃ p z r, c.portOf u = some p ∧ (s.ports.get p).state = .active ∧ c.zoneOf u = some z ∧
        (s.zones.get z).state = .run ∧ s.gates.get g = some r ∧
        r.accepted ≠ .lost ∧ r.accepted ≠ .offline ∧ r.accepted ≠ .fault := by
  have port := s.portStateOf_active c u
  have zone := s.zoneStateOf_run c u
  cases hr : s.gates.get g with
  | none => simp [State.available, hu, hr]
  | some r =>
    simp only [State.available, hu, hr, State.gateCondition, Bool.and_eq_true, Bool.not_eq_true', Bool.or_eq_false_iff,
      decide_eq_false_iff_not, not_not, port, zone]
    constructor
    · rintro ⟨⟨⟨⟨p, unit, active⟩, lost, offline⟩, fault⟩, z, member, run⟩
      exact ⟨p, z, r, unit, active, member, run, rfl, lost, offline, fault⟩
    · rintro ⟨p, z, _, unit, active, member, run, ⟨⟩, lost, offline, fault⟩
      exact ⟨⟨⟨⟨p, unit, active⟩, lost, offline⟩, fault⟩, z, member, run⟩

/-- The eject flag says whether the slot's decision has a reason (R69, R71). -/
theorem Slot.ejectFlag_of_decision {q : Slot} {g : Fin 2} {d : Decision} (h : q.decisions.get g = some d) :
    q.ejectFlag g = if d.reasons = [] then 0 else 1 := by
  cases reasons : d.reasons <;> simp [Slot.ejectFlag, h, bit, Decision.rejects, reasons]

/-- A read of a gate's command frame finds its gate (R71, R150). -/
theorem execGateCommandRead_eq {s : State} {tag : Fin 32} {c : HallConfig} {w : Window} {x : Txn} {u : Fin 24} {g : Fin 2}
    (found : s.substituting tag = some (c, w, x)) (kind : w.kind = .command) (unit : unitNumber w.unit = some u)
    (gate : c.gateOfUnit u = some g) (data : List Word) :
    exec (.gateCommandRead tag data) s = .next (s.readGateFrame c g x data).settle := by
  simp only [exec, execGateCommandRead, found, kind, unit, Option.bind_some, gate]

/-- A substituted read is the oldest transaction of its tag (R150). -/
theorem State.substituting_tag {s : State} {tag : Fin 32} {c : HallConfig} {w : Window} {x : Txn}
    (h : s.substituting tag = some (c, w, x)) : x.tag = tag := by
  unfold State.substituting at h
  split at h
  · next f _ oldest _ =>
    repeat' split at h
    · cases h
      exact of_decide_eq_true (List.find?_some (p := fun f : Flight => decide (f.txn.tag = tag)) oldest)
    all_goals cases h
  · cases h

/-- Settles O34: the command rewrites the frame by `State.gateFields`, and marks the listed decisions delivered. -/
theorem gateCommandReadLists : Obligations.GateCommandReadLists := by
  intro tag data s c w x u g found kind unit gate waits rejects listed
  have flag : ∀ q : Slot, q.ejectFlag g = rejects q := fun q => by
    simp only [rejects]
    cases h : q.decisions.get g with
    | none => simp only [Slot.ejectFlag, h]
    | some d => exact Slot.ejectFlag_of_decision h
  refine ⟨State.available_iff (HallConfig.gateUnit_of_gateOfUnit gate), _,
    execGateCommandRead_eq found kind unit gate data, State.settle_givesOnly rfl rfl (List.append_nil _).symm, rfl, ?_, ?_⟩
  · rw [← State.substituting_tag found]
    refine congrArg (fun fields => s.path.answer
      { tag := x.tag, response := .okay, data := overlay fields x.lineOffset (fitWords x.length data) }) ?_
    refine congrArg₂ (· ++ ·) rfl (List.flatMap_congr fun i _ => ?_)
    unfold ejectEntry
    cases listedAt : listed[i]? with
    | none => rw [show (s.ejectList c g)[i]? = none from listedAt]
    | some q =>
      rw [show (s.ejectList c g)[i]? = some q from listedAt]
      exact congrArg (fun n : Nat => ([⟨16 + 8 * i, 4, q.bottle.toNat⟩, ⟨20 + 8 * i, 4, n⟩] : List Field)) (flag q)
  · cases s
    rfl

end Sys2Proof.Machine
end


section
/-! SUPPORT. What the end of a step and the handing on of a change leave, in the terms of the statements (Safety.lean): the
restored frame, the robots' own records, the notices that are not handed on. -/

namespace Sys2Proof.Machine

/-! ## The restored frame -/

/-- The end of a step moves nothing but what is put back. -/
@[simp] theorem State.settle_unhanded (t s : State) : t.settle.unhanded s = t.unhanded s := rfl

/-- So does the handing on of a change. -/
@[simp] theorem State.handOn_unhanded (t s : State) : t.handOn.unhanded s = t.unhanded s := by
  rw [t.handOn_eq]
  rfl

/-- Latching a cause does, too. -/
@[simp] theorem State.latchIf_unhanded (t s : State) (on : Bool) (g : Fin 2) (k : LineCause) (b : Bottle) :
    (t.latchIf on g k b).unhanded s = t.unhanded s := by
  rw [t.latchIf_eq on g k b]
  rfl

/-- Latching a cause leaves the robots. -/
theorem State.latchIf_robots (s : State) (on : Bool) (g : Fin 2) (k : LineCause) (b : Bottle) :
    (s.latchIf on g k b).robots = s.robots := by
  rw [s.latchIf_eq on g k b]

/-- A change that leaves the robots and the line-hold set, handed on. -/
theorem State.handed_of_handOn {s a : State} (robots : a.robots = s.robots) (lineHold : a.lineHold = s.lineHold) :
    s.Handed a.handOn where
  robots u := by rw [State.handOn_own, robots]
  latched g k hk := by rw [State.handOn_latchedStand a g k hk, State.holds, lineHold, State.holds]

/-- LINE_HOLD of a latched cause is no notice of a handed-on change (R75). -/
theorem State.latchNotice_filter (s t : State) (g : Fin 2) {k : LineCause} (hk : k = .missed ∨ k = .mismatch ∨ k = .unconfirmed)
    (b : Bottle) : (s.latchNotice t g k b).filter (fun n => !n.handed) = s.latchNotice t g k b := by
  unfold State.latchNotice
  split
  · rcases hk with rfl | rfl | rfl <;> rfl
  · rfl

end Sys2Proof.Machine
end

section
/-! GATE_STATUS_FRAME (O33): what a report makes of its gate's record, of the slots and of the line-hold set (R66, R72, R73). -/

namespace Sys2Proof.Machine

/-! ## What a new report means -/

/-- A report with ejected flag `x` that agrees with an unconfirmed decision confirms it (R72). -/
theorem finding_confirms {d : Decision} {x : Bool} (unconfirmed : d.confirmed = none) (agrees : x = d.rejects) :
    finding (some d) x = .confirms := by
  simp [finding, unconfirmed, agrees]

/-- One that disagrees with it is a mismatch (R73). -/
theorem finding_mismatch {d : Decision} {x : Bool} (unconfirmed : d.confirmed = none) (differs : x ≠ d.rejects) :
    finding (some d) x = .mismatch := by
  simp [finding, unconfirmed, differs]

/-- One that says again what confirmed the decision repeats it (R72). -/
theorem finding_repeated {d : Decision} {x : Bool} (confirmed : d.confirmed = some x) : finding (some d) x = .repeated := by
  simp [finding, confirmed]

/-- One that says the contrary is a mismatch (R73). -/
theorem finding_turned {d : Decision} {x : Bool} (confirmed : d.confirmed = some (!x)) : finding (some d) x = .mismatch := by
  cases x <;> simp [finding, confirmed]

/-- A report on a formed decision is not unmatched (R72). -/
theorem finding_formed (d : Decision) (x : Bool) : finding (some d) x ≠ .unmatched := by
  simp only [finding]
  repeat' split
  all_goals decide

/-! ## What it changes -/

/-- An entry written and then changed is written changed. -/
theorem Table.set_modify {α : Type} {n : Nat} (t : Table α n) (i : Fin n) (a : α) (f : α → α) :
    (t.set i a).modify i f = t.set i (f a) := by
  apply Table.ext_get
  intro j
  simp only [Table.get_modify, Table.get_set]
  split <;> rfl

/-- The report of a frame is a new one for a gate record (R72). -/
def GateRec.newReport (r : GateRec) (f : StatusFrame) : Bool :=
  f.handledPresent && decide (r.lastReport ≠ some (f.handled, f.handledEjected))

/-- The finding on the report of a frame against the decisions of gate `g` in a queue. -/
def State.reportFinding (s : State) (g : Fin 2) (f : StatusFrame) : Finding :=
  finding ((s.slotOf f.handled).bind fun q => q.decisions.get g) f.handledEjected

/-- The gate record after the report of a taken frame (R72). -/
def GateRec.examined (r : GateRec) (f : StatusFrame) (found : Finding) : GateRec :=
  if r.newReport f then
    { r with
      lastReport := some (f.handled, f.handledEjected)
      unmatched := if found = .unmatched then satAdd 16 r.unmatched 1 else r.unmatched }
  else r

/-- The queue after the report of a taken frame: confirmed or contradicted, the decision is marked (R72, R73). -/
def State.confirmedQueue (s : State) (g : Fin 2) (f : StatusFrame) : List Slot :=
  s.queue.map fun q => if q.bottle = f.handled then q.confirm g f.handledEjected else q

/-- A taken frame's report, in one equation: the record, the slot's decision, and GATE_MISMATCH latched (R72, R73). -/
theorem State.takeReport_eq {s : State} {g : Fin 2} {r : GateRec} (hr : s.gates.get g = some r) (f : StatusFrame) :
    s.takeReport g f =
      ({ s with
          gates := s.gates.set g (some (r.examined f (s.reportFinding g f)))
          queue := if r.newReport f ∧ (s.reportFinding g f = .confirms ∨ s.reportFinding g f = .mismatch) then
              s.confirmedQueue g f
            else s.queue } : State).latchIf (r.newReport f && decide (s.reportFinding g f = .mismatch)) g .mismatch f.handled := by
  have stands : s.gates.set g (some r) = s.gates := by rw [← hr, Table.set_get]
  have modified : ∀ h : GateRec → GateRec, s.gates.modify g (Option.map h) = s.gates.set g (some (h r)) := fun h => by
    rw [Table.modify, hr]
    rfl
  cases fresh : r.newReport f with
  | false =>
    have taken : s.takeReport g f = s := by
      simp only [State.takeReport, hr]
      exact if_neg (Bool.eq_false_iff.1 fresh)
    rw [taken, GateRec.examined, fresh]
    simp [State.latchIf, stands]
  | true =>
    have taken : s.takeReport g f =
        (s.onGate g fun r => { r with lastReport := some (f.handled, f.handledEjected) }).examine g f.handled f.handledEjected := by
      simp only [State.takeReport, hr]
      exact if_pos fresh
    have same : ∀ k, s.reportFinding g f = k → finding (((s.onGate g fun r =>
        { r with lastReport := some (f.handled, f.handledEjected) }).slotOf f.handled).bind fun q => q.decisions.get g)
          f.handledEjected = k := fun _ h => h
    rw [taken, GateRec.examined, fresh]
    cases found : s.reportFinding g f <;> rw [State.examine, same _ found] <;>
      simp [State.latchIf, State.onGate, State.onSlot, modified, Table.set_modify, State.confirmedQueue]

/-! ## The obligation -/

/-- A confirmed slot, in the terms of the statement: an ejection by another gate stays with that gate (R72). -/
theorem Slot.confirm_eq (q : Slot) (g : Fin 2) (x : Bool) :
    q.confirm g x = { q with
      decisions := q.decisions.modify g (Option.map fun d => { d with confirmed := some x })
      ejected := if x then q.ejected.or (some g) else q.ejected } := by
  unfold Slot.confirm
  cases q.ejected <;> rfl

/-- A stale frame is counted (R66). -/
theorem State.gateStatusTaken_stale {s : State} {g : Fin 2} {f : StatusFrame} {r : GateRec} (hr : s.gates.get g = some r)
    (stale : seqPasses r.lastSeq f.seq = false) :
    s.gateStatusTaken g f = s.onGate g fun r => { r with staleStatus := satAdd 16 r.staleStatus 1 } := by
  simp [State.gateStatusTaken, hr, stale]

/-- A taken frame sets the accepted state, which is handed on, and its report is examined and handed on (R66, R72). -/
theorem State.gateStatusTaken_passes {s : State} {g : Fin 2} {f : StatusFrame} {r : GateRec} (hr : s.gates.get g = some r)
    (passes : seqPasses r.lastSeq f.seq = true) :
    s.gateStatusTaken g f = (((s.onGate g fun r => r.takeFrame f s.time.localTime).handOn).takeReport g f).handOn := by
  simp only [State.gateStatusTaken, hr, passes, if_true]

/-- What a taken frame leaves of gate `g` with record `r`: the record, the queue, and GATE_MISMATCH (R66, R72, R73). -/
structure State.GateTaken (s t : State) (g : Fin 2) (f : StatusFrame) (r : GateRec) : Prop where
  /-- The record. -/
  gate : t.gates.get g = some (r.examined f (s.reportFinding g f))
  /-- The other gate stands. -/
  others : ∀ h, h ≠ g → t.gates.get h = s.gates.get h
  /-- The slots. -/
  queue : t.queue = if r.newReport f ∧ (s.reportFinding g f = .confirms ∨ s.reportFinding g f = .mismatch) then
    s.confirmedQueue g f else s.queue
  /-- The latched causes. -/
  holds : ∀ h k, k = .missed ∨ k = .mismatch ∨ k = .unconfirmed → t.holds h k =
    (s.holds h k || (r.newReport f && decide (s.reportFinding g f = .mismatch) && decide (h = g ∧ k = .mismatch)))
  /-- The robots' own records. -/
  robots : ∀ u, (t.robots.get u).map Robot.own = (s.robots.get u).map Robot.own
  /-- The notices but those of the handed-on changes. -/
  notices : s.Gives t (s.latchNotice t g .mismatch f.handled)
  /-- Everything else stands. -/
  frame : { t.unhanded s with gates := s.gates, queue := s.queue } = s

/-- A taken frame at the end of its step. -/
theorem State.gateStatusTaken_taken {s : State} {g : Fin 2} {f : StatusFrame} {r : GateRec} (hr : s.gates.get g = some r)
    (passes : seqPasses r.lastSeq f.seq = true) :
    s.GateTaken (s.gateStatusTaken g f).settle g f (r.takeFrame f s.time.localTime) := by
  rw [State.gateStatusTaken_passes hr passes]
  generalize ha : (s.onGate g fun r => r.takeFrame f s.time.localTime).handOn = a
  have gates : a.gates = s.gates.modify g (Option.map fun r => r.takeFrame f s.time.localTime) := by rw [← ha]; simp
  have queue : a.queue = s.queue := by rw [← ha]; simp
  have time : a.time = s.time := by rw [← ha]; simp
  have gate : a.gates.get g = some (r.takeFrame f s.time.localTime) := by rw [gates, Table.get_modify_self, hr]; rfl
  have finding : a.reportFinding g f = s.reportFinding g f := by
    rw [State.reportFinding, State.slotOf, queue]
    rfl
  have holds : ∀ h k, k = .missed ∨ k = .mismatch ∨ k = .unconfirmed → a.holds h k = s.holds h k := fun h k hk => by
    rw [← ha]
    exact State.handOn_latchedStand _ h k hk
  have after : ∀ h k, k = .missed ∨ k = .mismatch ∨ k = .unconfirmed →
      (a.takeReport g f).handOn.settle.holds h k = (a.takeReport g f).holds h k :=
    fun h k hk => State.handOn_latchedStand _ h k hk
  have eq := State.takeReport_eq gate f
  rw [finding] at eq
  constructor
  · rw [State.settle_gates, State.handOn_gates, eq, State.latchIf_eq]
    exact Table.get_set_self _ _ _
  · intro h other
    rw [State.settle_gates, State.handOn_gates, eq, State.latchIf_eq]
    exact (Table.get_set_ne _ _ other).trans ((congrArg (Table.get · h) gates).trans (Table.get_modify_ne _ _ other))
  · rw [State.settle_queue, State.handOn_queue, eq, State.latchIf_eq, State.confirmedQueue, queue]
    rfl
  · intro h k hk
    rw [after h k hk, eq, State.latchIf_holds, ← holds h k hk]
    rfl
  · intro u
    rw [State.settle_robots, State.handOn_own, eq, State.latchIf_robots]
    refine Eq.trans ?_ (State.handOn_own (s.onGate g fun r => r.takeFrame f s.time.localTime) u)
    rw [ha]
  · refine State.settle_notices ?_ ?_ fun none => ?_
    · rw [State.handOn_report, eq, State.latchIf_eq, ← ha]
      simp
    · rw [State.handOn_report, eq, State.latchIf_eq, ← ha]
      simp
    · have before : a.given.filter (fun n => !n.handed) = [] := by
        rw [← ha, State.handOn_gives]
        exact congrArg (List.filter _) none
      have mismatch : LineCause.mismatch = .missed ∨ LineCause.mismatch = .mismatch ∨ LineCause.mismatch = .unconfirmed :=
        .inr (.inl rfl)
      rw [State.handOn_gives, eq, State.latchIf_given, List.filter_append, before, List.nil_append,
        State.latchNotice_filter _ _ _ mismatch, ← eq]
      exact State.latchNotice_congr (congrArg TimeUnit.hall time) (holds g _ mismatch) (after g _ mismatch).symm
  · rw [State.settle_unhanded, State.handOn_unhanded, eq, State.latchIf_unhanded]
    have frame : a.unhanded s = (s.onGate g fun r => r.takeFrame f s.time.localTime).unhanded s := by
      rw [← ha, State.handOn_unhanded]
    refine (congrArg (fun b : State => { b with gates := s.gates, queue := s.queue }) frame :).trans ?_
    cases s
    rfl

/-- Settles O33: the frame is stale, or is taken and its report is examined; `finding_confirms`, `finding_mismatch`,
`finding_repeated` and `finding_turned` say what the report means. -/
theorem gateStatusFrameHandled : Obligations.GateStatusFrameHandled := by
  intro tag s s1 c g f r take config gate report new decision taken confirmed
  have answer : exec (.gateStatusFrame tag) s = .next (s1.gateStatusTaken g f).settle := State.taking_some s _ take
  obtain ⟨path, rfl⟩ := State.take_path take
  refine ⟨_, answer, ?_⟩
  cases passes : seqPasses r.lastSeq f.seq with
  | false =>
    rw [State.gateStatusTaken_stale (s := { s with path := path }) gate passes]
    refine ⟨fun h other => Table.get_modify_ne _ _ other, fun _ => ⟨?_, ?_, ?_⟩, nofun⟩
    · exact (Table.get_modify_self _ _ _).trans (congrArg (Option.map _) gate)
    · exact State.settle_givesOnly rfl rfl (List.append_nil _).symm
    · cases s
      rfl
  | true =>
    have fresh : (r.takeFrame f s.time.localTime).newReport f = true ↔ new :=
      (Bool.and_eq_true _ _).to_iff.trans (and_congr Iff.rfl decide_eq_true_iff)
    have queue : ({ s with path := path } : State).confirmedQueue g f = confirmed :=
      congrArg (List.map · s.queue) (funext fun q => by rw [Slot.confirm_eq])
    obtain ⟨gate', others, queue', holds, robots, notices, frame⟩ :=
      State.gateStatusTaken_taken (s := { s with path := path }) gate passes
    have means : ({ s with path := path } : State).reportFinding g f = finding decision f.handledEjected := rfl
    rw [means] at gate' queue' holds
    rw [queue] at queue'
    have latched : State.holds _ g .mismatch = (s.holds g .mismatch || _) := holds g .mismatch (.inr (.inl rfl))
    rw [decide_eq_true (p := g = g ∧ LineCause.mismatch = .mismatch) ⟨rfl, rfl⟩, Bool.and_true] at latched
    refine ⟨others, nofun, fun _ => ⟨notices, robots, fun h k other => ?_, fun old => ?_, fun now none => ?_, fun d now formed => ?_,
      frame⟩⟩
    · have apart : ¬ (h = g ∧ k = .mismatch) := by rcases other with rfl | rfl | ⟨-, other⟩ <;> simp_all
      rw [holds h k (by rcases other with rfl | rfl | ⟨rfl, -⟩ <;> simp), decide_eq_false apart, Bool.and_false, Bool.or_false]
      rfl
    · have old' := Bool.eq_false_iff.2 (fresh.not.2 old)
      simp only [old', GateRec.examined, Bool.false_eq_true, false_and, if_false, Bool.false_and, Bool.or_false] at gate' queue' latched
      exact ⟨gate', queue', latched⟩
    · have now' := fresh.2 now
      rw [none] at gate' queue' latched
      simp only [now', GateRec.examined, if_true] at gate' queue' latched
      exact ⟨gate', by simpa [finding] using queue', by simpa [finding] using latched⟩
    · have now' := fresh.2 now
      rw [formed] at gate' queue' latched
      simp only [now', GateRec.examined, if_true, true_and, Bool.true_and] at gate' queue' latched
      refine ⟨?_, fun unconfirmed agrees => ?_, fun unconfirmed differs => ?_, fun same => ?_, fun turned => ?_⟩
      · rw [if_neg (finding_formed d f.handledEjected)] at gate'
        exact gate'
      · rw [finding_confirms unconfirmed agrees] at queue' latched
        exact ⟨by simpa using queue', by simpa using latched⟩
      · rw [finding_mismatch unconfirmed differs] at queue' latched
        exact ⟨by simpa using queue', by simpa using latched⟩
      · rw [finding_repeated same] at queue' latched
        exact ⟨by simpa using queue', by simpa using latched⟩
      · rw [finding_turned turned] at queue' latched
        exact ⟨by simpa using queue', by simpa using latched⟩

end Sys2Proof.Machine
end


section
/-! The status timeouts (O27): a robot that becomes LOST, what its zone makes of it (R84, R85, R116, R117), and a gate that becomes
LOST (R66). -/

namespace Sys2Proof.Machine

/-! ## A zone that falls to HELD -/

/-- The record of a zone that has fallen to HELD (R107, R118, R120). -/
def Zone.fallen (k : Zone) : Zone :=
  { k with state := .held, unlocked := false, afterForced := false, access := none, clearing := none }

/-- It is the record of one that enters HELD, at any time. -/
theorem Zone.enter_held (k : Zone) (now : Nat) : k.enter .held now = k.fallen := by
  simp [Zone.enter, Zone.fallen]

/-- A zone out of RUN that enters HELD marks no bottle (R108). -/
theorem State.moveZone_held {s : State} {c : HallConfig} {z : Fin 8} (out : (s.zones.get z).state ≠ .run) :
    s.moveZone c z .held = s.onZone z Zone.fallen := by
  simp [State.moveZone, out, Zone.enter_held]

/-- Zone `z` comes to hold the record `k`, and the completions have their notices (R111). -/
def State.zoneBecomes (s : State) (z : Fin 8) (k : Zone) (completions : List (Completion × Origin)) : State :=
  { s with
    zones := s.zones.set z k
    given := s.given ++ completions.map (s.zoneNotice { s with zones := s.zones.set z k } z) }

/-- A zone that keeps its record and completes nothing. -/
theorem State.zoneBecomes_same (s : State) (z : Fin 8) : s.zoneBecomes z (s.zones.get z) [] = s := by
  simp [State.zoneBecomes]

/-- A zone's notice is read from hall time and from its state. -/
theorem State.zoneNotice_congr {s s' t t' : State} {z : Fin 8} (time : s'.time = s.time)
    (state : t'.zones.get z = t.zones.get z) (e : Completion × Origin) : s'.zoneNotice t' z e = s.zoneNotice t z e := by
  simp only [State.zoneNotice, State.note, time, state]

/-- A record changed, with one completion's notice. -/
theorem State.giveZoneCompletion_onZone (s : State) (z : Fin 8) (f : Zone → Zone) (code : Completion) (o : Origin) :
    (s.onZone z f).giveZoneCompletion z code o = s.zoneBecomes z (f (s.zones.get z)) [(code, o)] := by
  cases o <;> rfl

/-- A record changed, and its ENTER in flight completed (R110). -/
theorem State.completeEnter_onZone {s : State} {z : Fin 8} {f : Zone → Zone} {q : Byte}
    (flight : (f (s.zones.get z)).inFlight = some q) (code : Completion) :
    (s.onZone z f).completeEnter z code = s.zoneBecomes z
      { f (s.zones.get z) with inFlight := none, pending := some { code := code, origin := .command q, further := false } }
      [(code, .command q)] := by
  have found : ((s.onZone z f).zones.get z).inFlight = some q := by rw [← flight]; simp
  rw [State.completeEnter, found]
  simp only [State.onZone, Table.modify_modify]
  exact s.giveZoneCompletion_onZone z (fun k => { f k with
    inFlight := none, pending := some { code := code, origin := .command q, further := false } }) code (.command q)

/-- A record changed, with no ENTER in flight to complete. -/
theorem State.completeEnter_onZone_none {s : State} {z : Fin 8} {f : Zone → Zone}
    (flight : (f (s.zones.get z)).inFlight = none) (code : Completion) :
    (s.onZone z f).completeEnter z code = s.zoneBecomes z (f (s.zones.get z)) [] := by
  have found : ((s.onZone z f).zones.get z).inFlight = none := by rw [← flight]; simp
  rw [State.completeEnter, found]
  simp [State.zoneBecomes, State.onZone, Table.modify]

/-- A record changed, and completed of its own accord (R111). -/
theorem State.completeAlone_onZone (s : State) (z : Fin 8) (f : Zone → Zone) (code : Completion) :
    (s.onZone z f).completeAlone z code = s.zoneBecomes z
      { f (s.zones.get z) with pending := merged (f (s.zones.get z)).pending code } [(code, .autonomous)] := by
  simp only [State.completeAlone, State.onZone, Table.modify_modify]
  refine (s.giveZoneCompletion_onZone z _ code .autonomous).trans ?_
  congr 2
  cases (f (s.zones.get z)).pending <;> rfl

/-! ## The zone of a robot that is lost -/

/-- What the loss of robot `u`, whose accepted state was `old`, makes of its zone's record `k`, with its completions (R116,
R117). -/
inductive ZoneFall (k : Zone) (u : Fin 24) (old : MachineState) : Zone → List (Completion × Origin) → Prop
  /-- The zone does not mind. -/
  | stands (calm : old ≠ .safe ∨ (k.state ≠ .requested ∧ k.state ≠ .breakpoint) ∨ (k.state = .requested ∧ u ∉ k.safeReached)) :
      ZoneFall k u old k []
  /-- A zone in REQUESTED falls to HELD, and its ENTER completes. -/
  | requested {q : Byte} (state : k.state = .requested) (safe : old = .safe) (member : u ∈ k.safeReached)
      (flight : k.inFlight = some q) :
      ZoneFall k u old
        { k.fallen with
          inFlight := none, pending := some { code := .abnormalChanged, origin := .command q, further := false } }
        [(.abnormalChanged, .command q)]
  /-- One without an ENTER in flight, which no run reaches, completes nothing. -/
  | idle (state : k.state = .requested) (safe : old = .safe) (member : u ∈ k.safeReached) (flight : k.inFlight = none) :
      ZoneFall k u old k.fallen []
  /-- A zone in BREAK falls to HELD of its own accord. -/
  | breakpoint (state : k.state = .breakpoint) (safe : old = .safe) :
      ZoneFall k u old { k.fallen with pending := merged k.pending .abnormalChanged } [(.abnormalChanged, .autonomous)]

/-- The zone's test of a lost robot moves the zone's record and gives its completions. -/
theorem State.zoneSees_lost {s : State} {c : HallConfig} {u : Fin 24} {z : Fin 8} (member : c.zoneOf u = some z)
    (old : MachineState) : ∃ k l, ZoneFall (s.zones.get z) u old k l ∧ s.zoneSees c u old .lost = s.zoneBecomes z k l := by
  have stands : ∀ calm, ∃ k l, ZoneFall (s.zones.get z) u old k l ∧ s = s.zoneBecomes z k l := fun calm =>
    ⟨_, _, .stands calm, (s.zoneBecomes_same z).symm⟩
  simp only [State.zoneSees, member]
  split
  · next same => exact stands (.inl (by rw [same]; nofun))
  · simp only [State.zoneTest, reduceCtorEq, if_false, ne_eq, not_false_eq_true, and_true]
    split
    · next state =>
      have out : (s.zones.get z).state ≠ .run := by rw [state]; nofun
      split
      · next leaves =>
        obtain ⟨safe, reached⟩ := leaves
        rw [State.moveZone_held out]
        cases flight : (s.zones.get z).inFlight with
        | none => exact ⟨_, _, .idle state safe reached flight, State.completeEnter_onZone_none flight _⟩
        | some q => exact ⟨_, _, .requested state safe reached flight, State.completeEnter_onZone flight _⟩
      · next stays =>
        by_cases safe : old = .safe
        · exact stands (.inr (.inr ⟨state, fun reached => stays ⟨safe, reached⟩⟩))
        · exact stands (.inl safe)
    · next other =>
      split
      · next leaves =>
        obtain ⟨state, safe⟩ := leaves
        have out : (s.zones.get z).state ≠ .run := by rw [state]; nofun
        rw [State.moveZone_held out]
        exact ⟨_, _, .breakpoint state safe, s.completeAlone_onZone z Zone.fallen _⟩
      · next stays =>
        by_cases safe : old = .safe
        · exact stands (.inr (.inl ⟨other, fun state => stays ⟨state, safe⟩⟩))
        · exact stands (.inl safe)

namespace ZoneFall

variable {k k' : Zone} {u : Fin 24} {old : MachineState} {l : List (Completion × Origin)}

/-- A member that leaves SAFE takes a zone in REQUESTED to HELD (R116). -/
theorem of_requested (fall : ZoneFall k u old k' l) {q : Byte} (state : k.state = .requested) (flight : k.inFlight = some q)
    (safe : old = .safe) (member : u ∈ k.safeReached) :
    l = [(.abnormalChanged, .command q)] ∧
      k' = { k.fallen with
        inFlight := none, pending := some { code := .abnormalChanged, origin := .command q, further := false } } := by
  cases fall with
  | stands calm => simp [state, safe, member] at calm
  | requested _ _ _ flight' =>
    obtain rfl := Option.some.inj (flight'.symm.trans flight)
    exact ⟨rfl, rfl⟩
  | idle _ _ _ flight' => cases flight'.symm.trans flight
  | breakpoint state' => cases state'.symm.trans state

/-- It takes a zone in BREAK to HELD (R117). -/
theorem of_breakpoint (fall : ZoneFall k u old k' l) (state : k.state = .breakpoint) (safe : old = .safe) :
    l = [(.abnormalChanged, .autonomous)] ∧ k' = { k.fallen with pending := merged k.pending .abnormalChanged } := by
  cases fall with
  | stands calm => simp [state, safe] at calm
  | requested state' => cases state'.symm.trans state
  | idle state' => cases state'.symm.trans state
  | breakpoint => exact ⟨rfl, rfl⟩

/-- Else the zone stands. -/
theorem of_calm (fall : ZoneFall k u old k' l)
    (calm : old ≠ .safe ∨ (k.state ≠ .requested ∧ k.state ≠ .breakpoint) ∨ (k.state = .requested ∧ u ∉ k.safeReached)) :
    l = [] ∧ k' = k := by
  cases fall with
  | stands => exact ⟨rfl, rfl⟩
  | requested state safe member => simp [state, safe, member] at calm
  | idle state safe member => simp [state, safe, member] at calm
  | breakpoint state safe => simp [state, safe] at calm

end ZoneFall

/-- What the zones' test makes of the zones when robot `u`, whose accepted state was `old`, is lost, and the notices it gives. -/
structure State.LossSeen (s : State) (c : HallConfig) (u : Fin 24) (old : MachineState) (zones : Table Zone 8)
    (given : List Notice) : Prop where
  /-- The robot's zone. -/
  member : ∀ z, c.zoneOf u = some z → ∃ l, ZoneFall (s.zones.get z) u old (zones.get z) l ∧
    given = l.map (s.zoneNotice { s with zones := zones } z)
  /-- The other zones stand. -/
  others : ∀ z, c.zoneOf u ≠ some z → zones.get z = s.zones.get z
  /-- The notices are completions of zones. -/
  kind : ∀ n ∈ given, n.kind = .zoneCompletion

/-- It is read from the zones and hall time. -/
theorem State.LossSeen.congr {s s' : State} {c : HallConfig} {u : Fin 24} {old : MachineState} {zones : Table Zone 8}
    {given : List Notice} (seen : s'.LossSeen c u old zones given) (same : s'.zones = s.zones) (time : s'.time = s.time) :
    s.LossSeen c u old zones given where
  member z zone := by
    obtain ⟨l, fall, notices⟩ := seen.member z zone
    rw [same] at fall
    exact ⟨l, fall, notices.trans (List.map_congr_left fun e _ => State.zoneNotice_congr time rfl e)⟩
  others z other := (seen.others z other).trans (by rw [same])
  kind := seen.kind

/-- The zones' test of a lost robot moves the zones, gives its notices, and leaves everything else. -/
theorem State.zoneSees_lost_seen (s : State) (c : HallConfig) (u : Fin 24) (old : MachineState) :
    ∃ zones given, s.LossSeen c u old zones given ∧
      s.zoneSees c u old .lost = { s with zones := zones, given := s.given ++ given } := by
  cases member : c.zoneOf u with
  | none =>
    refine ⟨s.zones, [], ⟨?_, fun _ _ => rfl, fun _ mem => nomatch mem⟩, ?_⟩
    · intro z some
      cases member.symm.trans some
    · simp [State.zoneSees, member]
  | some z =>
    obtain ⟨k, l, fall, becomes⟩ := s.zoneSees_lost member old
    refine ⟨s.zones.set z k, l.map (s.zoneNotice { s with zones := s.zones.set z k } z), ⟨?_, ?_, ?_⟩, becomes⟩
    · intro y same
      obtain rfl := Option.some.inj (member.symm.trans same)
      exact ⟨l, by rwa [Table.get_set_self], rfl⟩
    · exact fun y other => Table.get_set_ne _ _ fun same => other (same ▸ member)
    · intro n mem
      obtain ⟨e, -, rfl⟩ := List.mem_map.1 mem
      rfl

/-! ## The robot that is lost -/

/-- ROBOT_LOST at the entry to LOST (R85). -/
def State.lostNotices (s : State) (u : Fin 24) (r : Robot) : List Notice :=
  if r.accepted = .lost then []
  else [{ s.note .robotLost with subject := u.val, detail := BitVec.ofNat 32 r.accepted.code }]

/-- A robot that is lost, in one equation (R84, R85). -/
theorem State.loseRobot_eq (s : State) (u : Fin 24) (r : Robot) : s.loseRobot u r = { s with
    robots := s.robots.modify u (Option.map Robot.lose)
    given := s.given ++ s.lostNotices u r } := by
  have detail : detailNat r.accepted.code = BitVec.ofNat 32 r.accepted.code :=
    detailNat_of_lt (by cases r.accepted <;> decide)
  simp only [State.loseRobot, State.lostNotices, detail]
  split
  · simp only [List.append_nil]
    rfl
  · rfl

/-- A robot that has become LOST is HELD with cause LOST and release-confirm set, after the change is handed on (R86, R89, R90). -/
theorem State.loseRobot_handOn_get {s : State} {c : HallConfig} {u : Fin 24} {r : Robot} (config : s.config = some c)
    (robot : s.robots.get u = some r) : ∃ r', (s.loseRobot u r).handOn.robots.get u = some r' ∧ r'.own = r.lose.own ∧
      r'.has .lost = true ∧ r'.gate = .held ∧ r'.confirm = true := by
  have config' : (s.loseRobot u r).config = some c := by rw [State.loseRobot_eq, config]
  have lost : (s.loseRobot u r).robots.get u = some r.lose := by rw [State.loseRobot_robots, Table.get_modify_self, robot]; rfl
  generalize s.loseRobot u r = a at config' lost
  refine ⟨((a.followGate c 0).followGate c 1).robotAfter c u r.lose, ?_, State.robotAfter_own _ c u _, ?_, ?_, ?_⟩
  · rw [a.handOn_get config', lost]
    rfl
  · exact State.robotAfter_has _ c u _ .lost
  · rw [State.robotAfter_of_causes (State.causesOf_ne_zero (k := .lost) rfl)]
  · rw [State.robotAfter_of_causes (State.causesOf_ne_zero (k := .lost) rfl)]
    rfl

/-- No other robot's own record changes, nor any latched cause. -/
theorem State.loseRobot_handedBut (s : State) (u : Fin 24) (r : Robot) : s.HandedBut (s.loseRobot u r).handOn u where
  robots v other := by rw [State.handOn_own, State.loseRobot_robots, Table.get_modify_ne _ _ other]
  latched g k hk := by
    rw [State.handOn_latchedStand _ g k hk, State.loseRobot_eq]
    rfl

/-- Nothing else moves but what the handing on puts back. -/
theorem State.loseRobot_handOn_unhanded (s : State) (u : Fin 24) (r : Robot) : (s.loseRobot u r).handOn.unhanded s = s := by
  rw [State.handOn_unhanded, State.loseRobot_eq]
  rfl

/-- Robot `u` lost and handed on, with what the test of its zone makes of the zones, and the notices of that test. -/
def State.robotGone (s : State) (u : Fin 24) (r : Robot) (zones : Table Zone 8) (given : List Notice) : State :=
  { (s.loseRobot u r).handOn with zones := zones, given := (s.loseRobot u r).handOn.given ++ given }

/-- The step that loses robot `u`: the zones' test finds the zones as the step found them. -/
theorem exec_robotStatusTimeout_due {s : State} {c : HallConfig} {u : Fin 24} {r : Robot} {b : Nat}
    (config : s.config = some c) (robot : s.robots.get u = some r) (start : r.statusStart = some b)
    (due : b + (c.units.get u).statusTimeout * 1000000 ≤ s.time.localTime) :
    ∃ zones given, s.LossSeen c u r.accepted zones given ∧
      exec (.robotStatusTimeout u) s = .next (s.robotGone u r zones given).settle := by
  obtain ⟨zones, given, seen, sees⟩ := (s.loseRobot u r).handOn.zoneSees_lost_seen c u r.accepted
  have begun : (s.loseRobot u r).handOn.zones = s.zones ∧ (s.loseRobot u r).handOn.time = s.time := by
    simp [State.loseRobot_eq]
  refine ⟨zones, given, seen.congr begun.1 begun.2, ?_⟩
  have timeout : s.robotTimeoutDue u (c.units.get u).statusTimeout = true := by
    simp [State.robotTimeoutDue, robot, start, timerDue, ms, due]
  change execRobotStatusTimeout u s = _
  simp only [execRobotStatusTimeout, config, timeout, if_true, State.robotLost, robot, sees, State.robotGone]

/-! ## Its notices -/

/-- A notice of a handed-on change is no zone's completion. -/
theorem Notice.handed_of_zoneCompletion {n : Notice} (kind : n.kind = .zoneCompletion) : n.handed = false := by
  simp [Notice.handed, kind, NoticeKind.rule]

/-- Neither is ROBOT_LOST. -/
theorem State.mem_lostNotices {s : State} {u : Fin 24} {r : Robot} {n : Notice} (mem : n ∈ s.lostNotices u r) :
    n.kind ≠ .zoneCompletion ∧ n.handed = false := by
  unfold State.lostNotices at mem
  split at mem
  · cases mem
  · obtain rfl := List.mem_singleton.1 mem
    exact ⟨NoticeKind.noConfusion, rfl⟩

/-- The notices of the step but those of the handed-on change. -/
theorem State.robotGone_notices {s : State} {u : Fin 24} {r : Robot} {zones : Table Zone 8} {given own : List Notice}
    {p : Notice → Bool} (handed : ∀ n, n.handed = true → p n = false)
    (picked : (s.lostNotices u r).filter p ++ given.filter p = own) : s.Notices (s.robotGone u r zones given).settle p own := by
  refine State.settle_notices (by simp [State.robotGone, State.loseRobot_eq]) (by simp [State.robotGone, State.loseRobot_eq])
    fun none => ?_
  rw [← picked, State.robotGone, List.filter_append, State.handOn_filter _ p handed, State.loseRobot_eq, none, List.nil_append]

/-- ROBOT_LOST, at the entry to LOST, is the only one that is no zone's completion (R85). -/
theorem State.robotGone_gives {s : State} {c : HallConfig} {u : Fin 24} {r : Robot} {zones : Table Zone 8} {given : List Notice}
    (seen : s.LossSeen c u r.accepted zones given) :
    s.Notices (s.robotGone u r zones given).settle (fun n => !n.handed && decide (n.kind ≠ .zoneCompletion))
      (s.lostNotices u r) := by
  refine State.robotGone_notices (fun n handed => by simp [handed]) ?_
  have lost : (s.lostNotices u r).filter (fun n => !n.handed && decide (n.kind ≠ .zoneCompletion)) = s.lostNotices u r :=
    List.filter_eq_self.2 fun n mem => by simp [State.mem_lostNotices mem]
  have zone : given.filter (fun n => !n.handed && decide (n.kind ≠ .zoneCompletion)) = [] :=
    List.filter_eq_nil_iff.2 fun n mem => by simp [seen.kind n mem]
  rw [lost, zone, List.append_nil]

/-- The completions are those of the zones' test (R116, R117). -/
theorem State.robotGone_completes {s : State} {c : HallConfig} {u : Fin 24} {r : Robot} {zones : Table Zone 8}
    {given : List Notice} (seen : s.LossSeen c u r.accepted zones given) :
    s.Notices (s.robotGone u r zones given).settle (fun n => decide (n.kind = .zoneCompletion)) given := by
  refine State.robotGone_notices (fun n handed => decide_eq_false fun kind => ?_) ?_
  · cases (Notice.handed_of_zoneCompletion kind).symm.trans handed
  · have lost : (s.lostNotices u r).filter (fun n => decide (n.kind = .zoneCompletion)) = [] :=
      List.filter_eq_nil_iff.2 fun n mem => by simp [State.mem_lostNotices mem]
    have zone : given.filter (fun n => decide (n.kind = .zoneCompletion)) = given :=
      List.filter_eq_self.2 fun n mem => by simp [seen.kind n mem]
    rw [lost, zone, List.nil_append]

/-! ## The gate that is lost -/

/-- The step that loses gate `g` (R66). -/
theorem exec_gateStatusTimeout_due {s : State} {c : HallConfig} {g : Fin 2} {r : GateRec} {b : Nat}
    (config : s.config = some c) (gate : s.gates.get g = some r) (start : r.statusStart = some b)
    (due : b + (c.gates.get g).statusTimeout * 1000000 ≤ s.time.localTime) :
    exec (.gateStatusTimeout g) s = .next (s.gateLost g).handOn.settle := by
  have timeout : s.gateTimeoutDue g (c.gates.get g).statusTimeout = true := by
    simp [State.gateTimeoutDue, gate, start, timerDue, ms, due]
  change execGateStatusTimeout g s = _
  simp only [execGateStatusTimeout, config, timeout, if_true]

/-! ## The obligation -/

/-- Settles O27: `State.loseRobot_handOn_get` gives the robot, `State.zoneSees_lost_seen` its zone. -/
theorem statusTimeoutsLose : Obligations.StatusTimeoutsLose := by
  intro s c config
  refine ⟨fun u r b robot start due => ?_, fun g u r b gate unit start due => ?_⟩
  · obtain ⟨r', robot', own, lost, held, confirm⟩ := State.loseRobot_handOn_get config robot
    obtain ⟨robots, latched⟩ := s.loseRobot_handedBut u r
    obtain ⟨zones, given, seen, answer⟩ := exec_robotStatusTimeout_due config robot start due
    have completes := s.robotGone_completes seen
    refine ⟨_, r', answer, robot', own, lost, held, confirm, ⟨robots, latched⟩, s.robotGone_gives seen, fun z zone => ?_,
      seen.others, ?_⟩
    · obtain ⟨l, fall, rfl⟩ := seen.member z zone
      refine ⟨fun q state flight safe member => ?_, fun state safe => ?_, fun calm => ?_⟩
      · obtain ⟨rfl, record⟩ := fall.of_requested state flight safe member
        exact ⟨completes, record⟩
      · obtain ⟨rfl, record⟩ := fall.of_breakpoint state safe
        exact ⟨completes, record⟩
      · obtain ⟨rfl, record⟩ := fall.of_calm calm
        exact ⟨completes, record⟩
    · exact (congrArg (fun b : State => { b with zones := s.zones }) (s.loseRobot_handOn_unhanded u r) :)
  · have handed : s.Handed (s.gateLost g).handOn := State.handed_of_handOn rfl rfl
    have lost : (s.gateLost g).handOn.gates.get g = some { r with accepted := .lost, statusStart := none } := by
      rw [State.handOn_gates]
      exact (Table.get_modify_self _ _ _).trans (congrArg (Option.map _) gate)
    have config' : (s.gateLost g).handOn.config = some c := by rw [State.handOn_config]; exact config
    refine ⟨_, exec_gateStatusTimeout_due config gate start due, lost, fun h other => ?_, ?_,
      ⟨handed.robots, handed.latched⟩, ?_, ?_⟩
    · exact (congrArg (Table.get · h) (State.handOn_gates (s.gateLost g))).trans (Table.get_modify_ne _ _ other)
    · exact ((s.gateLost g).handOn_causesFollow.gates c g u _ config' unit lost .lost (by simp)).trans rfl
    · refine State.settle_notices (by rw [State.handOn_report]; rfl) (by rw [State.handOn_report]; rfl) fun none => ?_
      rw [State.handOn_gives]
      exact congrArg (List.filter _) none
    · rw [State.settle_unhanded, State.handOn_unhanded]
      cases s
      rfl

end Sys2Proof.Machine
end

section
/-! SUPPORT. One robot's record changed and the change handed on: what becomes of that robot, of the others and of the latched
causes (R86, R89, R90). -/

namespace Sys2Proof.Machine

/-- The byte of STALE holds STALE. -/
theorem causeBit_stale_getLsbD : (causeBit .stale).getLsbD Cause.stale.code = true := rfl

/-- A robot once a change has been handed on: its own record and STALE stand, and with a cause it is HELD (R86, R89). -/
theorem State.handOn_follows {a : State} {c : HallConfig} {u : Fin 24} {r : Robot} (config : a.config = some c)
    (robot : a.robots.get u = some r) :
    ∃ r', a.handOn.robots.get u = some r' ∧ r'.own = r.own ∧ r'.has .stale = r.has .stale ∧
      (r'.causes ≠ 0 → r'.gate = .held) :=
  ⟨_, (a.handOn_get config u).trans (congrArg (Option.map _) robot), State.robotAfter_own _ c u r,
    State.robotAfter_has _ c u r .stale, fun cause => (State.robotAfter_gate_of_causes cause).1⟩

/-- When the change is one of robot `u` alone, handing it on leaves the other robots' own records and the latched causes. -/
theorem State.handedBut_of_handOn {s a : State} {u : Fin 24} (robots : ∀ v, v ≠ u → a.robots.get v = s.robots.get v)
    (lineHold : a.lineHold = s.lineHold) : s.HandedBut a.handOn u where
  robots v other := by rw [State.handOn_own, robots v other]
  latched g k hk := by rw [State.handOn_latchedStand a g k hk, State.holds, lineHold, State.holds]

/-- The record of robot `u` once it has been changed. -/
theorem State.onRobot_get {s : State} {u : Fin 24} {r : Robot} (robot : s.robots.get u = some r) (f : Robot → Robot) :
    (s.onRobot u f).robots.get u = some (f r) := by
  rw [State.onRobot_robots, Table.get_modify_self, robot]
  rfl

/-- A change of one robot's record, handed on, gives no notice of its own (R75, R89). -/
theorem State.onRobot_handOn_gives {s : State} (u : Fin 24) (f : Robot → Robot) (none : s.given = []) :
    (s.onRobot u f).handOn.given.filter (fun n => !n.handed) = [] := by
  rw [State.handOn_gives]
  exact congrArg (List.filter _) none

end Sys2Proof.Machine
end

section
/-! ROBOT_STATUS_FRAME (O25): what a taken frame makes of its robot's record (R82, R83), ROBOT_FAULT (R85), and the frame of the
test that the robot's zone then makes (R116, R117). -/

namespace Sys2Proof.Machine

/-! ## The frame of the zone's test -/

/-- From `s` to `t` the record of zone `z` alone may change, and completions of zones alone are given. -/
def State.ZoneTested (s t : State) (z : Fin 8) : Prop :=
  ∃ k given, (∀ n ∈ given, n.kind = .zoneCompletion) ∧
    t = { s with zones := s.zones.set z k, given := s.given ++ given }

namespace State.ZoneTested

variable {s a t : State} {z : Fin 8}

/-- Nothing moves. -/
theorem refl (s : State) (z : Fin 8) : s.ZoneTested s z :=
  ⟨s.zones.get z, [], fun _ mem => (nomatch mem), by simp⟩

/-- Two such moves are one. -/
theorem trans (first : s.ZoneTested a z) (second : a.ZoneTested t z) : s.ZoneTested t z := by
  obtain ⟨k, given, kind, rfl⟩ := first
  obtain ⟨k', given', kind', rfl⟩ := second
  refine ⟨k', given ++ given', fun n mem => (List.mem_append.1 mem).elim (kind n) (kind' n), ?_⟩
  have last : (s.zones.set z k).set z k' = s.zones.set z k' := Table.ext_get _ _ fun j => by
    simp only [Table.get_set]
    split <;> rfl
  simp [last]

/-- The zone's record changes. -/
theorem onZone (s : State) (z : Fin 8) (f : Zone → Zone) : s.ZoneTested (s.onZone z f) z :=
  ⟨f (s.zones.get z), [], fun _ mem => (nomatch mem), by simp [State.onZone, Table.modify]⟩

/-- A completion of the zone is given. -/
theorem giveZoneCompletion (s : State) (z : Fin 8) (code : Completion) (o : Origin) :
    s.ZoneTested (s.giveZoneCompletion z code o) z := by
  refine ⟨s.zones.get z, [_], fun n mem => ?_, by rw [Table.set_get]; rfl⟩
  obtain rfl := List.mem_singleton.1 mem
  rfl

/-- The zone completes of its own accord (R111). -/
theorem completeAlone (s : State) (z : Fin 8) (code : Completion) : s.ZoneTested (s.completeAlone z code) z :=
  (onZone s z _).trans (giveZoneCompletion _ z code _)

/-- The zone completes its ENTER, if one is in flight (R110). -/
theorem completeEnter (s : State) (z : Fin 8) (code : Completion) : s.ZoneTested (s.completeEnter z code) z := by
  unfold State.completeEnter
  split
  · exact (onZone s z _).trans (giveZoneCompletion _ z code _)
  · exact refl s z

/-- The zone changes its state, out of RUN, so that no bottle is marked (R108). -/
theorem moveZone {s : State} {z : Fin 8} (c : HallConfig) (out : (s.zones.get z).state ≠ .run) (new : ZoneState) :
    s.ZoneTested (s.moveZone c z new) z := by
  have moved : s.moveZone c z new = s.onZone z fun k => k.enter new s.time.localTime := by simp [State.moveZone, out]
  rw [moved]
  exact onZone s z _

/-- The zone is granted when all its robots are SAFE (R116). -/
theorem grantLater {s : State} {z : Fin 8} (c : HallConfig) (out : (s.zones.get z).state ≠ .run) :
    s.ZoneTested (s.grantLater c z) z := by
  unfold State.grantLater
  split
  · exact (moveZone c out _).trans (completeEnter _ z _)
  · exact refl s z

/-- The test of a member robot's change moves the zone alone (R116, R117). -/
theorem zoneTest (s : State) (c : HallConfig) (z : Fin 8) (u : Fin 24) (old new : MachineState) :
    s.ZoneTested (s.zoneTest c z u old new) z := by
  simp only [State.zoneTest]
  split
  · next requested =>
    have out : (s.zones.get z).state ≠ .run := by rw [requested]; nofun
    split
    · exact (onZone s z _).trans (grantLater c (by simpa using out))
    · split
      · exact (moveZone c out _).trans (completeEnter _ z _)
      · exact refl s z
  · split
    · next broken => exact (moveZone c (by rw [broken.1]; nofun) _).trans (completeAlone _ z _)
    · exact refl s z

end State.ZoneTested

/-- The zones' test of a robot's change moves that robot's zone, gives completions, and leaves everything else. -/
theorem State.zoneSees_moves (s : State) (c : HallConfig) (u : Fin 24) (old new : MachineState) :
    ∃ zones given, (∀ z, c.zoneOf u ≠ some z → zones.get z = s.zones.get z) ∧ (∀ n ∈ given, n.kind = .zoneCompletion) ∧
      s.zoneSees c u old new = { s with zones := zones, given := s.given ++ given } := by
  cases member : c.zoneOf u with
  | none => exact ⟨s.zones, [], fun _ _ => rfl, fun _ mem => (nomatch mem), by simp [State.zoneSees, member]⟩
  | some z =>
    have moved : s.ZoneTested (s.zoneSees c u old new) z := by
      simp only [State.zoneSees, member]
      split
      · exact .refl s z
      · exact .zoneTest s c z u old new
    obtain ⟨k, given, kind, eq⟩ := moved
    exact ⟨_, given, fun y other => Table.get_set_ne _ _ fun same => other (same ▸ rfl), kind, eq⟩

/-! ## The record after a report (R83) -/

/-- A report moves the accepted state and the safe run alone. -/
theorem Robot.report_frame (r : Robot) (reported : MachineState) (safeCount : Nat) :
    { r.report reported safeCount with accepted := r.accepted, safeRun := r.safeRun } = r := by
  unfold Robot.report
  repeat' split
  all_goals rfl

/-- A report of another state than SAFE is accepted at once. -/
theorem Robot.report_other {r : Robot} {reported : MachineState} (other : reported ≠ .safe) (safeCount : Nat) :
    r.report reported safeCount = { r with accepted := reported, safeRun := 0 } := by
  simp [Robot.report, other]

/-- A SAFE robot stays SAFE. -/
theorem Robot.report_safe_again {r : Robot} (safe : r.accepted = .safe) (safeCount : Nat) : r.report .safe safeCount = r := by
  simp [Robot.report, safe]

/-- A report of SAFE that is not enough yet is counted. -/
theorem Robot.report_safe_counted {r : Robot} {safeCount : Nat} (notSafe : r.accepted ≠ .safe) (few : r.safeRun + 1 < safeCount) :
    r.report .safe safeCount = { r with safeRun := r.safeRun + 1 } := by
  simp [Robot.report, notSafe, Nat.not_le.2 few]

/-- The last of the needed reports makes the robot SAFE. -/
theorem Robot.report_safe_reached {r : Robot} {safeCount : Nat} (notSafe : r.accepted ≠ .safe)
    (enough : safeCount ≤ r.safeRun + 1) : r.report .safe safeCount = { r with accepted := .safe, safeRun := 0 } := by
  simp [Robot.report, notSafe, enough]

/-- The own record after a taken frame but for the accepted state and the safe run (R82). -/
theorem Robot.takeFrame_frame (r : Robot) (f : StatusFrame) (safeCount now : Nat) :
    { (r.takeFrame f safeCount now).own with accepted := r.accepted, safeRun := r.safeRun } =
      { r.own with lastSeq := some f.seq, statusStart := some now, faultCode := f.faultCode } :=
  congrArg (fun r : Robot => { r.own with lastSeq := some f.seq, statusStart := some now, faultCode := f.faultCode })
    (r.report_frame f.reported safeCount)

/-! ## The step -/

/-- ROBOT_FAULT, at the entry to FAULT or for a new fault code in FAULT (R85). -/
def State.faultNotices (s : State) (u : Fin 24) (before : Robot) (f : StatusFrame) : List Notice :=
  if f.reported = .fault ∧ (before.accepted ≠ .fault ∨ before.faultCode ≠ f.faultCode) then
    [{ s.note .robotFault with subject := u.val, detail := f.faultCode.setWidth 32 }]
  else []

/-- It is neither a notice of a handed-on change nor a zone's completion. -/
theorem State.mem_faultNotices {s : State} {u : Fin 24} {before : Robot} {f : StatusFrame} {n : Notice}
    (mem : n ∈ s.faultNotices u before f) : n.kind ≠ .zoneCompletion ∧ n.handed = false := by
  unfold State.faultNotices at mem
  split at mem
  · obtain rfl := List.mem_singleton.1 mem
    exact ⟨NoticeKind.noConfusion, rfl⟩
  · cases mem

/-- A stale frame is counted (R82). -/
theorem State.robotStatusTaken_stale {s : State} {c : HallConfig} {u : Fin 24} {r : Robot} {f : StatusFrame}
    (config : s.config = some c) (robot : s.robots.get u = some r) (stale : seqPasses r.lastSeq f.seq = false) :
    s.robotStatusTaken u f = s.onRobot u fun r => { r with staleStatus := satAdd 16 r.staleStatus 1 } := by
  simp [State.robotStatusTaken, config, robot, stale]

/-- Robot `u` with its record after a taken frame, and ROBOT_FAULT given (R82, R85). -/
def State.reportTaken (s : State) (c : HallConfig) (u : Fin 24) (r : Robot) (f : StatusFrame) : State :=
  { s.onRobot u fun _ => r.takeFrame f (c.units.get u).safeCount s.time.localTime with
    given := s.given ++ s.faultNotices u r f }

/-- A taken frame: the record and the notice are handed on, and the robot's zone tests the change (R85, R116). -/
theorem State.robotStatusTaken_passes {s : State} {c : HallConfig} {u : Fin 24} {r : Robot} {f : StatusFrame}
    (config : s.config = some c) (robot : s.robots.get u = some r) (passes : seqPasses r.lastSeq f.seq = true) :
    s.robotStatusTaken u f = (s.reportTaken c u r f).handOn.zoneSees c u r.accepted
      (r.takeFrame f (c.units.get u).safeCount s.time.localTime).accepted := by
  have noticed : faultNoticed r f = true ↔ f.reported = .fault ∧ (r.accepted ≠ .fault ∨ r.faultCode ≠ f.faultCode) := by
    simp [faultNoticed]
  simp only [State.robotStatusTaken, config, robot, passes, if_true, State.robotChanged, noticed, State.reportTaken,
    State.faultNotices]
  split
  · rfl
  · rw [List.append_nil]
    rfl

/-- What a taken frame leaves of robot `u` with record `r` (R82, R83, R85). -/
structure State.StatusTaken (s t : State) (c : HallConfig) (u : Fin 24) (f : StatusFrame) (r : Robot) : Prop where
  /-- The record: its causes follow, its own fields are those of the taken frame. -/
  robot : ∃ r', t.robots.get u = some r' ∧ r'.causes = t.causesOf c u r' ∧
    r'.own = (r.takeFrame f (c.units.get u).safeCount s.time.localTime).own
  /-- The notices but those of the handed-on change and of the zone. -/
  notices : s.Notices t (fun n => !n.handed && decide (n.kind ≠ .zoneCompletion)) (s.faultNotices u r f)
  /-- The other robots and the latched causes. -/
  others : s.HandedBut t u
  /-- The other zones. -/
  zones : ∀ z, c.zoneOf u ≠ some z → t.zones.get z = s.zones.get z
  /-- Everything else stands. -/
  frame : { t.unhanded s with zones := s.zones } = s

/-- A taken frame at the end of its step. -/
theorem State.robotStatusTaken_taken {s : State} {c : HallConfig} {u : Fin 24} {r : Robot} {f : StatusFrame}
    (config : s.config = some c) (robot : s.robots.get u = some r) (passes : seqPasses r.lastSeq f.seq = true) :
    s.StatusTaken (s.robotStatusTaken u f).settle c u f r := by
  have taken := State.robotStatusTaken_passes config robot passes
  have follow : (s.robotStatusTaken u f).settle.CausesFollow := by
    rw [taken]
    exact (s.reportTaken c u r f).handOn_causesFollow.of_conditions
      ((State.settle_conditions _).trans (State.zoneSees_conditions _ c u _ _))
  obtain ⟨r', robot', own, -⟩ := State.handOn_follows (a := s.reportTaken c u r f) config (State.onRobot_get robot _)
  obtain ⟨robots, latched⟩ := State.handedBut_of_handOn (s := s) (a := s.reportTaken c u r f) (u := u)
    (fun v other => Table.get_modify_ne _ _ other) rfl
  obtain ⟨zones, given, stand, kind, sees⟩ := (s.reportTaken c u r f).handOn.zoneSees_moves c u r.accepted
    (r.takeFrame f (c.units.get u).safeCount s.time.localTime).accepted
  rw [sees] at taken
  rw [taken] at follow ⊢
  refine ⟨⟨r', robot', follow.robots c u r' ((State.handOn_config _).trans config) robot', own⟩, ?_, ⟨robots, latched⟩,
    fun z other => (stand z other).trans (by rw [State.handOn_zones]; rfl), ?_⟩
  · refine State.settle_notices (by rw [State.handOn_report]; rfl) (by rw [State.handOn_report]; rfl) fun none => ?_
    have fault : (s.faultNotices u r f).filter (fun n => !n.handed && decide (n.kind ≠ .zoneCompletion)) =
        s.faultNotices u r f := List.filter_eq_self.2 fun n mem => by simp [State.mem_faultNotices mem]
    have zone : given.filter (fun n => !n.handed && decide (n.kind ≠ .zoneCompletion)) = [] :=
      List.filter_eq_nil_iff.2 fun n mem => by simp [kind n mem]
    rw [List.filter_append, State.handOn_filter _ _ fun n handed => by simp [handed], zone, List.append_nil,
      State.reportTaken, none, List.nil_append, fault]
  · refine (congrArg (fun b : State => { b with zones := s.zones }) ((s.reportTaken c u r f).handOn_unhanded s) :).trans ?_
    cases s
    rfl

/-- Settles O25: a frame is stale, or `State.robotStatusTaken_taken` says what it leaves, and the lemmas of `Robot.report` how the
safe run sets the accepted state. -/
theorem robotStatusFrameHandled : Obligations.RobotStatusFrameHandled := by
  intro tag s s1 c u f r take config robot
  have answer : exec (.robotStatusFrame tag) s = .next (s1.robotStatusTaken u f).settle := State.taking_some s _ take
  obtain ⟨path, rfl⟩ := State.take_path take
  refine ⟨_, answer, fun stale => ?_, fun passes => ?_⟩
  · rw [State.robotStatusTaken_stale (s := { s with path := path }) config robot stale]
    refine ⟨State.onRobot_get (s := { s with path := path }) robot _, fun v other => Table.get_modify_ne _ _ other,
      State.settle_givesOnly rfl rfl (List.append_nil _).symm, ?_⟩
    cases s
    rfl
  · obtain ⟨⟨r', robot', causes, own⟩, notices, ⟨robots, latched⟩, zones, frame⟩ :=
      State.robotStatusTaken_taken (s := { s with path := path }) config robot passes
    have accepted : r'.accepted = (r.report f.reported (c.units.get u).safeCount).accepted := (congrArg Robot.accepted own :)
    have safeRun : r'.safeRun = (r.report f.reported (c.units.get u).safeCount).safeRun := (congrArg Robot.safeRun own :)
    refine ⟨⟨r', robot', causes, ?_, fun other => ?_, fun reported safe => ?_, fun reported notSafe few => ?_,
      fun reported notSafe enough => ?_⟩, notices, ⟨robots, latched⟩, zones, frame⟩
    · rw [own]
      exact r.takeFrame_frame f _ _
    · rw [Robot.report_other other] at accepted safeRun
      exact ⟨accepted, safeRun⟩
    · rw [reported, Robot.report_safe_again safe] at accepted safeRun
      exact ⟨accepted.trans safe, safeRun⟩
    · rw [reported, Robot.report_safe_counted notSafe few] at accepted safeRun
      exact ⟨accepted, safeRun⟩
    · rw [reported, Robot.report_safe_reached notSafe enough] at accepted safeRun
      exact ⟨accepted, safeRun⟩

end Sys2Proof.Machine
end

section
/-! SEQUENCE_WRITE (O28): a changing sequence is recorded, ends STALE and is handed on; the recorded one is nothing new (R93). -/

namespace Sys2Proof.Machine

/-- The recorded sequence again has no effect (R93). -/
theorem State.sequenceTaken_same {s : State} {u : Fin 24} {r : Robot} {q : Seq} (robot : s.robots.get u = some r)
    (same : r.cmdSeq = some q) : s.sequenceTaken u q = s := by
  simp [State.sequenceTaken, robot, same]

/-- A changing sequence is recorded and handed on (R93). -/
theorem State.sequenceTaken_changed {s : State} {u : Fin 24} {r : Robot} {q : Seq} (robot : s.robots.get u = some r)
    (changes : r.cmdSeq ≠ some q) :
    s.sequenceTaken u q = (s.onRobot u fun r => r.takeSequence q s.time.hall).handOn := by
  simp [State.sequenceTaken, robot, changes]

/-- It ends STALE (R93). -/
theorem Robot.takeSequence_stale (r : Robot) (q : Seq) (now : Nat) : (r.takeSequence q now).has .stale = false := by
  simp only [Robot.has, Robot.takeSequence, Robot.fresh, BitVec.getLsbD_and, BitVec.getLsbD_not, causeBit_stale_getLsbD,
    Bool.not_true, Bool.and_false]

/-- Settles O28: the recorded sequence changes nothing, and a changing one is one robot's change handed on. -/
theorem sequenceWriteRecorded : Obligations.SequenceWriteRecorded := by
  intro s s1 c u q r take config robot
  have answer : exec (.sequenceWrite u) s = .next (s1.sequenceTaken u q).settle := State.taking_some s _ take
  obtain ⟨path, rfl⟩ := State.take_path take
  by_cases same : r.cmdSeq = some q
  · rw [State.sequenceTaken_same (s := { s with path := path }) robot same] at answer
    exact ⟨_, answer, State.settle_notices rfl rfl fun none => congrArg (List.filter _) none, fun _ => rfl,
      fun changes => absurd same changes⟩
  · rw [State.sequenceTaken_changed (s := { s with path := path }) robot same] at answer
    obtain ⟨r', robot', own, stale, held⟩ := State.handOn_follows
      (a := State.onRobot { s with path := path } u fun r => r.takeSequence q s.time.hall) config
      (State.onRobot_get (s := { s with path := path }) robot _)
    obtain ⟨robots, latched⟩ := State.handedBut_of_handOn (s := s)
      (a := State.onRobot { s with path := path } u fun r => r.takeSequence q s.time.hall)
      (fun v other => Table.get_modify_ne _ _ other) rfl
    refine ⟨_, answer, ?_, fun recorded => absurd recorded same, fun _ =>
      ⟨⟨r', robot', own, stale.trans (r.takeSequence_stale q _), held⟩, ⟨robots, latched⟩, ?_⟩⟩
    · exact State.settle_notices (by rw [State.handOn_report]; rfl) (by rw [State.handOn_report]; rfl) fun none =>
        State.onRobot_handOn_gives (s := { s with path := path }) u _ none
    · rw [State.settle_unhanded, State.handOn_unhanded]
      cases s
      rfl

end Sys2Proof.Machine
end

section
/-! ROBOT_COMMAND_READ (O29, O30): the stale test (R94), the form that the read returns (R96 to R100) and what is recorded of it
(R98, R101). -/

namespace Sys2Proof.Machine

/-! ## The read -/

/-- A read of a robot's command frame: the stale test, then the frame rewritten (R96, R150). -/
theorem execRobotCommandRead_eq {s : State} {tag : Fin 32} {c : HallConfig} {w : Window} {x : Txn} {u : Fin 24} {r : Robot}
    (found : s.substituting tag = some (c, w, x)) (kind : w.kind = .command) (unit : unitNumber w.unit = some u)
    (filler : c.kindOf u = .filler) (robot : s.robots.get u = some r) (data : List Word) :
    exec (.robotCommandRead tag data) s = .next ((s.staleTest c u).forwardFrame c u x data).settle := by
  simp only [exec, execRobotCommandRead, found, kind, unit, HallConfig.isRobot, filler, robot, decide_true, Option.isSome_some,
    Bool.and_self, if_true]

/-- What the read of robot `u` with record `r` forwards (R96). -/
def State.forwarded (s : State) (c : HallConfig) (u : Fin 24) (r : Robot) (x : Txn) (data : List Word) : Forwarded :=
  r.form (c.units.get u) (s.writtenFields (fitWords x.length data) x.lineOffset) s.time.hall

/-- The frame rewritten: the robot's record and the answer, in one equation. -/
theorem State.forwardFrame_eq {s : State} {u : Fin 24} {r : Robot} (robot : s.robots.get u = some r) (c : HallConfig) (x : Txn)
    (data : List Word) :
    s.forwardFrame c u x data =
      (s.onRobot u fun k => k.record (s.forwarded c u r x data) (s.writtenFields (fitWords x.length data) x.lineOffset) x.length
        x.lineOffset s.time.hall).onPath fun p => p.answer
          { tag := x.tag, response := .okay
            data := overlay (r.commandFields (s.forwarded c u r x data) s.time.hall) x.lineOffset (fitWords x.length data) } := by
  simp only [State.forwardFrame, robot]
  rfl

/-! ## The stale test (R94) -/

/-- A sequence is stale when none is recorded, or when the recorded one is older than the limit. -/
theorem Robot.isStale_iff {r : Robot} {limit now : Nat} :
    r.isStale limit now = true ↔ ∀ b, r.seqTime = some b → b + limit * 1000000 < now := by
  cases time : r.seqTime with
  | none => simp [Robot.isStale, time]
  | some b =>
    simp only [Robot.isStale, time, ms, Option.some.injEq, forall_eq']
    exact decide_eq_true_iff

/-- A fresh sequence passes the test, which changes nothing. -/
theorem State.staleTest_fresh {s : State} {c : HallConfig} {u : Fin 24} {r : Robot} (robot : s.robots.get u = some r)
    (fresh : r.isStale (c.units.get u).staleLimit s.time.hall = false) : s.staleTest c u = s := by
  simp [State.staleTest, robot, fresh]

/-- A stale one adds STALE, which is handed on. -/
theorem State.staleTest_stale {s : State} {c : HallConfig} {u : Fin 24} {r : Robot} (robot : s.robots.get u = some r)
    (stale : r.isStale (c.units.get u).staleLimit s.time.hall = true) :
    s.staleTest c u = (s.onRobot u fun r => { r with causes := r.causes ||| causeBit .stale }).handOn := by
  simp [State.staleTest, robot, stale]

/-- What the stale test of robot `u` with record `r` leaves, when the robot then is not RELEASED. -/
structure State.HeldAtTest (s a : State) (c : HallConfig) (u : Fin 24) (r r' : Robot) : Prop where
  /-- The record. -/
  robot : a.robots.get u = some r'
  /-- It is not RELEASED. -/
  gate : r'.gate ≠ .released
  /-- A stale sequence holds the robot. -/
  stale : r.isStale (c.units.get u).staleLimit s.time.hall = true → r'.has .stale = true ∧ r'.gate = .held
  /-- A fresh one leaves the causes and the gate state. -/
  fresh : ¬ r.isStale (c.units.get u).staleLimit s.time.hall = true → r'.causes = r.causes ∧ r'.gate = r.gate
  /-- The own record stands. -/
  own : r'.own = r.own
  /-- The other robots and the latched causes. -/
  others : s.HandedBut a u
  /-- The notices are those of the handed-on change. -/
  given : s.given = [] → a.given.filter (fun n => !n.handed) = []
  /-- Everything else stands. -/
  frame : a.unhanded s = s
  /-- No notice has joined the queue yet. -/
  report : a.report = s.report
  /-- Nothing is answered yet. -/
  path : a.path = s.path

/-- The test leaves a robot out of RELEASED that was not RELEASED, or whose sequence is stale (R94). -/
theorem State.staleTest_held {s : State} {c : HallConfig} {u : Fin 24} {r : Robot} (config : s.config = some c)
    (robot : s.robots.get u = some r)
    (holds : r.gate ≠ .released ∨ r.isStale (c.units.get u).staleLimit s.time.hall = true) :
    ∃ r', s.HeldAtTest (s.staleTest c u) c u r r' := by
  cases stale : r.isStale (c.units.get u).staleLimit s.time.hall with
  | false =>
    rw [State.staleTest_fresh robot stale]
    exact ⟨r, robot, holds.resolve_right (by simp [stale]), fun yes => absurd (stale.symm.trans yes) nofun, fun _ => ⟨rfl, rfl⟩,
      rfl, ⟨fun _ _ => rfl, fun _ _ _ => rfl⟩, fun none => congrArg (List.filter _) none, rfl, rfl, rfl⟩
  | true =>
    have latest : ({ r with causes := r.causes ||| causeBit .stale } : Robot).has .stale = true := by
      simp only [Robot.has, BitVec.getLsbD_or, causeBit_stale_getLsbD, Bool.or_true]
    rw [State.staleTest_stale robot stale]
    obtain ⟨r', robot', own, kept, held⟩ := State.handOn_follows
      (a := s.onRobot u fun r => { r with causes := r.causes ||| causeBit .stale }) config (State.onRobot_get robot _)
    have has : r'.has .stale = true := kept.trans latest
    have gate : r'.gate = .held := held fun none => by simp [Robot.has, none] at has
    refine ⟨r', robot', by rw [gate]; nofun, fun _ => ⟨has, gate⟩, fun no => absurd stale no, own,
      State.handedBut_of_handOn (fun v other => Table.get_modify_ne _ _ other) rfl, State.onRobot_handOn_gives u _, ?_,
      State.handOn_report _, State.handOn_path _⟩
    rw [State.handOn_unhanded]
    rfl

/-! ## The hold form (R97) -/

/-- A robot that is not RELEASED receives the hold form. -/
theorem State.forwarded_held {s : State} {c : HallConfig} {u : Fin 24} {r : Robot} (gate : r.gate ≠ .released) (x : Txn)
    (data : List Word) : s.forwarded c u r x data = r.holdForm (c.units.get u) :=
  if_neg gate

/-- Its fields: mode HOLD, no enable and no speed, and the causes. -/
theorem Robot.commandFields_held {r : Robot} (gate : r.gate ≠ .released) (k : UnitCfg) (now : Nat) :
    r.commandFields (r.holdForm k) now =
      [⟨4, 1, 1⟩, ⟨5, 1, 0⟩, ⟨8, 2, (r.holdForm k).volume⟩, ⟨10, 2, 0⟩, ⟨16, 8, now⟩, ⟨24, 1, r.gate.code⟩,
        ⟨26, 2, r.causes.toNat⟩] := by
  rw [Robot.commandFields, if_neg gate]
  rfl

/-- Its record: no mode is counted as unknown (R98, R101). -/
theorem Robot.record_held {r : Robot} (gate : r.gate ≠ .released) (k : UnitCfg) (w : Written) (n off now : Nat) :
    r.record (r.holdForm k) w n off now = { r with
      lastVolume := if returnsWord n off 8 then some (r.holdForm k).volume else r.lastVolume
      lastSpeed := if returnsWord n off 8 then 0 else r.lastSpeed
      lastForward := if returnsWord n off 8 then some now else r.lastForward } := by
  have known : r.miscountsMode w (returnsWord n off 0) = false := by simp [Robot.miscountsMode, gate]
  rw [Robot.record, known]
  rfl

/-- The volume of the hold form is the last one forwarded, in the envelope as it now is. -/
theorem Robot.holdForm_own {r r' : Robot} (own : r'.own = r.own) (k : UnitCfg) : r'.holdForm k = r.holdForm k := by
  rw [Robot.holdForm, show r'.lastVolume = r.lastVolume from (congrArg Robot.lastVolume own :), Robot.holdForm]

/-- Settles O29: the stale test leaves the robot out of RELEASED (`State.staleTest_held`), and the read returns the hold form. -/
theorem robotCommandReadHeld : Obligations.RobotCommandReadHeld := by
  intro tag data s c w x u r found kind unit filler robot k stale volume holds
  have isStale : r.isStale k.staleLimit s.time.hall = true ↔ stale := Robot.isStale_iff
  obtain ⟨r', tested⟩ := State.staleTest_held (State.substituting_config found) robot (holds.imp_right isStale.2)
  have answer := execRobotCommandRead_eq found kind unit filler robot data
  generalize s.staleTest c u = a at tested answer
  obtain ⟨robot', gate, ofStale, ofFresh, own, ⟨robots, latched⟩, given, frame, report, path⟩ := tested
  have hall : a.time.hall = s.time.hall := (congrArg (fun b : State => b.time.hall) frame :)
  have form : a.forwarded c u r' x data = r'.holdForm k := State.forwarded_held gate x data
  have kept : (r'.holdForm k).volume = volume := congrArg Forwarded.volume (Robot.holdForm_own own k)
  rw [State.forwardFrame_eq robot'] at answer
  refine ⟨_, _, answer, State.onRobot_get robot' _, gate, fun yes => ofStale (isStale.2 yes),
    fun no => ofFresh fun yes => no (isStale.1 yes), ?_, ?_, ⟨fun v other => ?_, latched⟩,
    State.settle_notices (congrArg Report.notices report) (congrArg Report.dropped report) given, ?_⟩
  · rw [form, Robot.record_held gate, kept, hall]
    exact (congrArg (fun r : Robot => { r with
      lastVolume := if returnsWord x.length x.lineOffset 8 then some volume else r.lastVolume
      lastSpeed := if returnsWord x.length x.lineOffset 8 then 0 else r.lastSpeed
      lastForward := if returnsWord x.length x.lineOffset 8 then some s.time.hall else r.lastForward }) own :)
  · rw [form, Robot.commandFields_held gate, kept, hall, State.substituting_tag found, ← path]
    rfl
  · refine Eq.trans (congrArg (Option.map Robot.own) ?_) (robots v other)
    exact Table.get_modify_ne _ _ other
  · exact (congrArg (fun b : State => { b with path := s.path }) frame :)

/-! ## The released form (R98 to R100) -/

/-- A value clamped to an interval. -/
theorem clampInt_eq {lo hi : Int} (nonempty : lo ≤ hi) (v : Int) : clampInt lo hi v = max lo (min hi v) := by
  unfold clampInt
  split
  · omega
  · split <;> omega

/-- The elapsed time since a last forward (R100). -/
theorem Robot.elapsed_some {r : Robot} {b : Nat} (forward : r.lastForward = some b) (now : Nat) :
    r.elapsed now = min (now - b) 100000000 := by
  simp only [Robot.elapsed, forward]
  split <;> omega

/-- The slewed speed: the step to the target is limited either way, and never leads below 0 (R100). -/
theorem Robot.slewSpeed_eq (r : Robot) (slew written now : Nat) :
    (r.slewSpeed slew written now : Int) = r.lastSpeed + max (-((slew * r.elapsed now / 1000000 : Nat) : Int))
      (min ((slew * r.elapsed now / 1000000 : Nat) : Int) ((min written 1000 : Nat) - r.lastSpeed)) := by
  simp only [Robot.slewSpeed]
  generalize slew * r.elapsed now / 1000000 = allowance
  rw [clampInt_eq (by omega)]
  omega

/-- A mode byte of 3 or more names no mode (R98). -/
theorem RobotMode.ofCode_isNone {n : Nat} : (RobotMode.ofCode n).isNone = true ↔ 3 ≤ n := by
  match n with
  | 0 | 1 | 2 => decide
  | n + 3 => exact iff_of_true rfl (by omega)

/-- A RELEASED robot receives the released form. -/
theorem State.forwarded_released {s : State} {c : HallConfig} {u : Fin 24} {r : Robot} (gate : r.gate = .released) (x : Txn)
    (data : List Word) :
    s.forwarded c u r x data =
      r.releasedForm (c.units.get u) (s.writtenFields (fitWords x.length data) x.lineOffset) s.time.hall :=
  if_pos gate

/-- Its fields: the enable flag in RUN, and no cause. -/
theorem Robot.commandFields_released {r : Robot} (gate : r.gate = .released) (f : Forwarded) (now : Nat) :
    r.commandFields f now =
      [⟨4, 1, f.mode.code⟩, ⟨5, 1, if f.mode = .run then 1 else 0⟩, ⟨8, 2, f.volume⟩, ⟨10, 2, f.speed⟩, ⟨16, 8, now⟩, ⟨24, 1, 2⟩,
        ⟨26, 2, 0⟩] := by
  simp [Robot.commandFields, gate, bit, GateState.code]

/-- An unknown mode is counted when its word is returned (R98). -/
theorem Robot.miscountsMode_released {r : Robot} (gate : r.gate = .released) (w : Written) (returned : Bool) :
    r.miscountsMode w returned = true ↔ returned = true ∧ 3 ≤ w.mode := by
  simp only [Robot.miscountsMode, gate, decide_true, Bool.true_and, Bool.and_eq_true, RobotMode.ofCode_isNone]

/-- Settles O30: the stale test passes over, and the read returns the released form (`Robot.slewSpeed_eq`). -/
theorem robotCommandReadReleased : Obligations.RobotCommandReadReleased := by
  intro tag data s c w x u r b found kind unit filler robot gate seqTime young k ws written mode volume elapsed limit unknown
  have fresh : r.isStale k.staleLimit s.time.hall = false := Bool.eq_false_iff.2 fun stale =>
    absurd (Robot.isStale_iff.1 stale b seqTime) (Nat.not_lt.2 young)
  have answer := execRobotCommandRead_eq found kind unit filler robot data
  rw [State.staleTest_fresh robot fresh, State.forwardFrame_eq robot, State.forwarded_released gate] at answer
  have passed : elapsed = r.elapsed s.time.hall := by
    cases forward : r.lastForward with
    | none => simp [elapsed, forward, Robot.elapsed]
    | some f => simp [elapsed, forward, Robot.elapsed_some forward]
  have counts : r.miscountsMode written (returnsWord x.length x.lineOffset 0) = true ↔ unknown :=
    Robot.miscountsMode_released gate written _
  refine ⟨_, (r.releasedForm k written s.time.hall).speed, answer, fun run => ?_, fun other => if_neg other,
    ⟨_, State.onRobot_get robot _, fun miscounted => if_pos (counts.2 miscounted),
      fun known => if_neg fun miscounted => known (counts.1 miscounted), rfl⟩, ?_,
    fun v other => Table.get_modify_ne _ _ other, State.settle_givesOnly rfl rfl (List.append_nil _).symm, ?_⟩
  · rw [show (r.releasedForm k written s.time.hall).speed = r.slewSpeed k.slew written.speed s.time.hall from if_pos run,
      Robot.slewSpeed_eq, ← passed]
  · rw [Robot.commandFields_released gate, State.substituting_tag found]
    rfl
  · cases s
    rfl

end Sys2Proof.Machine
end

section
/-! SUPPORT. The transactions of one tag in the order of R144: what an answer leaves of them and of the others, what it passes up
with it, and the oldest at another stage. -/

namespace Sys2Proof.Machine

/-- The transaction is one of `tag`. -/
def Flight.isOf (tag : Fin 32) (f : Flight) : Bool :=
  decide (f.txn.tag = tag)

/-- The oldest transaction of a tag is of that tag. -/
theorem Path.oldest_tag {p : Path} {tag : Fin 32} {f : Flight} (oldest : p.oldest tag = some f) : f.txn.tag = tag :=
  of_decide_eq_true (List.find?_some (p := Flight.isOf tag) oldest)

/-- The oldest of a tag is the first of that tag. -/
theorem dropOldest_cons (tag : Fin 32) (f : Flight) (fs : List Flight) :
    dropOldest tag (f :: fs) = if f.isOf tag then fs else f :: dropOldest tag fs := by
  by_cases mine : f.txn.tag = tag <;> simp [dropOldest, Flight.isOf, mine]

/-- Without the oldest transaction of a tag, the others stand. -/
theorem dropOldest_others (tag : Fin 32) (fs : List Flight) :
    (dropOldest tag fs).filter (fun f => !f.isOf tag) = fs.filter fun f => !f.isOf tag := by
  induction fs with
  | nil => rfl
  | cons f fs ih =>
    rw [dropOldest_cons]
    cases mine : f.isOf tag
    · simp [mine, ih]
    · simp [mine]

/-- Of the tag's own, those behind it are left. -/
theorem dropOldest_own (tag : Fin 32) (fs : List Flight) :
    (dropOldest tag fs).filter (Flight.isOf tag) = (fs.filter (Flight.isOf tag)).tail := by
  induction fs with
  | nil => rfl
  | cons f fs ih =>
    rw [dropOldest_cons]
    cases mine : f.isOf tag
    · simp [mine, ih]
    · simp [mine]

/-- One step of the draining of a tag: a transaction of another tag is passed over, a refused one of the tag is answered, and any
other stops it. -/
theorem drain_cons (tag : Fin 32) (f : Flight) (fs : List Flight) :
    drain tag (f :: fs) =
      if f.isOf tag then
        if f.refused then ((drain tag fs).1, deniedReply f.txn :: (drain tag fs).2) else (f :: fs, [])
      else (f :: (drain tag fs).1, (drain tag fs).2) := by
  by_cases mine : f.txn.tag = tag <;> simp [drain, Flight.isOf, mine]

/-- Draining a tag leaves the transactions of the others. -/
theorem drain_others (tag : Fin 32) (fs : List Flight) :
    (drain tag fs).1.filter (fun f => !f.isOf tag) = fs.filter fun f => !f.isOf tag := by
  induction fs with
  | nil => rfl
  | cons f fs ih =>
    rw [drain_cons]
    cases mine : f.isOf tag
    · simp [mine, ih]
    · cases refused : f.refused
      · simp
      · simp [mine, ih]

/-- Of the tag's own, those from the first that is not refused on are left. -/
theorem drain_own (tag : Fin 32) (fs : List Flight) :
    (drain tag fs).1.filter (Flight.isOf tag) = (fs.filter (Flight.isOf tag)).dropWhile Flight.refused := by
  induction fs with
  | nil => rfl
  | cons f fs ih =>
    rw [drain_cons]
    cases mine : f.isOf tag
    · simp [mine, ih]
    · cases refused : f.refused
      · simp [mine, refused]
      · simp [mine, refused, ih]

/-- Those before it are answered DENIED, in order. -/
theorem drain_replies (tag : Fin 32) (fs : List Flight) :
    (drain tag fs).2 =
      ((fs.filter (Flight.isOf tag)).takeWhile Flight.refused).map fun f => deniedReply f.txn := by
  induction fs with
  | nil => rfl
  | cons f fs ih =>
    rw [drain_cons]
    cases mine : f.isOf tag
    · simp [mine, ih]
    · cases refused : f.refused
      · simp [mine, refused]
      · simp [mine, refused, ih]

/-- An answer leaves the transactions of the other tags, drops the oldest of its own and the refused ones next in line, and answers
these DENIED behind it (R144). -/
theorem Path.answer_drains (p : Path) (r : Reply) :
    (p.answer r).flights.filter (fun f => !f.isOf r.tag) = p.flights.filter (fun f => !f.isOf r.tag) ∧
      (p.answer r).flights.filter (Flight.isOf r.tag) =
        (p.flights.filter (Flight.isOf r.tag)).tail.dropWhile Flight.refused ∧
      (p.answer r).responses = p.responses ++
        r :: ((p.flights.filter (Flight.isOf r.tag)).tail.takeWhile Flight.refused).map fun f => deniedReply f.txn := by
  simp only [Path.answer, drain_others, drain_own, drain_replies, dropOldest_others, dropOldest_own, and_self]

/-- The oldest transaction of a tag, in its place, at another stage. -/
theorem setOldest_of_oldest {p : Path} {tag : Fin 32} {f : Flight} (oldest : p.oldest tag = some f) (st : Stage) :
    ∃ before after, p.flights = before ++ f :: after ∧ (∀ e ∈ before, e.txn.tag ≠ tag) ∧
      setOldest tag st p.flights = before ++ { f with stage := st } :: after := by
  obtain ⟨mine, before, after, flights, younger⟩ := List.find?_eq_some_iff_append.1 oldest
  have others : ∀ e ∈ before, e.txn.tag ≠ tag := fun e mem => by simpa using younger e mem
  have set : ∀ l : List Flight, (∀ e ∈ l, e.txn.tag ≠ tag) →
      setOldest tag st (l ++ f :: after) = l ++ { f with stage := st } :: after := by
    intro l
    induction l with
    | nil =>
      intro _
      simp [setOldest, of_decide_eq_true mine]
    | cons e l ih =>
      intro apart
      obtain ⟨other, apart⟩ := List.forall_mem_cons.1 apart
      simp [setOldest, other, ih apart]
  exact ⟨before, after, flights, others, by rw [flights, set before others]⟩

/-- The record picked is the first that the selector takes. -/
theorem pick_split {α : Type} {sel : Handover → Option α} {pre post : List Handover} {h : Handover} {a : α}
    (passed : ∀ x ∈ pre, sel x = none) (takes : sel h = some a) : pick sel (pre ++ h :: post) = some (a, pre ++ post) := by
  induction pre with
  | nil => simp [pick, takes]
  | cons x pre ih =>
    obtain ⟨here, passed⟩ := List.forall_mem_cons.1 passed
    simp [pick, here, ih passed]

end Sys2Proof.Machine
end

section
/-! SUPPORT. The words of a write (R148, R149): a word covered with every byte enabled, and a block of such words. -/

namespace Sys2Proof.Machine

/-- A word is written when the write covers it with every byte enabled. -/
theorem writtenWord_iff {ws : List WriteWord} {off o : Nat} {v : Word} :
    writtenWord ws off o = some v ↔
      off ≤ o ∧ ∃ x, ws[(o - off) / 8]? = some x ∧ x.enables = BitVec.allOnes 8 ∧ x.data = v := by
  unfold writtenWord
  by_cases within : off ≤ o
  · cases word : ws[(o - off) / 8]? with
    | none => simp [within]
    | some x => by_cases enabled : x.enables = BitVec.allOnes 8 <;> simp [within, enabled]
  · simp [within]

/-- The words of a block are those that the write covers, one after the other. -/
theorem map_range_eq_map_some_iff {α : Type} {g : Nat → Option α} {n : Nat} {vs : List α} :
    (List.range n).map g = vs.map some ↔ vs.length = n ∧ ∀ i v, vs[i]? = some v → g i = some v := by
  constructor
  · intro same
    have length : vs.length = n := by simpa using (congrArg List.length same).symm
    refine ⟨length, fun i v at_i => ?_⟩
    have within : i < n := length ▸ (List.getElem?_eq_some_iff.1 at_i).1
    simpa [List.getElem?_range within, at_i] using congrArg (·[i]?) same
  · rintro ⟨rfl, words⟩
    refine List.ext_getElem (by simp) fun i within _ => ?_
    have within' : i < vs.length := by simpa using within
    simpa using words i vs[i] (List.getElem?_eq_getElem within')

/-- A block is written when all its words are. -/
theorem writtenBlock_iff {ws : List WriteWord} {off o n : Nat} {b : List Byte} :
    writtenBlock ws off o n = some b ↔
      ∃ vs : List Word, vs.length = n ∧ b = vs.flatMap wordBytes ∧
        ∀ i v, vs[i]? = some v → writtenWord ws off (o + 8 * i) = some v := by
  have covered : writtenBlock ws off o n = some b ↔
      ∃ vs : List Word, (List.range n).map (fun i => writtenWord ws off (o + 8 * i)) = vs.map some ∧
        b = vs.flatMap wordBytes := by
    simp only [writtenBlock]
    constructor
    · intro block
      split at block
      · next all =>
        have each := List.filterMap_length_eq_length.1 (all.trans List.length_range.symm)
        exact ⟨_, (map_some_filterMap fun i mem => Option.isSome_iff_ne_none.1 (each i mem)).symm, (Option.some.inj block).symm⟩
      · cases block
    · rintro ⟨vs, words, rfl⟩
      have got : (List.range n).filterMap (fun i => writtenWord ws off (o + 8 * i)) = vs := by
        calc (List.range n).filterMap (fun i => writtenWord ws off (o + 8 * i))
            = ((List.range n).map fun i => writtenWord ws off (o + 8 * i)).filterMap id := by rw [List.filterMap_map]; rfl
          _ = vs := by rw [words, List.filterMap_map]; exact List.filterMap_some
      rw [got, if_pos (map_range_eq_map_some_iff.1 words).1]
  rw [covered]
  exact exists_congr fun vs => (and_congr_left' map_range_eq_map_some_iff).trans and_right_comm |>.trans and_assoc

end Sys2Proof.Machine
end

section
/-! FORWARDED_RESPONSE (O49): memory's answers passed up (R144), and what an observed write hands over (R148, R149, R154). -/

namespace Sys2Proof.Machine

/-! ## The step -/

/-- Memory's FAULT is passed up, whatever the treatment (R102, R148, R150). -/
theorem exec_forwardedResponse_fault {s : State} {tag : Fin 32} {f : Flight} (oldest : s.path.oldest tag = some f)
    (stage : f.stage = .atMemory) (data : List Word) :
    exec (.forwardedResponse tag false data) s = .next (s.onPath fun p => p.answer (passedReply f.txn .fault data)) := by
  simp [exec, execForwardedResponse, oldest, stage]

/-- Its OKAY goes by the treatment. -/
theorem exec_forwardedResponse_okay {s : State} {tag : Fin 32} {f : Flight} (oldest : s.path.oldest tag = some f)
    (stage : f.stage = .atMemory) (data : List Word) :
    exec (.forwardedResponse tag true data) s = .next (s.respondOkay f data) := by
  simp [exec, execForwardedResponse, oldest, stage]

/-- A plain transaction's OKAY is passed up (R144). -/
theorem State.respondOkay_plain {s : State} {f : Flight} (plain : f.treatment = .plain) (data : List Word) :
    s.respondOkay f data = s.onPath fun p => p.answer (passedReply f.txn .okay data) := by
  simp [State.respondOkay, plain]

/-- So is that of an observed write that hands nothing over (R148, R154). -/
theorem State.respondOkay_observed {s : State} {f : Flight} {i : Fin 32} {w : Window} (observed : f.treatment = .observed i w)
    (nothing : s.handovers f = []) (data : List Word) :
    s.respondOkay f data = s.onPath fun p => p.answer (passedReply f.txn .okay data) := by
  simp [State.respondOkay, observed, nothing]

/-- A substituted read whose window was replaced is DENIED and counted (R154). -/
theorem State.respondOkay_replaced {s : State} {f : Flight} {c : HallConfig} {i : Fin 32} {w : Window} (config : s.config = some c)
    (substituted : f.treatment = .substituted i w) (replaced : c.stands i w = false) (data : List Word) :
    s.respondOkay f data = (s.countDenial f.txn.tag).onPath fun p => p.answer (deniedReply f.txn) := by
  simp [State.respondOkay, substituted, config, replaced]

/-! ## Denials (R132, R145) -/

/-- The tag of a switch port is its number. -/
theorem tagPort_of_val {tag : Fin 32} {p : Fin 16} (number : tag.val = p.val + 1) : tagPort tag = some p := by
  have range : 1 ≤ tag.val ∧ tag.val ≤ 16 := by omega
  simp only [tagPort, portNumber, range, and_self, dif_pos, Option.some.injEq, Fin.ext_iff]
  omega

/-- A denial to a switch port is counted with the port. -/
theorem State.countDenial_port {s : State} {c : HallConfig} {tag : Fin 32} {p : Fin 16} (config : s.config = some c)
    (port : tagPort tag = some p) : s.countDenial tag = s.countDenied p := by
  simp only [State.countDenial, config, port]

/-- One to another source is counted with the others. -/
theorem State.countDenial_other (s : State) {tag : Fin 32} (other : tagPort tag = none) :
    s.countDenial tag = s.onPath fun h => { h with otherDenied := satAdd 16 h.otherDenied 1 } := by
  simp only [State.countDenial, other]
  split
  · next same => cases same
  · rfl

/-- A denial moves the ports and the path alone. -/
theorem State.countDenial_frame (s : State) (tag : Fin 32) : { s.countDenial tag with ports := s.ports, path := s.path } = s := by
  unfold State.countDenial
  split <;> rfl

/-! ## What a write hands over -/

/-- A window stands while its entry has its kind and, where the kind has one, its unit (R154). -/
theorem HallConfig.stands_iff {c : HallConfig} {i : Fin 32} {w : Window} :
    c.stands i w = true ↔ (c.windows.get i).kind = w.kind ∧
      ((w.kind = .command ∨ w.kind = .status ∨ w.kind = .verdict ∨ w.kind = .timeFrame) →
        (c.windows.get i).unit = w.unit) := by
  have named : w.kind.hasUnit = true ↔ w.kind = .command ∨ w.kind = .status ∨ w.kind = .verdict ∨ w.kind = .timeFrame := by
    cases w.kind <;> simp [WindowKind.hasUnit]
  simp only [HallConfig.stands, ← named, Bool.and_eq_true, decide_eq_true_eq, Bool.or_eq_true, Bool.not_eq_true',
    imp_iff_not_or, Bool.not_eq_true]

/-- At memory nothing has been handed over yet. -/
theorem State.toHand_atMemory (s : State) {f : Flight} (stage : f.stage = .atMemory) : s.toHand f = s.handovers f := by
  simp [State.toHand, stage]

/-- An observed write hands over what its window says, while that stands (R154). -/
theorem State.handovers_observed {s : State} {f : Flight} {c : HallConfig} {i : Fin 32} {w : Window} (config : s.config = some c)
    (observed : f.treatment = .observed i w) : s.handovers f = if c.stands i w then c.observe w f.txn else [] := by
  simp only [State.handovers, observed, config]

/-- An image write hands over a control word of a load kind (R156). -/
theorem State.handovers_image (s : State) {f : Flight} (image : f.treatment = .image) :
    s.handovers f = ((writtenWord f.txn.written f.txn.imageOffset 0).toList.filter fun v => decide (loadKindByte v ≠ 0)).map
      .control := by
  simp only [State.handovers, image]
  cases writtenWord f.txn.written f.txn.imageOffset 0 with
  | none => rfl
  | some v => by_cases idle : loadKindByte v = 0 <;> simp [idle]

/-- What memory's OKAY hands over and `sel` takes, and the path after it: the write is answered with its last record, and before that stands
with the others still to be handed over (R144, R148, R149). -/
theorem State.take_split {α : Type} {sel : Handover → Option α} {s : State} {tag : Fin 32} {f : Flight}
    {pre post : List Handover} {h : Handover} {a : α} (oldest : s.path.oldest tag = some f) (hands : s.toHand f = pre ++ h :: post)
    (passed : ∀ x ∈ pre, sel x = none) (takes : sel h = some a) :
    s.take tag sel = some (a, s.onPath fun p => p.handed tag (pre ++ post)) := by
  simp only [State.take, oldest, hands, pick_split passed takes]

/-- A STATUS slot of a robot is the robot's (R148). -/
theorem HallConfig.statusOwner_robot {c : HallConfig} {u : Fin 24} (filler : c.kindOf u = .filler) (b : List Byte) :
    c.statusOwner u b = some (.robotStatus u b) := by
  simp [HallConfig.statusOwner, filler]

/-- One of another unit is that of the gate that the unit is (R148). -/
theorem HallConfig.statusOwner_gate {c : HallConfig} {u : Fin 24} {g : Fin 2} (other : c.kindOf u ≠ .filler)
    (gate : c.gateOfUnit u = some g) (b : List Byte) : c.statusOwner u b = some (.gateStatus g b) := by
  simp [HallConfig.statusOwner, other, gate]

/-- An observed write hands over the slots that it covers whole to the one owner that its window names (R148). -/
theorem HallConfig.observe_slots {c : HallConfig} {w : Window} {u : Fin 24} (unit : unitNumber w.unit = some u) (x : Txn) :
    (w.kind = .status → c.kindOf u = .filler → c.observe w x = x.wholeSlots.map (.robotStatus u)) ∧
      (∀ g, w.kind = .status → c.kindOf u ≠ .filler → c.gateOfUnit u = some g →
        c.observe w x = x.wholeSlots.map (.gateStatus g)) ∧
      (∀ n, w.kind = .verdict → c.cameraOfUnit u = some n → c.observe w x = x.wholeSlots.map (.verdict n)) ∧
      (w.kind = .timeFrame → c.observe w x = x.wholeSlots.map (.timeFrame u)) := by
  refine ⟨fun kind filler => ?_, fun g kind other gate => ?_, fun n kind camera => ?_, fun kind => ?_⟩
  · simp only [HallConfig.observe, kind, unit, Option.bind_some, HallConfig.statusOwner_robot filler, List.filterMap_eq_map']
  · simp only [HallConfig.observe, kind, unit, Option.bind_some, HallConfig.statusOwner_gate other gate,
      List.filterMap_eq_map']
  · simp only [HallConfig.observe, kind, unit, Option.bind_some, camera, Option.map_some, List.filterMap_eq_map']
  · simp only [HallConfig.observe, kind, unit, Option.map_some, List.filterMap_eq_map']

/-- A write to a robot's command frame hands over the sequence field (R93, R149). -/
theorem HallConfig.observe_command {c : HallConfig} {w : Window} {u : Fin 24} (unit : unitNumber w.unit = some u)
    (kind : w.kind = .command) (filler : c.kindOf u = .filler) (x : Txn) :
    c.observe w x = ((writtenLow x.written x.lineOffset 0).map (.sequence u)).toList := by
  have robot : c.isRobot u = true := decide_eq_true filler
  simp only [HallConfig.observe, kind, unit]
  cases writtenLow x.written x.lineOffset 0 with
  | none => rfl
  | some q => exact if_pos robot

/-- A write to the switch table hands the whole table over (R148). -/
theorem HallConfig.observe_switchTable {c : HallConfig} {w : Window} (kind : w.kind = .switchTable) (x : Txn) :
    c.observe w x = ((writtenBlock x.written x.lineOffset 0 16).map .switchTable).toList := by
  simp only [HallConfig.observe, kind]

/-- A write to the mailbox hands the watched words over (R149). -/
theorem HallConfig.observe_mailbox {c : HallConfig} {w : Window} (kind : w.kind = .mailbox) (x : Txn) :
    c.observe w x = x.mailboxWords := by
  simp only [HallConfig.observe, kind]

/-! ## The obligation -/

/-- Settles O49: the answer goes by the treatment, `Path.answer_drains` says what goes with it, and `HallConfig.observe_slots` and
its like what is handed over. -/
theorem memoryAnswersPassedUp : Obligations.MemoryAnswersPassedUp := by
  refine ⟨fun tag data s f oldest stage => ?_, fun p r f oldest => ?_, fun tag data s c f i w oldest stage config => ?_,
    fun s f image stage => ?_, fun c w x => ⟨fun u unit => ?_, fun kind => HallConfig.observe_switchTable kind x,
      fun kind => HallConfig.observe_mailbox kind x⟩,
    fun ws off o => ⟨fun v => writtenWord_iff, fun n b => writtenBlock_iff⟩,
    fun α sel s tag f pre post h a oldest hands passed takes => ?_⟩
  · obtain rfl := Path.oldest_tag oldest
    refine ⟨exec_forwardedResponse_fault oldest stage data, fun plain => ?_⟩
    rw [exec_forwardedResponse_okay oldest stage, State.respondOkay_plain plain]
    rfl
  · obtain ⟨others, own, replies⟩ := p.answer_drains r
    refine ⟨others, own, replies.trans (congrArg (p.responses ++ r :: ·) (List.map_congr_left fun g mem => ?_))⟩
    have behind : g ∈ p.flights.filter (Flight.isOf r.tag) := List.mem_of_mem_tail ((List.takeWhile_sublist _).subset mem)
    have mine : g.txn.tag = r.tag := of_decide_eq_true (List.mem_filter.1 behind).2
    rw [deniedReply, mine]
  · obtain rfl := Path.oldest_tag oldest
    intro now named stands answered denied
    have still : c.stands i w = true ↔ stands := HallConfig.stands_iff
    rw [State.toHand_atMemory s stage, exec_forwardedResponse_okay oldest stage]
    refine ⟨fun observed replaced => ?_, fun observed same => ?_, fun observed nothing => ?_, fun substituted replaced => ?_⟩
    · rw [State.handovers_observed config observed, if_neg fun same => replaced (still.1 same)]
    · rw [State.handovers_observed config observed, if_pos (still.2 same)]
    · rw [State.respondOkay_observed observed nothing]
      rfl
    · rw [State.respondOkay_replaced config substituted (Bool.eq_false_iff.2 fun same => replaced (still.1 same))]
      refine ⟨_, rfl, s.countDenial_frame f.txn.tag, fun p port => ?_, fun processor => ?_⟩
      · rw [State.countDenial_port config (tagPort_of_val port)]
        exact ⟨Table.get_modify_self _ _ _, fun q other => Table.get_modify_ne _ _ other, rfl⟩
      · rw [State.countDenial_other s (tag := f.txn.tag) (by rw [processor]; rfl)]
        exact ⟨rfl, rfl⟩
  · rw [State.toHand_atMemory s stage, State.handovers_image s image]
    refine ⟨fun v word => ?_, fun unwritten => ?_⟩
    · rw [show writtenWord f.txn.written f.txn.imageOffset 0 = some v from word]
      by_cases idle : loadKindByte v = 0 <;> simp [idle]
    · rw [show writtenWord f.txn.written f.txn.imageOffset 0 = none from unwritten]
      rfl
  · obtain ⟨robot, gate, camera, clock⟩ := HallConfig.observe_slots (c := c) unit x
    exact ⟨robot, gate, camera, clock, fun kind filler => HallConfig.observe_command unit kind filler x⟩
  · refine ⟨_, State.take_split oldest hands passed takes, rfl, fun last => ?_, fun more => ?_⟩
    · simp only [State.onPath, Path.handed, last, List.isEmpty_nil, if_true]
    · obtain ⟨before, after, flights, younger, set⟩ := setOldest_of_oldest oldest (.handing (pre ++ post))
      refine ⟨before, after, flights, younger, ?_⟩
      have left : ¬ (pre ++ post).isEmpty = true := fun none => more (List.isEmpty_iff.1 none)
      simp only [State.onPath, Path.handed, if_neg left, set]

end Sys2Proof.Machine
end

section
/-! SUPPORT. What the events of a zone make of its record, of the tracking queue and of the notices (R105 to R122): an event comes
down to `State.zoneBecomes`, from which `State.ZoneMoved` is read off. -/

namespace Sys2Proof.Machine

/-! ## Entering a state -/

/-- The record of a zone that enters RUN (R107, R114). -/
theorem Zone.enter_run (k : Zone) (now : Nat) : k.enter .run now =
    { k with state := .run, unlocked := false, hasRun := true, afterForced := false, access := none, clearing := none } := by
  simp [Zone.enter]

/-- That of one that enters REQUESTED (R115): the access timer is the request's to start. -/
theorem Zone.enter_requested (k : Zone) (now : Nat) : k.enter .requested now =
    { k with state := .requested, unlocked := false, clearing := none } := by
  simp [Zone.enter]

/-- That of one that enters BREAK (R116, R118). -/
theorem Zone.enter_breakpoint (k : Zone) (now : Nat) : k.enter .breakpoint now =
    { k with state := .breakpoint, unlocked := false, clearing := none } := by
  simp [Zone.enter]

/-- That of one that enters OPEN (R107). -/
theorem Zone.enter_opened (k : Zone) (now : Nat) : k.enter .opened now =
    { k with state := .opened, unlocked := true, access := none, clearing := none } := by
  simp [Zone.enter]

/-- That of one that enters CLEARING (R120). -/
theorem Zone.enter_clearing (k : Zone) (now : Nat) : k.enter .clearing now =
    { k with state := .clearing, unlocked := false, access := none, clearing := some now } := by
  simp [Zone.enter]

/-- That of one that enters FORCED (R121, R122). -/
theorem Zone.enter_forced (k : Zone) (now : Nat) : k.enter .forced now =
    { k with state := .forced, unlocked := false, access := none, clearing := none } := by
  simp [Zone.enter]

/-! ## A change of state -/

/-- A zone's span marked, as one equation on the queue (R26, R27). -/
theorem State.markSpan_eq (s : State) (c : HallConfig) (z : Fin 8) :
    s.markSpan c z = { s with queue := s.spanMarked c z } := by
  have disturb : ∀ q : Slot, q.disturb z = { q with disturbed := q.disturbed.or (some z) } := fun q => by
    simp only [Slot.disturb]
    cases q.disturbed <;> rfl
  simp only [State.markSpan, State.spanMarked, disturb]
  by_cases span : (c.zones.get z).hasSpan = true
  · simp only [span, if_true, true_and]
  · simp only [span, if_false, false_and, List.map_id', Bool.false_eq_true]

/-- The tracking queue once zone `z` has entered state `new`: leaving RUN marks its span (R108). -/
def State.leftQueue (s : State) (c : HallConfig) (z : Fin 8) (new : ZoneState) : List Slot :=
  if (s.zones.get z).state = .run ∧ new ≠ .run then s.spanMarked c z else s.queue

/-- A zone out of RUN leaves no queue marked. -/
theorem State.leftQueue_of_out {s : State} {z : Fin 8} (out : (s.zones.get z).state ≠ .run) (c : HallConfig) (new : ZoneState) :
    s.leftQueue c z new = s.queue :=
  if_neg fun leaves => out leaves.1

/-- A zone that enters RUN leaves no queue marked. -/
theorem State.leftQueue_run (s : State) (c : HallConfig) (z : Fin 8) : s.leftQueue c z .run = s.queue :=
  if_neg fun leaves => leaves.2 rfl

/-- A zone's change of state, as a change of its record and of the queue (R108). -/
theorem State.moveZone_eq (s : State) (c : HallConfig) (z : Fin 8) (new : ZoneState) : s.moveZone c z new =
    State.onZone { s with queue := s.leftQueue c z new } z fun k => k.enter new s.time.localTime := by
  have leaves : (decide ((s.zones.get z).state = .run) && decide (new ≠ .run)) = true ↔
      (s.zones.get z).state = .run ∧ new ≠ .run := by simp
  simp only [State.moveZone, State.leftQueue, leaves]
  split
  · rw [State.markSpan_eq]
    rfl
  · rfl

/-- The case of a zone out of RUN. -/
theorem State.moveZone_of_out {s : State} {z : Fin 8} (out : (s.zones.get z).state ≠ .run) (c : HallConfig) (new : ZoneState) :
    s.moveZone c z new = s.onZone z fun k => k.enter new s.time.localTime := by
  rw [State.moveZone_eq, State.leftQueue_of_out out]

/-- Two changes of one zone's record are one. -/
theorem State.onZone_onZone (s : State) (z : Fin 8) (f g : Zone → Zone) :
    (s.onZone z f).onZone z g = s.onZone z fun k => g (f k) := by
  simp [State.onZone]

/-- A change of a zone's record completes nothing. -/
theorem State.onZone_eq (s : State) (z : Fin 8) (f : Zone → Zone) : s.onZone z f = s.zoneBecomes z (f (s.zones.get z)) [] := by
  simp [State.zoneBecomes, State.onZone, Table.modify]

/-! ## Completions -/

/-- A zone record whose command of sequence `q` has completed at once (R110, R112). -/
def Zone.replied (k : Zone) (q : Byte) (code : Completion) : Zone :=
  { k with reply := { k.reply with code := some code, origin := .command q, further := false } }

/-- A record changed, and its command completed at once. -/
theorem State.completeNow_onZone (s : State) (z : Fin 8) (f : Zone → Zone) (q : Byte) (code : Completion) :
    (s.onZone z f).completeNow z q code = s.zoneBecomes z ((f (s.zones.get z)).replied q code) [(code, .command q)] := by
  simp only [State.completeNow, State.onZone, Table.modify_modify]
  exact s.giveZoneCompletion_onZone z (fun k => (f k).replied q code) code (.command q)

/-- A command completed at once, with the record as it stands. -/
theorem State.completeNow_eq (s : State) (z : Fin 8) (q : Byte) (code : Completion) :
    s.completeNow z q code = s.zoneBecomes z ((s.zones.get z).replied q code) [(code, .command q)] := by
  have same : s.onZone z (fun k => k) = s := by simp [State.onZone]
  have completes := s.completeNow_onZone z (fun k => k) q code
  rwa [same] at completes

/-- A zone's change of state, and its command completed at once. -/
theorem State.moveZone_completeNow (s : State) (c : HallConfig) (z : Fin 8) (new : ZoneState) (q : Byte) (code : Completion) :
    (s.moveZone c z new).completeNow z q code = State.zoneBecomes { s with queue := s.leftQueue c z new } z
      (((s.zones.get z).enter new s.time.localTime).replied q code) [(code, .command q)] := by
  rw [State.moveZone_eq]
  exact State.completeNow_onZone _ z _ q code

/-- A command completed at once after other completions of its zone, which is in the state that they show. -/
theorem State.zoneBecomes_completeNow (s : State) (z : Fin 8) (k : Zone) (l : List (Completion × Origin)) (q : Byte)
    (code : Completion) : (s.zoneBecomes z k l).completeNow z q code =
      s.zoneBecomes z (k.replied q code) (l ++ [(code, .command q)]) := by
  have twice : (s.zones.set z k).set z (k.replied q code) = s.zones.set z (k.replied q code) := Table.ext_get _ _ fun y => by
    simp only [Table.get_set]
    split <;> rfl
  have shown : l.map (s.zoneNotice { s with zones := s.zones.set z k } z) =
      l.map (s.zoneNotice { s with zones := s.zones.set z (k.replied q code) } z) :=
    List.map_congr_left fun e _ => by
      simp only [State.zoneNotice, Table.get_set_self]
      rfl
  rw [State.completeNow_eq]
  simp only [State.zoneBecomes, Table.get_set_self, twice, shown, List.map_append, List.append_assoc]
  rfl

/-! ## What a zone event leaves -/

/-- A step that moves zone `z`, read off the state `b` in which it settles. -/
theorem State.zoneMoved_of_settle {s b : State} {path : Path} {z : Fin 8} {l : List (Completion × Origin)} (handed : s.Handed b)
    (others : ∀ y, y ≠ z → b.zones.get y = s.zones.get y)
    (gives : s.given = [] → b.given.filter (fun n => !n.handed) = l.map (s.zoneNotice b z))
    (frame : { b with
      zones := s.zones, queue := s.queue, robots := s.robots, lineHold := s.lineHold, given := s.given } =
        { s with path := path }) :
    s.ZoneMoved { s with path := path } b.settle z (b.zones.get z) b.queue l := by
  have report : b.report = s.report := (congrArg State.report frame :)
  obtain ⟨robots, latched⟩ := handed
  exact
    { zone := rfl
      others := others
      queue := rfl
      handed := ⟨robots, latched⟩
      notices := State.settle_notices (by rw [report]) (by rw [report]) gives
      frame := by
        rw [State.settle_unhanded]
        exact (congrArg (fun a : State => { a with
          given := s.given
          freeIndex := s.freeIndex
          report := { a.report with notices := s.report.notices, dropped := s.report.dropped }
          path := { a.path with ownQueue := path.ownQueue } }) frame :) }

/-- What is given once a zone's record and completions have been set down (R111). -/
theorem State.zoneBecomes_given (s : State) (z : Fin 8) (k : Zone) (l : List (Completion × Origin)) :
    (s.zoneBecomes z k l).given = s.given ++ l.map (s.zoneNotice (s.zoneBecomes z k l) z) :=
  congrArg (s.given ++ ·) (List.map_congr_left fun _ _ => rfl)

/-- A completion's notice is none of a handed-on change. -/
theorem State.zoneNotice_filter (s t : State) (z : Fin 8) (l : List (Completion × Origin)) :
    (l.map (s.zoneNotice t z)).filter (fun n => !n.handed) = l.map (s.zoneNotice t z) :=
  List.filter_eq_self.2 fun n mem => by
    obtain ⟨e, -, rfl⟩ := List.mem_map.1 mem
    rfl

/-- An event of zone `z`, handed on: `a` is the state before, which may hold other guard levels and release-confirms (R90, R106). -/
theorem State.zoneMoved_handOn_guards {s a : State} {path : Path} {z : Fin 8} {l : List (Completion × Origin)}
    (own : ∀ u, (a.robots.get u).map Robot.own = (s.robots.get u).map Robot.own)
    (others : ∀ y, y ≠ z → a.zones.get y = s.zones.get y) (given : a.given = s.given ++ l.map (s.zoneNotice a z))
    (frame : { a with
      guards := s.guards, zones := s.zones, queue := s.queue, robots := s.robots, given := s.given } =
        { s with path := path }) :
    s.ZoneMoved { s with path := path } { a.handOn.settle with guards := s.guards } z (a.zones.get z) a.queue l := by
  have lineHold : a.lineHold = s.lineHold := (congrArg State.lineHold frame :)
  have moved : s.ZoneMoved { s with path := path } (State.settle { a.handOn with guards := s.guards }) z
      (a.handOn.zones.get z) a.handOn.queue l := by
    refine State.zoneMoved_of_settle (b := { a.handOn with guards := s.guards }) ⟨fun u => ?_, fun g k hk => ?_⟩ ?_ ?_ ?_
    · exact (a.handOn_own u).trans (own u)
    · exact (a.handOn_latchedStand g k hk).trans (by rw [State.holds, lineHold, State.holds])
    · simpa using others
    · intro none
      have shown : ∀ e ∈ l, s.zoneNotice a z e = s.zoneNotice { a.handOn with guards := s.guards } z e :=
        fun e _ => State.zoneNotice_congr rfl (by simp) e
      rw [State.handOn_gives, given, none, List.nil_append, State.zoneNotice_filter]
      exact List.map_congr_left shown
    · rw [a.handOn_eq]
      exact (congrArg (fun b : State => { b with lineHold := s.lineHold }) frame :)
  rwa [State.handOn_zones, State.handOn_queue] at moved

/-- The record of zone `z` and its completions set down and handed on: `x` is the state before, in which the step may have moved
that record and the queue. -/
theorem State.zoneMoved_handOn {s x : State} {path : Path} {z : Fin 8} (others : ∀ y, y ≠ z → x.zones.get y = s.zones.get y)
    (base : { x with zones := s.zones, queue := s.queue } = { s with path := path }) (k : Zone)
    (l : List (Completion × Origin)) :
    s.ZoneMoved { s with path := path } (x.zoneBecomes z k l).handOn.settle z k x.queue l := by
  have robots : x.robots = s.robots := (congrArg State.robots base :)
  have guards : x.guards = s.guards := (congrArg State.guards base :)
  have given : x.given = s.given := (congrArg State.given base :)
  have time : x.time = s.time := (congrArg State.time base :)
  have moved := State.zoneMoved_handOn_guards (s := s) (a := x.zoneBecomes z k l) (path := path) (z := z) (l := l)
    (fun u => congrArg (fun t => (Table.get t u).map Robot.own) robots)
    (fun y other => (Table.get_set_ne _ _ other).trans (others y other))
    (by
      rw [State.zoneBecomes_given, given]
      exact congrArg (s.given ++ ·) (List.map_congr_left fun e _ => State.zoneNotice_congr time rfl e))
    (congrArg (fun b : State => { b with robots := s.robots, guards := s.guards, given := s.given }) base :)
  rw [show (x.zoneBecomes z k l).zones.get z = k from Table.get_set_self _ _ _] at moved
  rwa [show ({ (x.zoneBecomes z k l).handOn.settle with guards := s.guards } : State) =
    (x.zoneBecomes z k l).handOn.settle by
      have stand : (x.zoneBecomes z k l).handOn.settle.guards = s.guards := by
        rw [State.settle_guards, State.handOn_guards]
        exact guards
      rw [← stand]] at moved

/-- The case in which nothing is handed on. -/
theorem State.zoneMoved_settle {s x : State} {path : Path} {z : Fin 8} (others : ∀ y, y ≠ z → x.zones.get y = s.zones.get y)
    (base : { x with zones := s.zones, queue := s.queue } = { s with path := path }) (k : Zone)
    (l : List (Completion × Origin)) :
    (x.zoneBecomes z k l).settle.robots = s.robots ∧ (x.zoneBecomes z k l).settle.lineHold = s.lineHold ∧
      s.ZoneMoved { s with path := path } (x.zoneBecomes z k l).settle z k x.queue l := by
  have robots : x.robots = s.robots := (congrArg State.robots base :)
  have lineHold : x.lineHold = s.lineHold := (congrArg State.lineHold base :)
  have given : x.given = s.given := (congrArg State.given base :)
  have time : x.time = s.time := (congrArg State.time base :)
  refine ⟨robots, lineHold, ?_⟩
  have moved := State.zoneMoved_of_settle (s := s) (b := x.zoneBecomes z k l) (path := path) (z := z) (l := l)
    ⟨fun u => congrArg (fun t => (Table.get t u).map Robot.own) robots, fun g k _ => by
      simp only [State.holds]
      exact congrArg (fun h => BitVec.getLsbD h _) lineHold⟩
    (fun y other => (Table.get_set_ne _ _ other).trans (others y other))
    (fun none => by
      rw [State.zoneBecomes_given, given, none, List.nil_append, State.zoneNotice_filter]
      exact List.map_congr_left fun e _ => State.zoneNotice_congr time rfl e)
    (congrArg (fun b : State => { b with robots := s.robots, lineHold := s.lineHold, given := s.given }) base :)
  rwa [show (x.zoneBecomes z k l).zones.get z = k from Table.get_set_self _ _ _] at moved

end Sys2Proof.Machine
end

section
/-! The zone slot (R109, R112): what it refuses (O44), SENSE (O42), and the commands that a zone's state makes INVALID (O43). -/

namespace Sys2Proof.Machine

/-! ## Receiving a word -/

/-- Zone slot `z` has received a word of sequence `q` (R109). -/
def State.zoneReceived (s : State) (z : Fin 8) (q : Byte) : State :=
  s.onZone z fun k => k.receive q

/-- The record of the zone that has received it. -/
@[simp] theorem State.zoneReceived_get (s : State) (z : Fin 8) (q : Byte) :
    (s.zoneReceived z q).zones.get z = (s.zones.get z).receive q :=
  Table.get_modify_self _ _ _

/-- A word received leaves the zone in its state. -/
theorem State.zoneReceived_state (s : State) (z : Fin 8) (q : Byte) :
    ((s.zoneReceived z q).zones.get z).state = (s.zones.get z).state :=
  (congrArg Zone.state (s.zoneReceived_get z q) :)

/-- It leaves the extended flag, too. -/
theorem State.zoneReceived_extended (s : State) (z : Fin 8) (q : Byte) :
    ((s.zoneReceived z q).zones.get z).extended = (s.zones.get z).extended :=
  (congrArg Zone.extended (s.zoneReceived_get z q) :)

/-- A word that repeats the last sequence is ignored (R109). -/
theorem State.zoneReceives_repeated {s : State} {z : Fin 8} {w : Word} (repeated : (s.zones.get z).lastSeq = some (wordSeq w))
    (act : HallConfig → Byte → State → State) : s.zoneReceives z w act = s := by
  unfold State.zoneReceives
  split
  · rfl
  · exact if_pos repeated

/-- Any other word is received and handled (R109). -/
theorem State.zoneReceives_acts {s : State} {c : HallConfig} {z : Fin 8} {w : Word} (config : s.config = some c)
    (fresh : (s.zones.get z).lastSeq ≠ some (wordSeq w)) (act : HallConfig → Byte → State → State) :
    s.zoneReceives z w act = act c (wordSeq w) (s.zoneReceived z (wordSeq w)) := by
  simp only [State.zoneReceives, config]
  exact if_neg fresh

/-- A command is taken while nothing is pending (R109). -/
theorem State.unlessPending_acts {s : State} {z : Fin 8} (idle : (s.zones.get z).pending = none) (act : State → State) :
    s.unlessPending z act = act s :=
  if_neg (by simp [idle])

/-- While a completion is pending it is answered INVALID (R109). -/
theorem State.unlessPending_refuses {s : State} {z : Fin 8} (busy : (s.zones.get z).pending ≠ none) (act : State → State) :
    s.unlessPending z act = s.onZone z Zone.answerInvalid :=
  if_pos (by simpa [Option.isSome_iff_ne_none] using busy)

/-- A zone command that is taken, and handled to the state `b`, at the end of its step (R109). -/
theorem State.zoneCommand_acts {s b : State} {path : Path} {c : HallConfig} {z : Fin 8} {cmd : ZoneCommand} {w : Word}
    {act : HallConfig → Byte → State → State} (take : s.take processorTag (selZone z cmd) = some (w, { s with path := path }))
    (config : s.config = some c) (fresh : (s.zones.get z).lastSeq ≠ some (wordSeq w)) (idle : (s.zones.get z).pending = none)
    (handled : act c (wordSeq w) (State.zoneReceived { s with path := path } z (wordSeq w)) = b) :
    s.zoneCommand z cmd act = .next b.settle := by
  have received : State.unlessPending (State.zoneReceived { s with path := path } z (wordSeq w)) z (act c (wordSeq w)) = b :=
    (State.unlessPending_acts (by rw [State.zoneReceived_get]; exact idle) _).trans handled
  rw [State.zoneCommand, State.taking_some s _ take, State.zoneReceives_acts (s := { s with path := path }) config fresh,
    received]

/-! ## What a handled word leaves -/

/-- From `s` to `t` a word of slot `z` leaves the zone the record `k` with these completions, and hands nothing on. -/
def State.SlotMoved (s s1 t : State) (z : Fin 8) (k : Zone) (l : List (Completion × Origin)) : Prop :=
  t.robots = s.robots ∧ t.lineHold = s.lineHold ∧ s.ZoneMoved s1 t z k s.queue l

/-- A word that is ignored leaves all but the path, which has handed it over. -/
theorem State.slotMoved_ignored (s : State) (path : Path) (z : Fin 8) :
    s.SlotMoved { s with path := path } (State.settle { s with path := path }) z (s.zones.get z) [] := by
  have stands := State.zoneMoved_settle (s := s) (x := { s with path := path }) (path := path) (z := z) (fun _ _ => rfl) rfl
    (s.zones.get z) []
  rwa [State.zoneBecomes_same { s with path := path } z] at stands

section
variable {s : State} {path : Path} {z : Fin 8} {q : Byte}

/-- The other zones' records stand when a word is received. -/
theorem State.zoneReceived_others (y : Fin 8) (other : y ≠ z) :
    (State.zoneReceived { s with path := path } z q).zones.get y = s.zones.get y :=
  Table.get_modify_ne _ _ other

/-- A received word whose handling sets the zone's record and completions down, with nothing handed on. -/
theorem State.slotMoved_becomes (k : Zone) (l : List (Completion × Origin)) :
    s.SlotMoved { s with path := path } ((State.zoneReceived { s with path := path } z q).zoneBecomes z k l).settle z k l :=
  State.zoneMoved_settle State.zoneReceived_others rfl k l

/-- A command that completes at once and leaves the zone (R110, R112). -/
theorem State.slotMoved_completeNow (code : Completion) :
    s.SlotMoved { s with path := path } ((State.zoneReceived { s with path := path } z q).completeNow z q code).settle z
      ((s.zones.get z).answered q code) [(code, .command q)] := by
  rw [State.completeNow_eq, State.zoneReceived_get]
  exact State.slotMoved_becomes _ _

/-- A word that changes the zone's record alone, with no completion. -/
theorem State.slotMoved_onZone (f : Zone → Zone) :
    s.SlotMoved { s with path := path } ((State.zoneReceived { s with path := path } z q).onZone z f).settle z
      (f ((s.zones.get z).receive q)) [] := by
  rw [State.onZone_eq, State.zoneReceived_get]
  exact State.slotMoved_becomes _ _

end

/-! ## SENSE -/

/-- The record that answers SENSE, received with sequence `q` (R112). -/
theorem Zone.receive_sense (k : Zone) (q : Byte) : (k.receive q).sense =
    match k.pending with
    | some p =>
      { k with
        lastSeq := some q, pending := none
        reply := { seq := some q, code := some p.code, origin := p.origin, further := p.further } }
    | none =>
      { k with lastSeq := some q, reply := { seq := some q, code := some .invalid, origin := .none, further := false } } := by
  cases pending : k.pending with
  | none => simp [Zone.sense, Zone.receive, Zone.answerInvalid, pending]
  | some p => simp [Zone.sense, Zone.receive, pending]

/-- Settles O42: SENSE is received and answered, with or without a pending completion. -/
theorem senseCollects : Obligations.SenseCollects := by
  intro z w s s1 c take config k q fresh
  obtain ⟨path, rfl⟩ := State.take_path take
  have answer : exec (.sense z) s = _ := State.taking_some s _ take
  rw [State.zoneReceives_acts (s := { s with path := path }) config fresh] at answer
  obtain ⟨robots, lineHold, moved⟩ := State.slotMoved_onZone (s := s) (path := path) (z := z) (q := q) Zone.sense
  rw [Zone.receive_sense] at moved
  exact ⟨_, answer, robots, lineHold, moved⟩

/-! ## What a slot refuses -/

/-- A word of a zone slot, other than SENSE, is ignored, refused or taken (R109). -/
theorem State.zoneReceives_unlessPending {s : State} {path : Path} {c : HallConfig} {z : Fin 8} {w : Word}
    (config : s.config = some c) (act : HallConfig → Byte → State → State) :
    let t := State.zoneReceives { s with path := path } z w fun c q s => s.unlessPending z (act c q)
    ((s.zones.get z).lastSeq = some (wordSeq w) → t = { s with path := path }) ∧
      ((s.zones.get z).lastSeq ≠ some (wordSeq w) → (s.zones.get z).pending ≠ none →
        t = (State.zoneReceived { s with path := path } z (wordSeq w)).onZone z Zone.answerInvalid) ∧
      ((s.zones.get z).lastSeq ≠ some (wordSeq w) → (s.zones.get z).pending = none →
        t = act c (wordSeq w) (State.zoneReceived { s with path := path } z (wordSeq w))) := by
  have pending : ((State.zoneReceived { s with path := path } z (wordSeq w)).zones.get z).pending = (s.zones.get z).pending := by
    rw [State.zoneReceived_get]
    rfl
  have acts : (s.zones.get z).lastSeq ≠ some (wordSeq w) → _ :=
    fun fresh => State.zoneReceives_acts (s := { s with path := path }) config fresh fun c q s => s.unlessPending z (act c q)
  refine ⟨fun repeated => ?_, fun fresh busy => ?_, fun fresh idle => ?_⟩
  · exact State.zoneReceives_repeated (s := { s with path := path }) repeated _
  · exact (acts fresh).trans (State.unlessPending_refuses (pending ▸ busy) _)
  · exact (acts fresh).trans (State.unlessPending_acts (pending.trans idle) _)

/-- OTHER_COMMAND_CODE of a zone slot (R109). -/
theorem exec_otherCommandCode_zone {n : Fin 9} {z : Fin 8} (slot : n.val = z.val) (s : State) :
    exec (.otherCommandCode n) s = execOtherZoneCode z s := by
  have small : n.val < 8 := slot ▸ z.isLt
  have same : (⟨n.val, small⟩ : Fin 8) = z := Fin.ext slot
  change execOtherCommandCode n s = _
  rw [execOtherCommandCode, dif_pos small, same]

/-- Settles O44: the slots of the six commands and of an unknown code handle a word alike. -/
theorem zoneSlotRefuses : Obligations.ZoneSlotRefuses := by
  intro z i sel w s s1 c take config k q other command leaves
  obtain ⟨path, rfl⟩ := State.take_path take
  obtain ⟨act, handled, unknown⟩ : ∃ act : HallConfig → Byte → State → State,
      exec i s = s.taking processorTag sel (fun w s => s.zoneReceives z w fun c q s => s.unlessPending z (act c q)) ∧
        (other → act = fun _ q s => s.completeNow z q .invalid) := by
    have known : (∀ n, i ≠ .otherCommandCode n) → ¬ other := fun differs ⟨⟨n, _, code⟩, _⟩ => differs n code
    rcases command with ⟨rfl, rfl⟩ | ⟨rfl, rfl⟩ | ⟨rfl, rfl⟩ | ⟨rfl, rfl⟩ | ⟨rfl, rfl⟩ | ⟨rfl, rfl⟩ | ⟨⟨n, slot, rfl⟩, rfl⟩
    · exact ⟨_, rfl, fun is => absurd is (known nofun)⟩
    · exact ⟨_, rfl, fun is => absurd is (known nofun)⟩
    · exact ⟨_, rfl, fun is => absurd is (known nofun)⟩
    · exact ⟨_, rfl, fun is => absurd is (known nofun)⟩
    · exact ⟨_, rfl, fun is => absurd is (known nofun)⟩
    · exact ⟨_, rfl, fun is => absurd is (known nofun)⟩
    · exact ⟨_, exec_otherCommandCode_zone slot s, fun _ => rfl⟩
  obtain ⟨repeated, busy, idle⟩ := State.zoneReceives_unlessPending (s := s) (path := path) (z := z) (w := w) config act
  rw [State.taking_some s _ take] at handled
  refine ⟨_, handled, fun same => ?_, fun fresh pending => ?_, fun fresh none is => ?_⟩
  · rw [repeated same]
    exact s.slotMoved_ignored path z
  · rw [busy fresh pending]
    exact State.slotMoved_onZone _
  · rw [idle fresh none, unknown is]
    exact State.slotMoved_completeNow _

/-! ## What a zone's state makes INVALID -/

section
variable {s : State} {z : Fin 8}

/-- ENTER outside RUN and HELD (R113). -/
theorem State.enterZone_invalid (out : (s.zones.get z).state ≠ .run) (unheld : (s.zones.get z).state ≠ .held) (c : HallConfig)
    (q : Byte) : s.enterZone c z q = s.completeNow z q .invalid :=
  if_neg fun calm => calm.elim out unheld

/-- CONFIRM outside BREAK (R113). -/
theorem State.confirmZone_invalid (other : (s.zones.get z).state ≠ .breakpoint) (c : HallConfig) (q : Byte) :
    s.confirmZone c z q = s.completeNow z q .invalid :=
  if_neg other

/-- A second EXTEND, or one outside REQUESTED and BREAK (R113, R118). -/
theorem State.extendZone_invalid (spent : (s.zones.get z).extended = true ∨
    ((s.zones.get z).state ≠ .requested ∧ (s.zones.get z).state ≠ .breakpoint)) (q : Byte) :
    s.extendZone z q = s.completeNow z q .invalid := by
  refine if_neg ?_
  rintro ⟨waits, first⟩
  rcases spent with again | ⟨unasked, unbroken⟩
  · cases again.symm.trans first
  · exact waits.elim unasked unbroken

/-- CANCEL with nothing to cancel (R113). -/
theorem State.cancelZone_invalid (unasked : (s.zones.get z).state ≠ .requested) (unbroken : (s.zones.get z).state ≠ .breakpoint)
    (shut : (s.zones.get z).state ≠ .opened) (c : HallConfig) (q : Byte) :
    s.cancelZone c z q = s.completeNow z q .invalid := by
  unfold State.cancelZone
  split
  · next requested => exact absurd requested unasked
  · next broken => exact absurd broken unbroken
  · next opened => exact absurd opened shut
  all_goals rfl

/-- RESET outside START, CLEARING and HELD (R113). -/
theorem State.resetZone_invalid (begun : (s.zones.get z).state ≠ .start) (unclear : (s.zones.get z).state ≠ .clearing)
    (unheld : (s.zones.get z).state ≠ .held) (c : HallConfig) (q : Byte) :
    s.resetZone c z q = s.completeNow z q .invalid :=
  if_neg fun ready => ready.elim begun fun ready => ready.elim unclear unheld

/-- RESUME outside HELD (R113). -/
theorem State.resumeZone_invalid (unheld : (s.zones.get z).state ≠ .held) (c : HallConfig) (q : Byte) :
    s.resumeZone c z q = s.completeNow z q .invalid :=
  if_neg unheld

end

/-- Settles O43: each command's handling completes INVALID in the states that R113 names. -/
theorem invalidZoneCommands : Obligations.InvalidZoneCommands := by
  intro z i cmd w s s1 c take config k q fresh idle command
  obtain ⟨path, rfl⟩ := State.take_path take
  have state : _ = k.state := State.zoneReceived_state { s with path := path } z q
  have extended : _ = k.extended := State.zoneReceived_extended { s with path := path } z q
  rw [← state, ← extended] at command
  have answer : exec i s = .next ((State.zoneReceived { s with path := path } z q).completeNow z q .invalid).settle := by
    rcases command with ⟨rfl, rfl, out, unheld⟩ | ⟨rfl, rfl, other⟩ | ⟨rfl, rfl, spent⟩ | ⟨rfl, rfl, unasked, unbroken, shut⟩ |
      ⟨rfl, rfl, begun, unclear, unheld⟩ | ⟨rfl, rfl, unheld⟩
    · exact State.zoneCommand_acts take config fresh idle (State.enterZone_invalid out unheld c q)
    · exact State.zoneCommand_acts take config fresh idle (State.confirmZone_invalid other c q)
    · exact State.zoneCommand_acts take config fresh idle (State.extendZone_invalid spent q)
    · exact State.zoneCommand_acts take config fresh idle (State.cancelZone_invalid unasked unbroken shut c q)
    · exact State.zoneCommand_acts take config fresh idle (State.resetZone_invalid begun unclear unheld c q)
    · exact State.zoneCommand_acts take config fresh idle (State.resumeZone_invalid unheld c q)
  exact ⟨_, answer, State.slotMoved_completeNow _⟩

end Sys2Proof.Machine
end

section
/-! The zone commands that a zone's state lets through: EXTEND and CONFIRM (O39), CANCEL (O40), RESET and RESUME (O41), ENTER (O38). -/

namespace Sys2Proof.Machine

/-! ## A command that moves its zone -/

section
variable {s : State} {path : Path} {z : Fin 8} {q : Byte}

/-- Receiving a word leaves the queue that a change of state leaves. -/
theorem State.zoneReceived_leftQueue (c : HallConfig) (new : ZoneState) :
    (State.zoneReceived { s with path := path } z q).leftQueue c z new = s.leftQueue c z new := by
  simp only [State.leftQueue, State.zoneReceived_state]
  rfl

/-- A zone's received record and completions set down with the queue that its change of state leaves, and handed on (R108). -/
theorem State.zoneMoved_received (queue : List Slot) (k : Zone) (l : List (Completion × Origin)) :
    s.ZoneMoved { s with path := path }
      (State.zoneBecomes { State.zoneReceived { s with path := path } z q with queue := queue } z k l).handOn.settle z k queue l :=
  State.zoneMoved_handOn (x := { State.zoneReceived { s with path := path } z q with queue := queue })
    State.zoneReceived_others rfl k l

/-- A command that moves its zone and completes at once (R110, R112). -/
theorem State.zoneMoved_command (c : HallConfig) (new : ZoneState) (code : Completion) :
    s.ZoneMoved { s with path := path }
      (((State.zoneReceived { s with path := path } z q).moveZone c z new).completeNow z q code).handOn.settle z
      (((s.zones.get z).answered q code).enter new s.time.localTime) (s.leftQueue c z new) [(code, .command q)] := by
  rw [State.moveZone_completeNow, State.zoneReceived_leftQueue, State.zoneReceived_get]
  exact State.zoneMoved_received _ _ _

/-- The case of a zone that is out of RUN, or enters it. -/
theorem State.zoneMoved_command_unmarked {new : ZoneState} (unmarked : (s.zones.get z).state ≠ .run ∨ new = .run)
    (c : HallConfig) (code : Completion) :
    s.ZoneMoved { s with path := path }
      (((State.zoneReceived { s with path := path } z q).moveZone c z new).completeNow z q code).handOn.settle z
      (((s.zones.get z).answered q code).enter new s.time.localTime) s.queue [(code, .command q)] := by
  have queue : s.leftQueue c z new = s.queue := if_neg fun leaves => unmarked.elim (· leaves.1) leaves.2
  have moved := State.zoneMoved_command (s := s) (path := path) (z := z) (q := q) c new code
  rwa [queue] at moved

end

/-! ## EXTEND and CONFIRM -/

/-- Settles O39: CONFIRM opens the zone in BREAK; the first EXTEND sets the flag and hands nothing on. -/
theorem confirmAndExtendTaken : Obligations.ConfirmAndExtendTaken := by
  intro z w s s1 c config k q fresh idle
  refine ⟨fun take broken => ?_, fun take waits first => ?_⟩
  · obtain ⟨path, rfl⟩ := State.take_path take
    have state := (State.zoneReceived_state { s with path := path } z q).trans broken
    have moved := State.zoneMoved_command_unmarked (s := s) (path := path) (q := q) (new := .opened)
      (.inl (by rw [broken]; nofun)) c .normal
    rw [Zone.enter_opened] at moved
    exact ⟨_, State.zoneCommand_acts take config fresh idle (if_pos state), moved⟩
  · obtain ⟨path, rfl⟩ := State.take_path take
    have state : _ = k.state := State.zoneReceived_state { s with path := path } z q
    have extended : _ = k.extended := State.zoneReceived_extended { s with path := path } z q
    have handled := State.zoneCommand_acts take config fresh idle (act := fun _ q s => s.extendZone z q)
      (if_pos ⟨by rwa [state], extended.trans first⟩)
    rw [State.completeNow_onZone, State.zoneReceived_get] at handled
    exact ⟨_, handled, State.slotMoved_becomes _ _⟩

/-! ## RESET and RESUME -/

/-- With the guard CLOSED the zone returns to RUN (R114). -/
theorem State.returnToRun_closed {s : State} {z : Fin 8} (closed : (s.guards.get z).level = false) (c : HallConfig) (q : Byte) :
    s.returnToRun c z q = ((s.moveZone c z .run).completeNow z q .normal).handOn := by
  rw [State.returnToRun, closed]
  rfl

/-- With the guard OPEN the command completes ABNORMAL-GUARD (R114). -/
theorem State.returnToRun_opened {s : State} {z : Fin 8} (opened : (s.guards.get z).level = true) (c : HallConfig) (q : Byte) :
    s.returnToRun c z q = s.completeNow z q .abnormalGuard :=
  if_pos opened

/-- Settles O41: both commands come to `State.returnToRun`. -/
theorem resetAndResumeTaken : Obligations.ResetAndResumeTaken := by
  intro z i cmd w s s1 c take config k q fresh idle command
  obtain ⟨path, rfl⟩ := State.take_path take
  have state : _ = k.state := State.zoneReceived_state { s with path := path } z q
  have answer : exec i s = .next ((State.zoneReceived { s with path := path } z q).returnToRun c z q).settle := by
    rcases command with ⟨rfl, rfl, ready⟩ | ⟨rfl, rfl, held⟩
    · exact State.zoneCommand_acts take config fresh idle (if_pos (by rwa [state]))
    · exact State.zoneCommand_acts take config fresh idle (if_pos (state.trans held))
  refine ⟨fun closed => ?_, fun opened _ => ?_⟩
  · rw [State.returnToRun_closed (s := State.zoneReceived { s with path := path } z q) closed] at answer
    have moved := State.zoneMoved_command_unmarked (s := s) (path := path) (z := z) (q := q) (.inr rfl) c .normal
    rw [Zone.enter_run] at moved
    exact ⟨_, answer, moved⟩
  · rw [State.returnToRun_opened (s := State.zoneReceived { s with path := path } z q) opened] at answer
    obtain ⟨-, -, moved⟩ := State.slotMoved_completeNow (s := s) (path := path) (z := z) (q := q) .abnormalGuard
    exact ⟨_, answer, moved⟩

/-! ## CANCEL -/

section
variable {s : State} {z : Fin 8}

/-- CANCEL of a request. -/
theorem State.cancelZone_requested (requested : (s.zones.get z).state = .requested) (c : HallConfig) (q : Byte) :
    s.cancelZone c z q =
      (((s.moveZone c z .run).completeEnter z .abnormalCancelled).completeNow z q .normal).handOn := by
  rw [State.cancelZone, requested]

/-- CANCEL of a break. -/
theorem State.cancelZone_broken (broken : (s.zones.get z).state = .breakpoint) (c : HallConfig) (q : Byte) :
    s.cancelZone c z q = ((s.moveZone c z .run).completeNow z q .abnormalCancelled).handOn := by
  rw [State.cancelZone, broken]

/-- CANCEL of a visit with the guard OPEN. -/
theorem State.cancelZone_opened (visited : (s.zones.get z).state = .opened) (opened : (s.guards.get z).level = true)
    (c : HallConfig) (q : Byte) : s.cancelZone c z q = s.completeNow z q .abnormalGuard := by
  rw [State.cancelZone, visited]
  exact if_pos opened

/-- CANCEL of a visit with the guard CLOSED. -/
theorem State.cancelZone_closed (visited : (s.zones.get z).state = .opened) (closed : (s.guards.get z).level = false)
    (c : HallConfig) (q : Byte) :
    s.cancelZone c z q = ((s.moveZone c z .clearing).completeNow z q .normal).handOn := by
  rw [State.cancelZone, visited, closed]
  rfl

end

/-- A request cancelled: its ENTER completes, then the command (R119). -/
theorem State.zoneMoved_cancelRequest {s : State} {path : Path} {z : Fin 8} {q e : Byte} (c : HallConfig)
    (flight : (s.zones.get z).inFlight = some e) :
    s.ZoneMoved { s with path := path }
      ((((State.zoneReceived { s with path := path } z q).moveZone c z .run).completeEnter z .abnormalCancelled).completeNow z q
        .normal).handOn.settle z
      { ((s.zones.get z).answered q .normal).enter .run s.time.localTime with
        inFlight := none, pending := some { code := .abnormalCancelled, origin := .command e, further := false } }
      s.queue [(.abnormalCancelled, .command e), (.normal, .command q)] := by
  have inFlight : (((State.zoneReceived { s with path := path } z q).zones.get z).enter .run s.time.localTime).inFlight =
      some e := by
    rw [State.zoneReceived_get]
    exact flight
  rw [State.moveZone_eq, State.leftQueue_run, State.completeEnter_onZone inFlight, State.zoneBecomes_completeNow]
  have moved := State.zoneMoved_received (s := s) (path := path) (z := z) (q := q) s.queue
    { ((s.zones.get z).answered q .normal).enter .run s.time.localTime with
      inFlight := none, pending := some { code := .abnormalCancelled, origin := .command e, further := false } }
    [(.abnormalCancelled, .command e), (.normal, .command q)]
  rw [State.zoneReceived_get]
  exact moved

/-- Settles O40: one lemma for each of the four rows of R119's table. -/
theorem cancelTaken : Obligations.CancelTaken := by
  intro z w s s1 c take config k q run fresh idle cancels
  obtain ⟨path, rfl⟩ := State.take_path take
  have state : _ = k.state := State.zoneReceived_state { s with path := path } z q
  have entered : ∀ k : Zone, k.enter .run s.time.localTime = run k := fun k => k.enter_run s.time.localTime
  have answer : exec (.cancel z) s = .next ((State.zoneReceived { s with path := path } z q).cancelZone c z q).settle :=
    State.zoneCommand_acts take config fresh idle rfl
  refine ⟨_, answer, fun e requested flight => ?_, fun broken => ?_, fun visited opened => ?_, fun visited closed => ?_⟩
  · rw [State.cancelZone_requested (state.trans requested)]
    have moved := State.zoneMoved_cancelRequest (path := path) (q := q) c flight
    rwa [entered] at moved
  · rw [State.cancelZone_broken (state.trans broken)]
    have moved := State.zoneMoved_command_unmarked (s := s) (path := path) (z := z) (q := q) (.inr rfl) c .abnormalCancelled
    rwa [entered] at moved
  · rw [State.cancelZone_opened (state.trans visited) opened]
    obtain ⟨-, -, moved⟩ := State.slotMoved_completeNow (s := s) (path := path) (z := z) (q := q) .abnormalGuard
    exact moved
  · rw [State.cancelZone_closed (state.trans visited) closed]
    have moved := State.zoneMoved_command_unmarked (s := s) (path := path) (q := q) (new := .clearing)
      (.inl (by rw [visited]; nofun)) c .normal
    rwa [Zone.enter_clearing] at moved

/-! ## Robots of a zone -/

/-- The member robots of a zone (6.1). -/
theorem HallConfig.mem_memberRobots {c : HallConfig} {z : Fin 8} {u : Fin 24} :
    u ∈ c.memberRobots z ↔ c.kindOf u = .filler ∧ c.zoneOf u = some z := by
  simp [HallConfig.memberRobots, HallConfig.isRobot]

/-- A robot has SAFE accepted. -/
theorem State.isSafe_iff {s : State} {u : Fin 24} :
    s.isSafe u = true ↔ ∃ r, s.robots.get u = some r ∧ r.accepted = .safe := by
  unfold State.isSafe
  cases s.robots.get u <;> simp

/-- A robot cannot be verified (R115). -/
theorem State.unverifiable_iff {s : State} {c : HallConfig} {u : Fin 24} : s.unverifiable c u = true ↔
    s.portStateOf c u ≠ .active ∨ ∀ r, s.robots.get u = some r → r.accepted = .lost ∨ r.accepted = .offline := by
  unfold State.unverifiable
  cases s.robots.get u <;> simp

/-- Some member robot cannot be verified (R115). -/
theorem State.anyUnverifiable_iff {s : State} {c : HallConfig} {z : Fin 8} : s.anyUnverifiable c z = true ↔
    ∃ u, (c.kindOf u = .filler ∧ c.zoneOf u = some z) ∧
      (s.portStateOf c u ≠ .active ∨ ∀ r, s.robots.get u = some r → r.accepted = .lost ∨ r.accepted = .offline) := by
  simp only [State.anyUnverifiable, List.any_eq_true, HallConfig.mem_memberRobots, State.unverifiable_iff]

/-- Every member robot has reached SAFE and is SAFE (R116). -/
theorem State.allSafe_iff {s : State} {c : HallConfig} {z : Fin 8} : s.allSafe c z = true ↔
    ∀ u, c.kindOf u = .filler ∧ c.zoneOf u = some z →
      u ∈ (s.zones.get z).safeReached ∧ ∃ r, s.robots.get u = some r ∧ r.accepted = .safe := by
  simp only [State.allSafe, List.all_eq_true, HallConfig.mem_memberRobots, Bool.and_eq_true, decide_eq_true_eq, State.isSafe_iff]

/-- Cause ZONE holds of a robot whose zone is out of RUN, as the robots see it when a change is handed on (R86). -/
theorem State.robotCondition_zone {a : State} {c : HallConfig} {z : Fin 8} {u : Fin 24} (zone : c.zoneOf u = some z)
    (out : (a.zones.get z).state ≠ .run) (r : Robot) :
    ((a.followGate c 0).followGate c 1).robotCondition c u r .zone = true := by
  have same : ((a.followGate c 0).followGate c 1).zoneStateOf c u = (a.zones.get z).state := by
    rw [State.zoneStateOf_congr (s := a) (by simp), State.zoneStateOf, zone]
  exact decide_eq_true (by rwa [same])

/-- Once a change is handed on, every robot of a zone out of RUN is HELD with cause ZONE (R86, R89, R108). -/
theorem State.handOn_zoneHolds {a : State} {c : HallConfig} {z : Fin 8} (config : a.config = some c)
    (out : (a.zones.get z).state ≠ .run) : a.handOn.settle.ZoneHolds c z := by
  intro u r' robot' zone
  rw [State.settle_robots, a.handOn_get config] at robot'
  obtain ⟨r, -, rfl⟩ := Option.map_eq_some_iff.1 robot'
  have holds := State.robotCondition_zone (a := a) zone out r
  refine ⟨(State.robotAfter_has _ c u r .zone).trans holds, ?_⟩
  rw [State.robotAfter_of_causes (State.causesOf_ne_zero holds)]

/-! ## ENTER -/

/-- The queue that a zone leaves which enters a state out of RUN (R108). -/
theorem State.leftQueue_of_ne {s : State} {z : Fin 8} {new : ZoneState} (enters : new ≠ .run) (c : HallConfig) :
    s.leftQueue c z new = if (s.zones.get z).state = .run then s.spanMarked c z else s.queue := by
  simp [State.leftQueue, enters]

/-- The record of a zone in REQUESTED, for an ENTER of sequence `q` and the robots `reached` that are SAFE already (R115). -/
def Zone.asked (k : Zone) (q : Byte) (reached : List (Fin 24)) (now : Nat) : Zone :=
  { k with
    state := .requested, unlocked := false, access := some now, extended := false, clearing := none, safeReached := reached,
    lastSeq := some q, inFlight := some q, reply := { seq := some q, code := none, origin := .none, further := false } }

/-- It is the received record that enters REQUESTED with its request. -/
theorem Zone.request_receive (k : Zone) (q : Byte) (reached : List (Fin 24)) (now : Nat) :
    ((k.receive q).enter .requested now).request q reached now = k.asked q reached now := by
  rw [Zone.enter_requested]
  rfl

/-- The record of a zone whose request is granted within the ENTER's own event (R116). -/
def Zone.granted (k : Zone) (new : ZoneState) (q : Byte) (code : Completion) (now : Nat) : Zone :=
  Zone.replied { k.enter new now with inFlight := none } q code

/-- A zone in REQUESTED is granted at once when every member robot is SAFE (R116). -/
theorem State.grantAtOnce_onZone {s : State} {z : Fin 8} {f : Zone → Zone} {reached : List (Fin 24)}
    (requested : (f (s.zones.get z)).state = .requested) (safe : (f (s.zones.get z)).safeReached = reached) (c : HallConfig)
    (q : Byte) : (s.onZone z f).grantAtOnce c z q =
      if ∀ u, c.kindOf u = .filler ∧ c.zoneOf u = some z → u ∈ reached ∧ ∃ r, s.robots.get u = some r ∧ r.accepted = .safe then
        s.zoneBecomes z
          ((f (s.zones.get z)).granted (grantOf (c.zones.get z)).1 q (grantOf (c.zones.get z)).2 s.time.localTime)
          [((grantOf (c.zones.get z)).2, .command q)]
      else s.zoneBecomes z (f (s.zones.get z)) [] := by
  have record : (s.onZone z f).zones.get z = f (s.zones.get z) := Table.get_modify_self _ _ _
  have out : ((s.onZone z f).zones.get z).state ≠ .run := by
    rw [record, requested]
    nofun
  simp only [State.grantAtOnce, State.allSafe_iff, record, safe]
  refine if_congr Iff.rfl ?_ (s.onZone_eq z f)
  rw [State.moveZone_of_out out, State.onZone_onZone, State.onZone_onZone]
  exact State.completeNow_onZone s z _ q _

/-- The zone's request, granted at once or not, as a change of its record and of the queue (R115, R116). -/
theorem State.requestZone_eq {s : State} {path : Path} {z : Fin 8} {q : Byte} (c : HallConfig) :
    let x : State := { State.zoneReceived { s with path := path } z q with queue := s.leftQueue c z .requested }
    let k := (s.zones.get z).asked q ((c.memberRobots z).filter s.isSafe) s.time.localTime
    (State.zoneReceived { s with path := path } z q).requestZone c z q =
      if ∀ u, c.kindOf u = .filler ∧ c.zoneOf u = some z → ∃ r, s.robots.get u = some r ∧ r.accepted = .safe then
        x.zoneBecomes z (k.granted (grantOf (c.zones.get z)).1 q (grantOf (c.zones.get z)).2 s.time.localTime)
          [((grantOf (c.zones.get z)).2, .command q)]
      else x.zoneBecomes z k [] := by
  intro x k
  have asks : (State.zoneReceived { s with path := path } z q).requestZone c z q =
      (x.onZone z fun k => (k.enter .requested s.time.localTime).request q ((c.memberRobots z).filter s.isSafe)
        s.time.localTime).grantAtOnce c z q := by
    rw [State.requestZone, State.moveZone_eq, State.zoneReceived_leftQueue, State.onZone_onZone]
    rfl
  have record : ((x.zones.get z).enter .requested s.time.localTime).request q ((c.memberRobots z).filter s.isSafe)
      s.time.localTime = k := by
    rw [show x.zones.get z = (s.zones.get z).receive q from State.zoneReceived_get { s with path := path } z q]
    exact Zone.request_receive _ _ _ _
  have reached : ∀ u, (c.kindOf u = .filler ∧ c.zoneOf u = some z → u ∈ (c.memberRobots z).filter s.isSafe ∧
      ∃ r, s.robots.get u = some r ∧ r.accepted = .safe) ↔
        (c.kindOf u = .filler ∧ c.zoneOf u = some z → ∃ r, s.robots.get u = some r ∧ r.accepted = .safe) := fun u => by
    rw [List.mem_filter, HallConfig.mem_memberRobots, State.isSafe_iff]
    tauto
  rw [asks, State.grantAtOnce_onZone (reached := (c.memberRobots z).filter s.isSafe) (congrArg Zone.state record :)
    (congrArg Zone.safeReached record :), record]
  exact if_congr (forall_congr' reached) rfl rfl

/-- A request that is not granted at once (R115). -/
theorem State.requestZone_waits {s : State} {path : Path} {c : HallConfig} {z : Fin 8} {q : Byte}
    (waits : ¬ ∀ u, c.kindOf u = .filler ∧ c.zoneOf u = some z → ∃ r, s.robots.get u = some r ∧ r.accepted = .safe) :
    s.ZoneMoved { s with path := path } ((State.zoneReceived { s with path := path } z q).requestZone c z q).handOn.settle z
      ((s.zones.get z).asked q ((c.memberRobots z).filter s.isSafe) s.time.localTime) (s.leftQueue c z .requested) [] := by
  rw [State.requestZone_eq, if_neg waits]
  exact State.zoneMoved_received _ _ _

/-- A request that is granted at once (R116). -/
theorem State.requestZone_granted {s : State} {path : Path} {c : HallConfig} {z : Fin 8} {q : Byte}
    (safe : ∀ u, c.kindOf u = .filler ∧ c.zoneOf u = some z → ∃ r, s.robots.get u = some r ∧ r.accepted = .safe) :
    s.ZoneMoved { s with path := path } ((State.zoneReceived { s with path := path } z q).requestZone c z q).handOn.settle z
      (((s.zones.get z).asked q ((c.memberRobots z).filter s.isSafe) s.time.localTime).granted (grantOf (c.zones.get z)).1 q
        (grantOf (c.zones.get z)).2 s.time.localTime)
      (s.leftQueue c z .requested) [((grantOf (c.zones.get z)).2, .command q)] := by
  rw [State.requestZone_eq, if_pos safe]
  exact State.zoneMoved_received _ _ _

/-- A zone that has made its request is out of RUN (R115, R116). -/
theorem State.requestZone_out {s : State} {path : Path} {c : HallConfig} {z : Fin 8} {q : Byte} :
    (((State.zoneReceived { s with path := path } z q).requestZone c z q).zones.get z).state ≠ .run := by
  rw [State.requestZone_eq]
  split
  · exact (congrArg Zone.state (Table.get_set_self _ _ _) :).trans_ne (grantOf_ne_run _)
  · exact (congrArg Zone.state (Table.get_set_self _ _ _) :).trans_ne nofun

/-- The configuration stands when a zone makes its request. -/
theorem State.requestZone_config (s : State) (c : HallConfig) (z : Fin 8) (q : Byte) :
    (s.requestZone c z q).config = s.config := by
  simp only [State.requestZone, State.grantAtOnce]
  split <;> simp

/-- Settles O38: `State.zoneMoved_command` gives the unverifiable case, `State.requestZone_eq` the request and its grant. -/
theorem enterTaken : Obligations.EnterTaken := by
  intro z w s s1 c take config k q fresh idle calm member unverifiable allSafe queue
  obtain ⟨path, rfl⟩ := State.take_path take
  have state : _ = k.state := State.zoneReceived_state { s with path := path } z q
  have handled : ∀ b, (if (State.zoneReceived { s with path := path } z q).anyUnverifiable c z then
      (((State.zoneReceived { s with path := path } z q).moveZone c z .held).completeNow z q .abnormalUnverifiable).handOn
      else ((State.zoneReceived { s with path := path } z q).requestZone c z q).handOn) = b →
        exec (.enter z) s = .next b.settle := fun b enters =>
    State.zoneCommand_acts take config fresh idle ((if_pos (by rwa [state])).trans enters)
  have fails : (State.zoneReceived { s with path := path } z q).anyUnverifiable c z = true ↔ unverifiable :=
    State.anyUnverifiable_iff
  have left : ∀ new, new ≠ .run → s.leftQueue c z new = queue := fun new enters => State.leftQueue_of_ne enters c
  by_cases unverified : unverifiable
  · have moved := State.zoneMoved_command (s := s) (path := path) (z := z) (q := q) c .held .abnormalUnverifiable
    rw [Zone.enter_held, left .held nofun] at moved
    refine ⟨_, handled _ (if_pos (fails.2 unverified)), State.handOn_zoneHolds ?_ ?_, fun _ => moved, fun verified =>
      absurd unverified verified⟩
    · simpa [State.zoneReceived] using config
    · rw [State.moveZone_completeNow]
      exact (congrArg Zone.state (Table.get_set_self _ _ _) :).trans_ne nofun
  · refine ⟨_, handled _ (if_neg fun fail => unverified (fails.1 fail)),
      State.handOn_zoneHolds ((State.requestZone_config _ c z q).trans config) State.requestZone_out, fun fail => absurd fail unverified,
      fun _ => ⟨(c.memberRobots z).filter s.isSafe, fun u => ?_, fun waits => ?_, fun safe stop => ?_, fun safe stop => ?_⟩⟩
    · rw [List.mem_filter, HallConfig.mem_memberRobots, State.isSafe_iff]
    · have moved := State.requestZone_waits (s := s) (path := path) (q := q) waits
      rwa [left .requested nofun] at moved
    · have moved := State.requestZone_granted (s := s) (path := path) (q := q) safe
      rw [left .requested nofun, grantOf, if_pos stop, Zone.granted, Zone.enter_breakpoint] at moved
      exact moved
    · have moved := State.requestZone_granted (s := s) (path := path) (q := q) safe
      rw [left .requested nofun, grantOf, if_neg (by simp [stop]), Zone.granted, Zone.enter_opened] at moved
      exact moved

end Sys2Proof.Machine
end

section
/-! The events of a zone's guard (O35, O36) and of its timers (O37). -/

namespace Sys2Proof.Machine

/-! ## Timers -/

/-- A zone in REQUESTED that falls to HELD, its ENTER completed (R110, R115). -/
theorem State.moveZone_held_completeEnter {s : State} {z : Fin 8} {q : Byte} (requested : (s.zones.get z).state = .requested)
    (flight : (s.zones.get z).inFlight = some q) (c : HallConfig) (code : Completion) :
    (s.moveZone c z .held).completeEnter z code = s.zoneBecomes z
      { (s.zones.get z).fallen with
        inFlight := none, pending := some { code := code, origin := .command q, further := false } }
      [(code, .command q)] := by
  rw [State.moveZone_held (by rw [requested]; nofun)]
  exact State.completeEnter_onZone flight code

/-- A zone out of RUN that falls to HELD of its own accord (R111). -/
theorem State.moveZone_held_completeAlone {s : State} {z : Fin 8} (out : (s.zones.get z).state ≠ .run) (c : HallConfig)
    (code : Completion) : (s.moveZone c z .held).completeAlone z code = s.zoneBecomes z
      { (s.zones.get z).fallen with pending := merged (s.zones.get z).pending code } [(code, .autonomous)] := by
  rw [State.moveZone_held out]
  exact s.completeAlone_onZone z Zone.fallen code

/-- The zone's record and completions set down in the state in which the step finds it, and handed on. -/
theorem State.zoneMoved_event (s : State) (z : Fin 8) (k : Zone) (l : List (Completion × Origin)) :
    s.ZoneMoved s (s.zoneBecomes z k l).handOn.settle z k s.queue l :=
  State.zoneMoved_handOn (s := s) (x := s) (path := s.path) (fun _ _ => rfl) rfl k l

/-- The access timer's expiry in REQUESTED (R115). -/
theorem State.accessExpired_requested {s : State} {z : Fin 8} (requested : (s.zones.get z).state = .requested) (c : HallConfig) :
    s.accessExpired c z = ((s.moveZone c z .held).completeEnter z .abnormalTimeout).handOn := by
  rw [State.accessExpired, requested]

/-- The access timer's expiry in BREAK (R118). -/
theorem State.accessExpired_broken {s : State} {z : Fin 8} (broken : (s.zones.get z).state = .breakpoint) (c : HallConfig) :
    s.accessExpired c z = ((s.moveZone c z .held).completeAlone z .abnormalTimeout).handOn := by
  rw [State.accessExpired, broken]

/-- ACCESS_TIMER_EXPIRY once the timer has run out (R115, R118). -/
theorem exec_accessTimerExpiry_due {s : State} {c : HallConfig} {z : Fin 8} {b : Nat} (config : s.config = some c)
    (access : (s.zones.get z).access = some b)
    (due : b + (if (s.zones.get z).extended then 20000000000 else 15000000000) ≤ s.time.localTime) :
    exec (.accessTimerExpiry z) s = .next (s.accessExpired c z).settle := by
  have out : (s.zones.get z).accessDue s.time.localTime = true := by
    simp only [Zone.accessDue, timerDue, access, accessLength, ms]
    exact decide_eq_true due
  change execAccessTimerExpiry z s = _
  simp only [execAccessTimerExpiry, config, out, if_true]

/-- CLEARING_WINDOW_EXPIRY once the window has run out (R120). -/
theorem exec_clearingWindowExpiry_due {s : State} {c : HallConfig} {z : Fin 8} {b : Nat} (config : s.config = some c)
    (state : (s.zones.get z).state = .clearing) (clearing : (s.zones.get z).clearing = some b)
    (due : b + 10000000000 ≤ s.time.localTime) : exec (.clearingWindowExpiry z) s =
      .next ((s.moveZone c z .held).completeAlone z .abnormalTimeout).handOn.settle := by
  have out : (s.zones.get z).clearingDue s.time.localTime = true := by
    simp only [Zone.clearingDue, timerDue, clearing, ms, state, decide_true, Bool.true_and]
    exact decide_eq_true due
  change execClearingWindowExpiry z s = _
  simp only [execClearingWindowExpiry, config, out, if_true]

/-- Settles O37: each expiry takes the zone to HELD, with its ENTER completed or of its own accord. -/
theorem zoneTimersExpire : Obligations.ZoneTimersExpire := by
  intro z s c b config k held
  refine ⟨fun access due => ⟨fun q requested flight => ?_, fun broken => ?_⟩, fun state clearing due => ?_⟩
  · have answer := exec_accessTimerExpiry_due config access due
    rw [State.accessExpired_requested requested, State.moveZone_held_completeEnter requested flight] at answer
    exact ⟨_, answer, s.zoneMoved_event z _ _⟩
  · have answer := exec_accessTimerExpiry_due config access due
    rw [State.accessExpired_broken broken, State.moveZone_held_completeAlone (by rw [broken]; nofun)] at answer
    exact ⟨_, answer, s.zoneMoved_event z _ _⟩
  · have answer := exec_clearingWindowExpiry_due config state clearing due
    rw [State.moveZone_held_completeAlone (by rw [state]; nofun)] at answer
    exact ⟨_, answer, s.zoneMoved_event z _ _⟩

/-! ## The guard CLOSED -/

/-- The raw level has stood long enough to become the filtered one (R106). -/
theorem Guard.settles_of_due {g : Guard} {opened : Bool} {now : Nat} (raw : g.raw = opened) (level : g.level = !opened)
    (due : g.since + 10000000 ≤ now) : g.settles opened now = true := by
  simp [Guard.settles, raw, level, ms, due]

/-- The zone's record and completions set down after the guard's level has changed, and handed on. -/
theorem State.zoneMoved_setLevel (s : State) (z : Fin 8) (opened : Bool) (k : Zone) (l : List (Completion × Origin)) :
    s.ZoneMoved s { ((s.setLevel z opened).zoneBecomes z k l).handOn.settle with guards := s.guards } z k s.queue l := by
  have moved := State.zoneMoved_handOn_guards (s := s) (a := (s.setLevel z opened).zoneBecomes z k l) (path := s.path) (z := z)
    (l := l) (fun _ => rfl) (fun y other => Table.get_set_ne _ _ other) (State.zoneBecomes_given _ z k l) rfl
  rwa [show ((s.setLevel z opened).zoneBecomes z k l).zones.get z = k from Table.get_set_self _ _ _] at moved

/-- A level that changes alone leaves the zone. -/
theorem State.zoneMoved_setLevel_stands (s : State) (z : Fin 8) (opened : Bool) :
    s.ZoneMoved s { (s.setLevel z opened).settle with guards := s.guards } z (s.zones.get z) s.queue [] :=
  State.zoneMoved_of_settle (s := s) (b := s) (path := s.path) (z := z) (l := []) ⟨fun _ => rfl, fun _ _ _ => rfl⟩
    (fun _ _ => rfl) (fun none => congrArg (List.filter _) none) rfl

/-- GUARD_CLOSED once the raw level has stood CLOSED (R106). -/
theorem exec_guardClosed_due {s : State} {z : Fin 8} (settles : (s.guards.get z).settles false s.time.localTime = true) :
    exec (.guardClosed z) s =
      match s.config with
      | none => .next (s.setLevel z false)
      | some c => .next ((s.setLevel z false).guardClosed c z).settle :=
  if_pos settles

/-- OPEN and FORCED go to CLEARING of their own accord (R120, R122). -/
theorem State.guardClosed_clears {s : State} {z : Fin 8}
    (state : (s.zones.get z).state = .opened ∨ (s.zones.get z).state = .forced) (c : HallConfig) :
    s.guardClosed c z = (s.zoneBecomes z
      { s.zones.get z with
        state := .clearing, unlocked := false, access := none, clearing := some s.time.localTime
        pending := merged (s.zones.get z).pending .normalClear }
      [(.normalClear, .autonomous)]).handOn := by
  have out : (s.zones.get z).state ≠ .run := by rcases state with opened | forced <;> simp [*]
  rw [State.guardClosed, if_pos state, State.moveZone_of_out out, State.completeAlone_onZone, Zone.enter_clearing]

/-- GUARD_RAW_CHANGE moves the raw level, and the time since which it has stood (R106). -/
theorem Guard.change_eq (g : Guard) (opened : Bool) (now : Nat) :
    g.change opened now = { g with raw := opened, since := if g.raw = opened then g.since else now } := by
  unfold Guard.change
  split
  · next same => simp [← same]
  · rfl

/-- Settles O36: a raw change moves its guard alone; a CLOSED level takes OPEN and FORCED to CLEARING. -/
theorem guardClosedClearsZone : Obligations.GuardClosedClearsZone := by
  intro z s g k
  refine ⟨fun opened => ?_, fun raw level due => ⟨fun none => ?_, fun c config => ?_⟩⟩
  · have changed : (s.guards.modify z fun g => g.change opened s.time.localTime).get z = _ :=
      (Table.get_modify_self _ _ _).trans (g.change_eq opened s.time.localTime)
    exact ⟨_, rfl, (congrArg Guard.raw changed :), (congrArg Guard.level changed :), (congrArg Guard.since changed :),
      fun y other => Table.get_modify_ne _ _ other, rfl⟩
  · have answer := exec_guardClosed_due (Guard.settles_of_due raw level due)
    rw [none] at answer
    exact answer
  · have answer := exec_guardClosed_due (Guard.settles_of_due raw level due)
    rw [config] at answer
    refine ⟨_, answer, ?_⟩
    by_cases clears : k.state = .opened ∨ k.state = .forced
    · rw [State.guardClosed_clears (s := s.setLevel z false) clears, if_pos clears, if_pos clears]
      exact ⟨by rw [State.settle_guards, State.handOn_guards]; rfl, s.zoneMoved_setLevel z false _ _⟩
    · have stands : (s.setLevel z false).guardClosed c z = s.setLevel z false := if_neg clears
      rw [stands, if_neg clears, if_neg clears]
      exact ⟨rfl, s.zoneMoved_setLevel_stands z false⟩

/-! ## The guard OPEN -/

/-- The record of a zone that is forced, with its ENTER in flight completed, or of its own accord (R110, R111, R121). -/
def Zone.forced (k : Zone) : Zone :=
  { k with
    state := .forced, unlocked := false, forcedCause := some k.state, forcedCount := min 255 (k.forcedCount + 1),
    afterForced := true, access := none, clearing := none, safeReached := [], inFlight := none
    pending :=
      match k.inFlight with
      | some q => some { code := .abnormalGuard, origin := .command q, further := false }
      | none => merged k.pending .abnormalGuard }

/-- The record of a zone that returns to FORCED (R122). -/
def Zone.reopened (k : Zone) : Zone :=
  { k with
    state := .forced, unlocked := false, forcedCount := min 255 (k.forcedCount + 1), access := none, clearing := none }

/-- The completion of a zone that is forced (R111, R121). -/
def Zone.forcedCompletion (k : Zone) : Completion × Origin :=
  (.abnormalGuard, match k.inFlight with | some q => .command q | none => .autonomous)

/-- The span marked after a change of the zone's record. -/
theorem State.markSpan_onZone (s : State) (c : HallConfig) (z : Fin 8) (f : Zone → Zone) :
    (s.onZone z f).markSpan c z = State.onZone { s with queue := s.spanMarked c z } z f := by
  rw [State.markSpan_eq]
  rfl

/-- A forced zone's record, its completion and the queue, before the robots' release-confirm is set (R121). -/
theorem State.forceZone_becomes (s : State) (c : HallConfig) (z : Fin 8) : s.forceZone c z =
    (State.zoneBecomes { s with queue := s.leftQueue c z .forced } z (s.zones.get z).forced
      [(s.zones.get z).forcedCompletion]).confirmMembers c z := by
  have marked : (if decide ((s.zones.get z).state = .run) = true then
      (s.onZone z fun k => k.force s.time.localTime).markSpan c z else s.onZone z fun k => k.force s.time.localTime) =
        State.onZone { s with queue := s.leftQueue c z .forced } z fun k => k.force s.time.localTime := by
    rw [State.leftQueue_of_ne (new := .forced) nofun, State.markSpan_onZone]
    simp only [decide_eq_true_eq]
    split <;> rfl
  have record : (State.onZone { s with queue := s.leftQueue c z .forced } z fun k => k.force s.time.localTime).zones.get z =
      (s.zones.get z).force s.time.localTime := Table.get_modify_self _ _ _
  have flying : ((s.zones.get z).force s.time.localTime).inFlight = (s.zones.get z).inFlight := rfl
  simp only [State.forceZone, marked, record]
  congr 1
  cases flight : (s.zones.get z).inFlight with
  | some q =>
    rw [if_pos (by rw [flying, flight]; rfl), State.completeEnter_onZone (flying.trans flight)]
    simp [Zone.force, Zone.enter_forced, Zone.forced, Zone.forcedCompletion, flight, satAdd]
  | none =>
    rw [if_neg (by rw [flying, flight]; nofun), State.completeAlone_onZone]
    simp [Zone.force, Zone.enter_forced, Zone.forced, Zone.forcedCompletion, flight, satAdd]

/-- A reopened zone's record, before the robots' release-confirm is set (R122). -/
theorem State.reopenZone_becomes (s : State) (c : HallConfig) (z : Fin 8) : s.reopenZone c z =
    (s.zoneBecomes z (s.zones.get z).reopened []).confirmMembers c z := by
  rw [State.reopenZone, State.onZone_eq, Zone.reopen, Zone.enter_forced]
  rfl

/-- Setting release-confirm leaves the robots' own records (R90). -/
theorem State.confirmMembers_own (s : State) (c : HallConfig) (z : Fin 8) (u : Fin 24) :
    ((s.confirmMembers c z).robots.get u).map Robot.own = (s.robots.get u).map Robot.own := by
  rw [State.confirmMembers, Table.get_mapFin, Option.map_map]
  refine congrArg (Option.map · _) (funext fun r => ?_)
  simp only [Function.comp]
  split <;> rfl

/-- A member robot with release-confirm set keeps it when the change is handed on, while its zone is out of RUN (R89, R90). -/
theorem State.handOn_confirmed {a : State} {c : HallConfig} {z : Fin 8} (config : a.config = some c)
    (out : (a.zones.get z).state ≠ .run) {u : Fin 24} {r' : Robot} (filler : c.kindOf u = .filler) (zone : c.zoneOf u = some z)
    (robot' : (a.confirmMembers c z).handOn.settle.robots.get u = some r') : r'.confirm = true := by
  rw [State.settle_robots, (a.confirmMembers c z).handOn_get config, State.confirmMembers, Table.get_mapFin,
    Option.map_map] at robot'
  obtain ⟨r, -, rfl⟩ := Option.map_eq_some_iff.1 robot'
  have holds := State.robotCondition_zone (a := a.confirmMembers c z) zone out { r with confirm := true }
  have member : c.isRobot u = true ∧ c.zoneOf u = some z := ⟨decide_eq_true filler, zone⟩
  simp only [Function.comp, if_pos member]
  exact (congrArg Robot.confirm (State.robotAfter_of_causes (State.causesOf_ne_zero holds)) :).trans (by simp)

/-! ## What the guard's opening leaves -/

/-- GUARD_OPEN once the raw level has stood OPEN (R106). -/
theorem exec_guardOpen_due {s : State} {z : Fin 8} (settles : (s.guards.get z).settles true s.time.localTime = true) :
    exec (.guardOpen z) s =
      match s.config with
      | none => .next (s.setLevel z true)
      | some c => .next ((s.setLevel z true).guardOpened c z).settle :=
  if_pos settles

/-- A zone forced or reopened, with its robots' release-confirm set, and handed on (R90, R121, R122). -/
theorem State.zoneMoved_confirmed {s : State} {c : HallConfig} {z : Fin 8} {queue : List Slot} {k : Zone}
    {l : List (Completion × Origin)} (config : s.config = some c) (out : k.state ≠ .run) :
    let a := (State.zoneBecomes { s.setLevel z true with queue := queue } z k l).confirmMembers c z
    s.ZoneMoved s { a.handOn.settle with guards := s.guards } z k queue l ∧ a.handOn.settle.ZoneHolds c z ∧
      ∀ u r, c.kindOf u = .filler → c.zoneOf u = some z → a.handOn.settle.robots.get u = some r → r.confirm = true := by
  intro a
  have record : a.zones.get z = k := Table.get_set_self _ _ _
  have moved := State.zoneMoved_handOn_guards (s := s) (a := a) (path := s.path) (z := z) (l := l)
    (fun u => State.confirmMembers_own _ c z u) (fun y other => Table.get_set_ne _ _ other)
    (State.zoneBecomes_given { s.setLevel z true with queue := queue } z k l) rfl
  rw [record] at moved
  have outside : (a.zones.get z).state ≠ .run := by rwa [record]
  exact ⟨moved, State.handOn_zoneHolds config outside, fun u r => State.handOn_confirmed
    (a := State.zoneBecomes { s.setLevel z true with queue := queue } z k l) config outside⟩

section
variable {s : State} {z : Fin 8}

/-- The guard's opening leaves a zone in OPEN or FORCED (R106). -/
theorem State.guardOpened_stands (stands : (s.zones.get z).state = .opened ∨ (s.zones.get z).state = .forced)
    (c : HallConfig) : s.guardOpened c z = s := by
  rcases stands with opened | forced
  · rw [State.guardOpened, Zone.openEffect, opened]
  · rw [State.guardOpened, Zone.openEffect, forced]

/-- It returns to FORCED a zone in CLEARING after a forced entry (R122). -/
theorem State.guardOpened_reopens (clearing : (s.zones.get z).state = .clearing) (after : (s.zones.get z).afterForced = true)
    (c : HallConfig) : s.guardOpened c z = (s.reopenZone c z).handOn := by
  rw [State.guardOpened, Zone.openEffect, clearing]
  simp only [after, if_true]

/-- It forces every other zone (R121). -/
theorem State.guardOpened_forces (shut : (s.zones.get z).state ≠ .opened) (unforced : (s.zones.get z).state ≠ .forced)
    (first : (s.zones.get z).state = .clearing → (s.zones.get z).afterForced = false) (c : HallConfig) :
    s.guardOpened c z = (s.forceZone c z).handOn := by
  have effect : (s.zones.get z).openEffect = .force := by
    unfold Zone.openEffect
    split
    · next opened => exact absurd opened shut
    · next forced => exact absurd forced unforced
    · next clearing =>
      rw [first clearing]
      rfl
    all_goals rfl
  rw [State.guardOpened, effect]

/-- The guards stand when the zone takes the guard's opening. -/
theorem State.guardOpened_guards (s : State) (c : HallConfig) (z : Fin 8) : (s.guardOpened c z).guards = s.guards := by
  unfold State.guardOpened
  split
  · rfl
  · rw [State.handOn_guards, State.forceZone_becomes]
    rfl
  · rw [State.handOn_guards, State.reopenZone_becomes]
    rfl

end

/-- Settles O35: the table of R106 says which zones are forced, which reopened, and which stand. -/
theorem guardOpenForcesZone : Obligations.GuardOpenForcesZone := by
  intro z s raw level due k lifted
  have answer := exec_guardOpen_due (Guard.settles_of_due raw level due)
  refine ⟨fun none => ?_, fun c config => ?_⟩
  · rw [none] at answer
    exact answer
  · rw [config] at answer
    refine ⟨_, answer, (State.settle_guards _).trans ((s.setLevel z true).guardOpened_guards c z), fun stands => ?_,
      fun clearing after => ?_, fun shut unforced first => ?_⟩
    · rw [State.guardOpened_stands (s := s.setLevel z true) stands]
      exact s.zoneMoved_setLevel_stands z true
    · rw [State.guardOpened_reopens (s := s.setLevel z true) clearing after, State.reopenZone_becomes]
      exact State.zoneMoved_confirmed (k := k.reopened) config ZoneState.noConfusion
    · rw [State.guardOpened_forces (s := s.setLevel z true) shut unforced first, State.forceZone_becomes,
        State.leftQueue_of_ne (new := .forced) nofun]
      exact State.zoneMoved_confirmed (k := k.forced) config ZoneState.noConfusion

end Sys2Proof.Machine
end

section
/-! The zone's test of a member robot's change (R116, R117), and what a status frame makes of its robot's zone (O26). -/

namespace Sys2Proof.Machine

/-! ## The test -/

/-- The record of a zone in REQUESTED once robot `u` has reached SAFE (R116). -/
def Zone.reach (k : Zone) (u : Fin 24) : Zone :=
  { k with safeReached := addReached k.safeReached u }

/-- The record of a zone that is granted at a later event, the ENTER of sequence `q` completed (R110, R116). -/
def Zone.grantedLater (k : Zone) (new : ZoneState) (q : Byte) (code : Completion) (now : Nat) : Zone :=
  { k.enter new now with inFlight := none, pending := some { code := code, origin := .command q, further := false } }

section
variable {s : State} {c : HallConfig} {z : Fin 8} {u : Fin 24} {old new : MachineState}

/-- The zone of a robot tests a change of its accepted state. -/
theorem State.zoneSees_member (zone : c.zoneOf u = some z) (differs : old ≠ new) :
    s.zoneSees c u old new = s.zoneTest c z u old new := by
  simp only [State.zoneSees, zone]
  exact if_neg differs

/-- A member that reaches SAFE joins the safe-reached set, and the zone tests whether it is granted (R116). -/
theorem State.zoneSees_reaches (zone : c.zoneOf u = some z) (requested : (s.zones.get z).state = .requested)
    (unsafeBefore : old ≠ .safe) : s.zoneSees c u old .safe = (s.onZone z fun k => k.reach u).grantLater c z := by
  rw [State.zoneSees_member zone unsafeBefore, State.zoneTest]
  simp only [requested, if_true]
  rfl

/-- The last member to reach SAFE grants the zone (R116). -/
theorem State.zoneSees_grants {q : Byte} (zone : c.zoneOf u = some z) (requested : (s.zones.get z).state = .requested)
    (flight : (s.zones.get z).inFlight = some q) (unsafeBefore : old ≠ .safe)
    (all : (s.onZone z fun k => k.reach u).allSafe c z = true) : s.zoneSees c u old .safe = s.zoneBecomes z
      (((s.zones.get z).reach u).grantedLater (grantOf (c.zones.get z)).1 q (grantOf (c.zones.get z)).2 s.time.localTime)
      [((grantOf (c.zones.get z)).2, .command q)] := by
  have record : (s.onZone z fun k => k.reach u).zones.get z = (s.zones.get z).reach u := Table.get_modify_self _ _ _
  have out : ((s.onZone z fun k => k.reach u).zones.get z).state ≠ .run := by
    rw [record]
    exact requested.trans_ne nofun
  rw [State.zoneSees_reaches zone requested unsafeBefore, State.grantLater, if_pos all, State.moveZone_of_out out,
    State.onZone_onZone]
  exact State.completeEnter_onZone flight _

/-- An earlier one leaves it in REQUESTED (R116). -/
theorem State.zoneSees_waits (zone : c.zoneOf u = some z) (requested : (s.zones.get z).state = .requested)
    (unsafeBefore : old ≠ .safe) (some : (s.onZone z fun k => k.reach u).allSafe c z ≠ true) :
    s.zoneSees c u old .safe = s.zoneBecomes z ((s.zones.get z).reach u) [] := by
  rw [State.zoneSees_reaches zone requested unsafeBefore, State.grantLater, if_neg some]
  exact s.onZone_eq z _

/-- A member of the safe-reached set that leaves SAFE takes a zone in REQUESTED to HELD (R116). -/
theorem State.zoneSees_leaves_requested {q : Byte} (zone : c.zoneOf u = some z)
    (requested : (s.zones.get z).state = .requested) (flight : (s.zones.get z).inFlight = some q)
    (member : u ∈ (s.zones.get z).safeReached) (unsafeAfter : new ≠ .safe) : s.zoneSees c u .safe new = s.zoneBecomes z
      { (s.zones.get z).fallen with
        inFlight := none, pending := some { code := .abnormalChanged, origin := .command q, further := false } }
      [(.abnormalChanged, .command q)] := by
  rw [State.zoneSees_member zone unsafeAfter.symm, State.zoneTest]
  simp only [requested, if_true, if_neg unsafeAfter, member, and_self]
  exact State.moveZone_held_completeEnter requested flight c _

/-- A member that leaves SAFE takes a zone in BREAK to HELD (R117). -/
theorem State.zoneSees_leaves_broken (zone : c.zoneOf u = some z) (broken : (s.zones.get z).state = .breakpoint)
    (unsafeAfter : new ≠ .safe) : s.zoneSees c u .safe new = s.zoneBecomes z
      { (s.zones.get z).fallen with pending := merged (s.zones.get z).pending .abnormalChanged }
      [(.abnormalChanged, .autonomous)] := by
  rw [State.zoneSees_member zone unsafeAfter.symm, State.zoneTest]
  simp only [broken, reduceCtorEq, if_false, unsafeAfter, ne_eq, not_false_eq_true, and_self, if_true]
  exact State.moveZone_held_completeAlone (by rw [broken]; nofun) c _

/-- Every other change leaves the zone as it stands (R116, R117). -/
theorem State.zoneSees_stands (zone : c.zoneOf u = some z)
    (reaches : (s.zones.get z).state = .requested → ¬ (old ≠ .safe ∧ new = .safe))
    (leaves : (s.zones.get z).state = .requested → ¬ ((old = .safe ∧ new ≠ .safe) ∧ u ∈ (s.zones.get z).safeReached))
    (breaks : (s.zones.get z).state = .breakpoint → ¬ (old = .safe ∧ new ≠ .safe)) :
    s.zoneSees c u old new = s.zoneBecomes z (s.zones.get z) [] := by
  rw [State.zoneBecomes_same]
  by_cases same : old = new
  · simp only [State.zoneSees, zone]
    exact if_pos same
  · rw [State.zoneSees_member zone same, State.zoneTest]
    by_cases requested : (s.zones.get z).state = .requested
    · have unsafeAfter : new ≠ .safe := fun safe => reaches requested ⟨fun before => same (before.trans safe.symm), safe⟩
      have stays : ¬ (old = .safe ∧ u ∈ (s.zones.get z).safeReached) := fun left =>
        leaves requested ⟨⟨left.1, unsafeAfter⟩, left.2⟩
      simp only [requested, if_true, if_neg unsafeAfter, if_neg stays]
    · have stays : ¬ ((s.zones.get z).state = .breakpoint ∧ old = .safe ∧ new ≠ .safe) := fun left => breaks left.1 left.2
      simp only [if_neg requested, if_neg stays]

end

/-! ## What a report makes of the accepted state (R83) -/

/-- A taken frame takes a robot to SAFE with the last of the reports that it needs. -/
theorem Robot.takeFrame_reaches {r : Robot} {f : StatusFrame} {safeCount now : Nat} :
    (r.accepted ≠ .safe ∧ (r.takeFrame f safeCount now).accepted = .safe) ↔
      r.accepted ≠ .safe ∧ f.reported = .safe ∧ safeCount ≤ r.safeRun + 1 := by
  refine and_congr_right fun unsafeBefore => ?_
  change (r.report f.reported safeCount).accepted = .safe ↔ _
  by_cases reported : f.reported = .safe
  · by_cases enough : safeCount ≤ r.safeRun + 1
    · simp [reported, enough, Robot.report_safe_reached unsafeBefore enough]
    · simp [reported, enough, Robot.report_safe_counted unsafeBefore (Nat.lt_of_not_le enough), unsafeBefore]
  · simp [Robot.report_other reported, reported]

/-- It takes a robot out of SAFE with any other report. -/
theorem Robot.takeFrame_leaves {r : Robot} {f : StatusFrame} {safeCount now : Nat} :
    (r.accepted = .safe ∧ (r.takeFrame f safeCount now).accepted ≠ .safe) ↔ r.accepted = .safe ∧ f.reported ≠ .safe := by
  refine and_congr_right fun safe => not_congr ?_
  change (r.report f.reported safeCount).accepted = .safe ↔ _
  by_cases reported : f.reported = .safe
  · simp [reported, Robot.report_safe_again safe, safe]
  · simp [Robot.report_other reported, reported]

/-! ## The step -/

/-- SAFE accepted is a matter of a robot's own record. -/
theorem State.isSafe_of_own {t : State} {u : Fin 24} {o : Option Robot}
    (own : (t.robots.get u).map Robot.own = o.map Robot.own) :
    t.isSafe u = true ↔ ∃ r, o = some r ∧ r.accepted = .safe := by
  rw [State.isSafe_iff]
  constructor
  · rintro ⟨r, robot, safe⟩
    rw [robot] at own
    obtain ⟨r', rfl, same⟩ := Option.map_eq_some_iff.1 own.symm
    exact ⟨r', rfl, (Robot.own_eq same).1.trans safe⟩
  · rintro ⟨r, rfl, safe⟩
    obtain ⟨r', robot, same⟩ := Option.map_eq_some_iff.1 own
    exact ⟨r', robot, (Robot.own_eq same).1.trans safe⟩

section
variable {s : State} {path : Path} {c : HallConfig} {u : Fin 24} {f : StatusFrame} {r : Robot} {z : Fin 8}

/-- The frame taken and handed on: the state that the zone's test finds. -/
theorem State.reportTaken_zones (s : State) (c : HallConfig) (u : Fin 24) (r : Robot) (f : StatusFrame) :
    (s.reportTaken c u r f).handOn.zones = s.zones := by
  rw [State.handOn_zones]
  rfl

/-- When robot `u` has reached SAFE, all of its zone's robots have if the others had (R116). -/
theorem State.allSafe_reportTaken (robot : s.robots.get u = some r) (filler : c.kindOf u = .filler)
    (zone : c.zoneOf u = some z) (safe : (r.takeFrame f (c.units.get u).safeCount s.time.localTime).accepted = .safe) :
    ((s.reportTaken c u r f).handOn.onZone z fun k => k.reach u).allSafe c z = true ↔
      ∀ v, v ≠ u → c.kindOf v = .filler → c.zoneOf v = some z →
        v ∈ (s.zones.get z).safeReached ∧ ∃ x, s.robots.get v = some x ∧ x.accepted = .safe := by
  have record : ((s.reportTaken c u r f).handOn.onZone z fun k => k.reach u).zones.get z = (s.zones.get z).reach u := by
    rw [State.onZone_zones, Table.get_modify_self, State.reportTaken_zones]
  have reached : ∀ v, v ∈ ((s.zones.get z).reach u).safeReached ↔ v ∈ (s.zones.get z).safeReached ∨ v = u := fun v => by
    simp [Zone.reach, addReached]
  have safes : ∀ v, ((s.reportTaken c u r f).handOn.onZone z fun k => k.reach u).isSafe v = true ↔
      ∃ x, (s.reportTaken c u r f).robots.get v = some x ∧ x.accepted = .safe := fun v =>
    State.isSafe_of_own ((s.reportTaken c u r f).handOn_own v)
  have self : (s.reportTaken c u r f).robots.get u = some (r.takeFrame f (c.units.get u).safeCount s.time.localTime) :=
    State.onRobot_get robot _
  have other : ∀ v, v ≠ u → (s.reportTaken c u r f).robots.get v = s.robots.get v := fun v differs =>
    Table.get_modify_ne _ _ differs
  simp only [State.allSafe, List.all_eq_true, HallConfig.mem_memberRobots, Bool.and_eq_true, decide_eq_true_eq, record,
    safes, reached]
  constructor
  · intro all v differs member inZone
    obtain ⟨joined, x, found, safeX⟩ := all v ⟨member, inZone⟩
    exact ⟨joined.resolve_right differs, x, (other v differs).symm.trans found, safeX⟩
  · rintro others v ⟨member, inZone⟩
    by_cases same : v = u
    · subst same
      exact ⟨.inr rfl, _, self, safe⟩
    · obtain ⟨joined, x, found, safeX⟩ := others v same member inZone
      exact ⟨.inl joined, x, (other v same).trans found, safeX⟩

/-- The completions that the zone's test gives are the zone completions of the step (R111). -/
theorem State.reportTaken_completes (s : State) (path : Path) (c : HallConfig) (u : Fin 24) (r : Robot) (f : StatusFrame)
    (z : Fin 8) (k : Zone) (l : List (Completion × Origin)) :
    let t := ((State.reportTaken { s with path := path } c u r f).handOn.zoneBecomes z k l).settle
    s.Notices t (fun n => decide (n.kind = .zoneCompletion)) (l.map (s.zoneNotice t z)) ∧ t.zones.get z = k := by
  refine ⟨State.settle_notices (by simp [State.zoneBecomes, State.reportTaken]) (by simp [State.zoneBecomes, State.reportTaken])
    fun none => ?_, Table.get_set_self _ _ _⟩
  have fault : (State.reportTaken { s with path := path } c u r f).given.filter
      (fun n => decide (n.kind = .zoneCompletion)) = [] := List.filter_eq_nil_iff.2 fun n mem => by
    rw [State.reportTaken, none, List.nil_append] at mem
    simp [State.mem_faultNotices mem]
  have zone : ∀ t : State, (l.map (State.zoneNotice (State.reportTaken { s with path := path } c u r f).handOn t z)).filter
      (fun n => decide (n.kind = .zoneCompletion)) = l.map (s.zoneNotice t z) := fun t => by
    rw [List.filter_eq_self.2 fun n mem => by obtain ⟨e, -, rfl⟩ := List.mem_map.1 mem; rfl]
    exact List.map_congr_left fun e _ => State.zoneNotice_congr (by rw [State.handOn_time]; rfl) rfl e
  have handed : ∀ n : Notice, n.handed = true → decide (n.kind = .zoneCompletion) = false := fun n handed =>
    decide_eq_false fun kind => Bool.false_ne_true ((Notice.handed_of_zoneCompletion kind).symm.trans handed)
  rw [State.zoneBecomes_given, List.filter_append, State.handOn_filter _ _ handed, fault, zone, List.nil_append]
  exact List.map_congr_left fun e _ => State.zoneNotice_congr rfl rfl e

end

/-- Settles O26: `Robot.takeFrame_reaches` and `Robot.takeFrame_leaves` say what the frame makes of the accepted state, and the
lemmas of `State.zoneSees` what the zone makes of that. -/
theorem robotStatusTestsZone : Obligations.RobotStatusTestsZone := by
  intro tag s s1 c u f r z take config robot passes zone filler k reaches leaves reached othersReached
  obtain ⟨path, rfl⟩ := State.take_path take
  have answer : exec (.robotStatusFrame tag) s = .next (State.robotStatusTaken { s with path := path } u f).settle :=
    State.taking_some s _ take
  rw [State.robotStatusTaken_passes (s := { s with path := path }) config robot passes] at answer
  generalize seen : (State.reportTaken { s with path := path } c u r f).handOn = a at answer
  generalize after : (r.takeFrame f (c.units.get u).safeCount s.time.localTime).accepted = new at answer
  have zones : a.zones = s.zones := by rw [← seen, State.reportTaken_zones]
  have record : a.zones.get z = k := by rw [zones]
  have ends : ∀ k' l, a.zoneSees c u r.accepted new = a.zoneBecomes z k' l →
      let t := (a.zoneSees c u r.accepted new).settle
      s.Notices t (fun n => decide (n.kind = .zoneCompletion)) (l.map (s.zoneNotice t z)) ∧ t.zones.get z = k' :=
    fun k' l becomes => by
      rw [becomes, ← seen]
      exact s.reportTaken_completes path c u r f z k' l
  have reaches_iff : reaches ↔ r.accepted ≠ .safe ∧ new = .safe := after ▸ Robot.takeFrame_reaches.symm
  have leaves_iff : leaves ↔ r.accepted = .safe ∧ new ≠ .safe := after ▸ Robot.takeFrame_leaves.symm
  have granted : new = .safe → ((a.onZone z fun k => k.reach u).allSafe c z = true ↔ othersReached) := fun safe =>
    seen ▸ State.allSafe_reportTaken (s := { s with path := path }) robot filler zone (after.trans safe)
  have joined : k.reach u = { k with safeReached := reached } := by
    simp [Zone.reach, addReached, reached]
  have stands : (k.state = .requested → ¬ reaches) → (k.state = .requested → ¬ (leaves ∧ u ∈ k.safeReached)) →
      (k.state = .breakpoint → ¬ leaves) → a.zoneSees c u r.accepted new = a.zoneBecomes z k [] := by
    rw [reaches_iff, leaves_iff, ← record]
    exact fun reach leave breaks => State.zoneSees_stands zone reach leave breaks
  refine ⟨_, answer, fun q requested flight reach all => ?_, fun requested reach waits => ?_,
    fun q requested flight leave member => ?_, fun broken leave => ?_, fun requested stays remains => ?_, fun broken remains => ?_,
    fun unasked unbroken => ?_⟩
  · obtain ⟨unsafeBefore, safe⟩ := reaches_iff.1 reach
    have becomes := State.zoneSees_grants (s := a) zone (by rwa [record]) (by rwa [record]) unsafeBefore ((granted safe).2 all)
    rw [← safe, record, joined] at becomes
    obtain ⟨completes, zones'⟩ := ends _ _ becomes
    cases stop : (c.zones.get z).breakpoint with
    | true =>
      simp only [grantOf, stop, if_true, Zone.grantedLater, Zone.enter_breakpoint] at completes zones'
      exact ⟨completes, zones'⟩
    | false =>
      simp only [grantOf, stop, Bool.false_eq_true, if_false, Zone.grantedLater, Zone.enter_opened] at completes zones'
      exact ⟨completes, zones'⟩
  · obtain ⟨unsafeBefore, safe⟩ := reaches_iff.1 reach
    have becomes := State.zoneSees_waits (s := a) zone (by rwa [record]) unsafeBefore fun all => waits ((granted safe).1 all)
    rw [← safe, record, joined] at becomes
    exact ends _ _ becomes
  · obtain ⟨safe, unsafeAfter⟩ := leaves_iff.1 leave
    have becomes := State.zoneSees_leaves_requested (s := a) zone (by rwa [record]) (by rwa [record]) (by rwa [record]) unsafeAfter
    rw [← safe, record] at becomes
    exact ends _ _ becomes
  · obtain ⟨safe, unsafeAfter⟩ := leaves_iff.1 leave
    have becomes := State.zoneSees_leaves_broken (s := a) zone (by rwa [record]) unsafeAfter
    rw [← safe, record] at becomes
    exact ends _ _ becomes
  · exact ends _ _ (stands (fun _ => stays) (fun _ => remains) fun broken => nomatch requested.symm.trans broken)
  · exact ends _ _ (stands (fun requested => nomatch broken.symm.trans requested)
      (fun requested => nomatch broken.symm.trans requested) fun _ => remains)
  · exact ends _ _ (stands (fun requested => absurd requested unasked) (fun requested => absurd requested unasked)
      fun broken => absurd broken unbroken)

end Sys2Proof.Machine
end

section
/-! SUPPORT. The operations that leave the zones' records alone (6.1). -/

namespace Sys2Proof.Machine

variable (s : State)

/-- A fold of operations that leave the zones leaves them. -/
theorem State.foldl_zones {α : Type} (f : State → α → State) (h : ∀ s a, (f s a).zones = s.zones) (l : List α) :
    (l.foldl f s).zones = s.zones := by
  induction l generalizing s with
  | nil => rfl
  | cons a l ih => rw [List.foldl_cons, ih, h]

/-- Taking a record moves the path alone. -/
theorem State.take_zones {α : Type} {s s1 : State} {tag : Fin 32} {sel : Handover → Option α} {a : α}
    (h : s.take tag sel = some (a, s1)) : s1.zones = s.zones := by
  obtain ⟨path, rfl⟩ := State.take_path h
  rfl

/-! ### Time and pitch -/

@[simp] theorem State.giveFrameNotices_zones (u : Fin 24) (before : TimeUnit) (o : Int) (stamp : Nat) :
    (s.giveFrameNotices u before o stamp).zones = s.zones := by
  simp only [State.giveFrameNotices]
  repeat' split
  all_goals simp

@[simp] theorem State.timeFrameTaken_zones (u : Fin 24) (f : TimeFrame) : (s.timeFrameTaken u f).zones = s.zones := by
  unfold State.timeFrameTaken
  repeat' split
  · rfl
  · exact State.giveFrameNotices_zones _ _ _ _ _
  · simp

/-- A changeover, the tracking and the decisions of a mark move no zone (R21, R57, R68). -/
@[simp] theorem State.acceptMark_zones : s.acceptMark.zones = s.zones := by
  simp only [State.acceptMark]
  split <;> simp

@[simp] theorem State.applyChangeover_zones (k : Bottle) : (s.applyChangeover k).zones = s.zones := by
  unfold State.applyChangeover
  split <;> simp

@[simp] theorem State.trackMark_zones (c : HallConfig) (k : Bottle) (t : Nat) : (s.trackMark c k t).zones = s.zones := by
  have first : ∀ (s : State) z, (s.markFirst c z).zones = s.zones := fun s z => by
    unfold State.markFirst
    split <;> rfl
  have leave : ∀ s : State, (s.leave c).zones = s.zones := fun s => by
    unfold State.leave
    repeat' split
    all_goals rfl
  simp only [State.trackMark, leave, State.markFirsts, State.foldl_zones _ _ first]
  rfl

@[simp] theorem State.formAt_zones (c : HallConfig) (g : Fin 2) : (s.formAt c g).zones = s.zones := by
  unfold State.formAt
  repeat' split
  all_goals simp

@[simp] theorem State.checkGate_zones (c : HallConfig) (g : Fin 2) : (s.checkGate c g).zones = s.zones := by
  simp only [State.checkGate]
  repeat' split
  all_goals simp

@[simp] theorem State.latchSuspect_zones (u : Fin 24) (ones : Nat) (b : Option Bottle) :
    (s.latchSuspect u ones b).zones = s.zones := rfl

@[simp] theorem State.attribute_zones (c : HallConfig) : (s.attribute c).zones = s.zones := by
  simp only [State.attribute, State.feedRing]
  repeat' split
  all_goals simp

@[simp] theorem State.pitchMark_zones (c : HallConfig) : (s.pitchMark c).zones = s.zones := by
  simp [State.pitchMark, State.decideMark]

/-! ### Verdicts -/

@[simp] theorem State.onCounts_zones (n : Fin 6) (f : CameraCounts → CameraCounts) : (s.onCounts n f).zones = s.zones := rfl

@[simp] theorem State.giveGap_zones (k : CameraCfg) (gap : Nat) : (s.giveGap k gap).zones = s.zones := by
  unfold State.giveGap
  split <;> simp

@[simp] theorem State.countUnplaced_zones (n : Fin 6) (k : CameraCfg) (why : Unplaced) (b : Option Bottle)
    (d : BitVec 32) : (s.countUnplaced n k why b d).zones = s.zones := by
  simp only [State.countUnplaced]
  split <;> simp

@[simp] theorem State.verdictTaken_zones (n : Fin 6) (v : VerdictRec) : (s.verdictTaken n v).zones = s.zones := by
  simp only [State.verdictTaken, State.placed, State.recordPlaced]
  repeat' split
  all_goals simp

/-! ### Robots and gates -/

@[simp] theorem State.loseRobot_zones (u : Fin 24) (r : Robot) : (s.loseRobot u r).zones = s.zones := by
  simp only [State.loseRobot]
  split <;> simp

@[simp] theorem State.sequenceTaken_zones (u : Fin 24) (q : Seq) : (s.sequenceTaken u q).zones = s.zones := by
  unfold State.sequenceTaken
  repeat' split
  all_goals simp

@[simp] theorem State.staleTest_zones (c : HallConfig) (u : Fin 24) : (s.staleTest c u).zones = s.zones := by
  unfold State.staleTest
  repeat' split
  all_goals simp

@[simp] theorem State.forwardFrame_zones (c : HallConfig) (u : Fin 24) (x : Txn) (data : List Word) :
    (s.forwardFrame c u x data).zones = s.zones := by
  unfold State.forwardFrame
  split <;> simp

@[simp] theorem State.takeReport_zones (g : Fin 2) (f : StatusFrame) : (s.takeReport g f).zones = s.zones := by
  unfold State.takeReport State.examine
  repeat' split
  all_goals simp

@[simp] theorem State.gateStatusTaken_zones (g : Fin 2) (f : StatusFrame) : (s.gateStatusTaken g f).zones = s.zones := by
  unfold State.gateStatusTaken
  repeat' split
  all_goals simp

@[simp] theorem State.deliver_zones (c : HallConfig) (g : Fin 2) : (s.deliver c g).zones = s.zones := rfl

@[simp] theorem State.readGateFrame_zones (c : HallConfig) (g : Fin 2) (x : Txn) (data : List Word) :
    (s.readGateFrame c g x data).zones = s.zones := by
  simp [State.readGateFrame]

/-! ### Ports -/

@[simp] theorem State.linkDown_zones (c : HallConfig) (p : Fin 16) (reason : PortReason) :
    (s.linkDown c p reason).zones = s.zones := by
  simp only [State.linkDown]
  split <;> simp

@[simp] theorem State.applyEntry_zones (c : HallConfig) (p : Fin 16) (e : TableEntry) :
    (s.applyEntry c p e).zones = s.zones := by
  simp only [State.applyEntry, State.applyLink, State.linkUp]
  repeat' split
  all_goals simp

@[simp] theorem State.tableTaken_zones (b : List Byte) : (s.tableTaken b).zones = s.zones := by
  have restart : s.restartTable.zones = s.zones := by
    simp only [State.restartTable]
    split <;> simp
  unfold State.tableTaken
  split
  · rfl
  · simp [State.foldl_zones, restart]

@[simp] theorem State.tableStale_zones (c : HallConfig) : (s.tableStale c).zones = s.zones := by
  have port : ∀ (s : State) p, (s.stalePort c p).zones = s.zones := fun s p => by
    simp only [State.stalePort]
    split <;> simp
  simp [State.tableStale, State.foldl_zones, port]

@[simp] theorem State.enterListen_zones (c : HallConfig) (p : Fin 16) (reason : PortReason) :
    (s.enterListen c p reason).zones = s.zones := by
  simp only [State.enterListen]
  split <;> simp

@[simp] theorem State.wouldQuarantine_zones (p : Fin 16) (reason : PortReason) :
    (s.wouldQuarantine p reason).zones = s.zones := by
  unfold State.wouldQuarantine
  split <;> simp

@[simp] theorem State.violation_zones (c : HallConfig) (p : Fin 16) : (s.violation c p).zones = s.zones := by
  simp only [State.violation]
  repeat' split
  all_goals simp

@[simp] theorem State.chargeBudget_zones (c : HallConfig) (p : Fin 16) (w : Nat) :
    (s.chargeBudget c p w).zones = s.zones := by
  unfold State.chargeBudget
  repeat' split
  all_goals simp

/-! ### Transactions -/

@[simp] theorem State.refuse_zones (x : Txn) : (s.refuse x).zones = s.zones := by
  simp [State.refuse]

@[simp] theorem State.forward_zones (x : Txn) (how : Treatment) : (s.forward x how).zones = s.zones := rfl

@[simp] theorem State.treat_zones (x : Txn) (how : Treatment) : (s.treat x how).zones = s.zones := by
  cases how <;> simp [State.treat, State.holdView]

@[simp] theorem State.portPresents_zones (c : HallConfig) (p : Fin 16) (x : Txn) :
    (s.portPresents c p x).zones = s.zones := by
  simp only [State.portPresents, State.portWrite, State.writeAttempt, State.countFragment]
  repeat' split
  all_goals simp

@[simp] theorem State.presents_zones (c : HallConfig) (x : Txn) : (s.presents c x).zones = s.zones := by
  unfold State.presents State.agentPresents
  repeat' split
  all_goals simp

@[simp] theorem State.presentsUnconfigured_zones (x : Txn) : (s.presentsUnconfigured x).zones = s.zones := by
  unfold State.presentsUnconfigured
  split <;> simp

@[simp] theorem State.respondOkay_zones (f : Flight) (data : List Word) : (s.respondOkay f data).zones = s.zones := by
  unfold State.respondOkay
  repeat' split
  all_goals simp

/-! ### The general slot, own transactions, load requests -/

@[simp] theorem State.completeGeneral_zones (w : Word) (code : Completion) : (s.completeGeneral w code).zones = s.zones := rfl

/-- A word received by the general slot moves what its command moves (R164). -/
theorem State.generalReceives_zones (w : Word) (act : HallConfig → State → State) (h : ∀ c s, (act c s).zones = s.zones) :
    (s.generalReceives w act).zones = s.zones := by
  simp only [State.generalReceives]
  repeat' split
  · rfl
  · rfl
  · rfl
  · exact h _ _

@[simp] theorem State.releaseTaken_zones (c : HallConfig) (w : Word) : (s.releaseTaken c w).zones = s.zones := by
  unfold State.releaseTaken
  repeat' split
  all_goals rfl

@[simp] theorem State.clearSuspectTaken_zones (c : HallConfig) (w : Word) : (s.clearSuspectTaken c w).zones = s.zones := by
  unfold State.clearSuspectTaken
  split <;> simp

@[simp] theorem State.accountClearTaken_zones (w : Word) : (s.accountClearTaken w).zones = s.zones := by
  unfold State.accountClearTaken
  split <;> simp

@[simp] theorem State.portClearTaken_zones (c : HallConfig) (w : Word) : (s.portClearTaken c w).zones = s.zones := by
  simp only [State.portClearTaken, State.clearPort]
  repeat' split
  all_goals simp

@[simp] theorem State.lineResumeTaken_zones (c : HallConfig) (w : Word) : (s.lineResumeTaken c w).zones = s.zones := by
  have resumed : ∀ (s : State) g, (s.resumeGate c g).zones = s.zones := fun s g => by
    unfold State.resumeGate
    split <;> simp
  simp [State.lineResumeTaken, resumed]

@[simp] theorem State.snapshotTaken_zones (c : HallConfig) (w : Word) : (s.snapshotTaken c w).zones = s.zones := by
  simp only [State.snapshotTaken, State.startSnapshot]
  repeat' split
  all_goals simp

@[simp] theorem State.ownAnswered_zones : s.ownAnswered.zones = s.zones := rfl

@[simp] theorem State.snapshotAnswered_zones (k : Snapshot) (ok : Bool) : (s.snapshotAnswered k ok).zones = s.zones := by
  simp only [State.snapshotAnswered, State.snapshotSecond, State.snapshotDone]
  repeat' split
  all_goals rfl

@[simp] theorem State.noticeAnswered_zones (o : OwnTxn) (ok : Bool) : (s.noticeAnswered o ok).zones = s.zones := by
  unfold State.noticeAnswered
  split <;> rfl

@[simp] theorem State.requestLoad_zones (n : Nat) : (s.requestLoad n).zones = s.zones := by
  simp only [State.requestLoad]
  split <;> rfl

@[simp] theorem State.retestDues_zones (old : Option HallConfig) : (s.retestDues old).zones = s.zones := by
  refine State.foldl_zones _ _ (fun s u => ?_) _
  simp only [State.retestDue]
  repeat' split
  all_goals simp

end Sys2Proof.Machine
end

section
/-! What the zones' events make of a sound record (O7): the lock, the timers and the ENTER in flight follow the state (R107, R110,
R118, R120). -/

namespace Sys2Proof.Machine

/-! ## The record -/

namespace Zone

variable {k : Zone}

/-- Outside REQUESTED no ENTER is in flight. -/
theorem Sound.idle (h : k.Sound) (out : k.state ≠ .requested) : k.inFlight = none :=
  Option.not_isSome_iff_eq_none.1 fun flies => out (h.inFlight.1 flies)

/-- In REQUESTED one is. -/
theorem Sound.flying (h : k.Sound) (requested : k.state = .requested) : ∃ q, k.inFlight = some q :=
  Option.isSome_iff_exists.1 (h.inFlight.2 requested)

/-- A fresh record is sound (R105). -/
theorem fresh_sound : Zone.fresh.Sound where
  lock := by decide
  access := by decide
  clearing := by decide
  inFlight := by decide
  pending := nofun

/-- A record that enters another state than REQUESTED is sound when no ENTER is in flight and, in BREAK, the access timer runs on. -/
theorem enter_sound {new : ZoneState} (idle : k.inFlight = none) (calm : new ≠ .requested)
    (timed : new = .breakpoint → k.access.isSome = true) (now : Nat) : (k.enter new now).Sound where
  lock := by simp [Zone.enter]
  access := by
    by_cases broken : new = .breakpoint
    · simp [Zone.enter, broken, timed broken]
    · simp [Zone.enter, broken, calm]
  clearing := by
    by_cases clears : new = .clearing <;> simp [Zone.enter, clears]
  inFlight := by simp [Zone.enter, idle, calm]
  pending flies := by simp [Zone.enter, idle] at flies

/-- A record that makes its request is sound when nothing is pending (R110, R115). -/
theorem request_sound (none : k.pending = none) (q : Byte) (reached : List (Fin 24)) (now : Nat) :
    ((k.enter .requested now).request q reached now).Sound where
  lock := by simp [Zone.enter, Zone.request]
  access := by simp [Zone.enter, Zone.request]
  clearing := by simp [Zone.enter, Zone.request]
  inFlight := by simp [Zone.enter, Zone.request]
  pending _ := none

/-- Only what is pending and answered changes, with no ENTER in flight. -/
theorem Sound.completes (h : k.Sound) (idle : k.inFlight = none) (p : Option PendingCompletion) (r : ZoneReply) :
    { k with pending := p, reply := r }.Sound :=
  ⟨h.lock, h.access, h.clearing, h.inFlight, fun flies => by simp [idle] at flies⟩

/-- A word received is none of what soundness reads (R109). -/
theorem Sound.receive (h : k.Sound) (q : Byte) : (k.receive q).Sound :=
  ⟨h.lock, h.access, h.clearing, h.inFlight, h.pending⟩

/-- Nor is an answer. -/
theorem Sound.answer (h : k.Sound) (r : ZoneReply) : { k with reply := r }.Sound :=
  ⟨h.lock, h.access, h.clearing, h.inFlight, h.pending⟩

/-- Nor the extended flag (R118). -/
theorem Sound.extend (h : k.Sound) (r : ZoneReply) : { k with extended := true, reply := r }.Sound :=
  ⟨h.lock, h.access, h.clearing, h.inFlight, h.pending⟩

/-- Nor the safe-reached set (R116). -/
theorem Sound.reach (h : k.Sound) (u : Fin 24) : (k.reach u).Sound :=
  ⟨h.lock, h.access, h.clearing, h.inFlight, h.pending⟩

/-- SENSE leaves nothing pending, or answers (R112). -/
theorem Sound.sense (h : k.Sound) : k.sense.Sound := by
  unfold Zone.sense
  split
  · exact ⟨h.lock, h.access, h.clearing, h.inFlight, fun _ => rfl⟩
  · exact h.answer _

/-- A forced record is sound: its ENTER in flight completes (R110, R121). -/
theorem forced_sound : k.forced.Sound where
  lock := by simp [Zone.forced]
  access := by simp [Zone.forced]
  clearing := by simp [Zone.forced]
  inFlight := by simp [Zone.forced]
  pending := nofun

/-- So is one that returns to FORCED from CLEARING (R122). -/
theorem Sound.reopened (h : k.Sound) (clearing : k.state = .clearing) : k.reopened.Sound := by
  have idle := h.idle (by rw [clearing]; nofun)
  exact {
    lock := by simp [Zone.reopened]
    access := by simp [Zone.reopened]
    clearing := by simp [Zone.reopened]
    inFlight := by simp [Zone.reopened, idle]
    pending := fun flies => by simp [Zone.reopened, idle] at flies }

end Zone

/-! ## The state -/

/-- A grant leads out of REQUESTED (R116). -/
theorem grantOf_ne_requested (k : ZoneCfg) : (grantOf k).1 ≠ .requested := by
  unfold grantOf
  split <;> nofun

namespace State

variable {s t : State} {c : HallConfig} {z : Fin 8}

/-- The zones after a change of state. -/
theorem moveZone_zones (s : State) (c : HallConfig) (z : Fin 8) (new : ZoneState) :
    (s.moveZone c z new).zones = s.zones.modify z fun k => k.enter new s.time.localTime := by
  rw [moveZone_eq]
  rfl

namespace ZonesSound

/-- The zones stand. -/
theorem of_zones (h : s.ZonesSound) (same : t.zones = s.zones) : t.ZonesSound := fun y => by
  rw [same]
  exact h y

/-- The record of one zone changes, and is sound. -/
theorem modify (h : s.ZonesSound) {f : Zone → Zone} (zones : t.zones = s.zones.modify z f)
    (sound : (f (s.zones.get z)).Sound) : t.ZonesSound := fun y => by
  rw [zones, Table.get_modify]
  split
  · next same => exact same ▸ sound
  · exact h y

/-- A zone's record changes alone. -/
theorem onZone (h : s.ZonesSound) {f : Zone → Zone} (sound : (f (s.zones.get z)).Sound) : (s.onZone z f).ZonesSound :=
  h.modify (s.onZone_zones z f) sound

/-- One zone comes to hold a sound record. -/
theorem zoneBecomes (h : s.ZonesSound) {k : Zone} (sound : k.Sound) (l : List (Completion × Origin)) :
    (s.zoneBecomes z k l).ZonesSound :=
  h.modify (z := z) (f := fun _ => k) (by simp [State.zoneBecomes, Table.modify]) sound

/-- A change is handed on. -/
theorem handOn (h : s.ZonesSound) : s.handOn.ZonesSound :=
  h.of_zones s.handOn_zones

/-- A command completes at once (R110). -/
theorem completeNow (h : s.ZonesSound) (z : Fin 8) (q : Byte) (code : Completion) : (s.completeNow z q code).ZonesSound :=
  h.modify (s.completeNow_zones z q code) ((h z).answer _)

/-- A zone enters a state and its command completes at once. -/
theorem moves_completeNow (h : s.ZonesSound) (new : ZoneState) (idle : (s.zones.get z).inFlight = none) (q : Byte)
    (code : Completion) (calm : new ≠ .requested ∧ new ≠ .breakpoint := by decide) :
    ((s.moveZone c z new).completeNow z q code).ZonesSound :=
  h.modify (by rw [completeNow_zones, moveZone_zones, Table.modify_modify])
    ((Zone.enter_sound idle calm.1 (fun broken => absurd broken calm.2) _).answer _)

/-- A zone enters a state of its own accord (R111). -/
theorem moves_completeAlone (h : s.ZonesSound) (new : ZoneState) (idle : (s.zones.get z).inFlight = none)
    (code : Completion) (calm : new ≠ .requested ∧ new ≠ .breakpoint := by decide) :
    ((s.moveZone c z new).completeAlone z code).ZonesSound :=
  h.modify (by rw [completeAlone_zones, moveZone_zones, Table.modify_modify])
    ((Zone.enter_sound idle calm.1 (fun broken => absurd broken calm.2) _).completes idle _ _)

/-- A zone leaves REQUESTED with its ENTER completed (R110): in BREAK the access timer of the request runs on. -/
theorem moves_completeEnter (h : s.ZonesSound) (new : ZoneState) (requested : (s.zones.get z).state = .requested)
    (code : Completion) (calm : new ≠ .requested := by decide) : ((s.moveZone c z new).completeEnter z code).ZonesSound := by
  obtain ⟨q, flight⟩ := (h z).flying requested
  have found : ((s.moveZone c z new).zones.get z).inFlight = some q := by
    rw [moveZone_zones, Table.get_modify_self]
    exact flight
  refine h.modify (by rw [completeEnter_zones _ z q code found, moveZone_zones, Table.modify_modify]) ?_
  exact Zone.enter_sound (k := { s.zones.get z with inFlight := none, pending := _ }) rfl calm
    (fun _ => (h z).access.2 (.inl requested)) _

/-- A zone in REQUESTED is granted within the ENTER's own event (R116). -/
theorem grantAtOnce (h : s.ZonesSound) (requested : (s.zones.get z).state = .requested) (q : Byte) :
    (s.grantAtOnce c z q).ZonesSound := by
  unfold State.grantAtOnce
  split
  · refine h.modify (by
      rw [completeNow_zones, onZone_zones, moveZone_zones, Table.modify_modify, Table.modify_modify]) ?_
    exact Zone.enter_sound (k := { s.zones.get z with inFlight := none, reply := _ }) rfl (grantOf_ne_requested _)
      (fun _ => (h z).access.2 (.inl requested)) _
  · exact h

/-! ## The zone's test (R116, R117) -/

/-- A later grant. -/
theorem grantLater (h : s.ZonesSound) (requested : (s.zones.get z).state = .requested) : (s.grantLater c z).ZonesSound := by
  unfold State.grantLater
  split
  · exact h.moves_completeEnter _ requested _ (grantOf_ne_requested _)
  · exact h

/-- A change of a member robot. -/
theorem zoneSees (h : s.ZonesSound) (c : HallConfig) (u : Fin 24) (old new : MachineState) :
    (s.zoneSees c u old new).ZonesSound := by
  unfold State.zoneSees
  split
  · next z _ =>
    split
    · exact h
    · simp only [State.zoneTest]
      split
      · next requested =>
        split
        · have reached : (s.onZone z fun k => k.reach u).ZonesSound := h.onZone ((h z).reach u)
          refine reached.grantLater ?_
          rw [onZone_zones, Table.get_modify_self]
          exact requested
        · split
          · exact h.moves_completeEnter .held requested _
          · exact h
      · split
        · next broken =>
          exact h.moves_completeAlone .held ((h z).idle (by rw [broken.1]; nofun)) _
        · exact h
  · exact h

/-! ## Guards and timers -/

/-- The guard's opening (R106, R121, R122). -/
theorem guardOpened (h : s.ZonesSound) (c : HallConfig) (z : Fin 8) : (s.guardOpened c z).ZonesSound := by
  by_cases stands : (s.zones.get z).state = .opened ∨ (s.zones.get z).state = .forced
  · rwa [guardOpened_stands stands]
  · obtain ⟨shut, unforced⟩ := not_or.1 stands
    by_cases again : (s.zones.get z).state = .clearing ∧ (s.zones.get z).afterForced = true
    · obtain ⟨clearing, after⟩ := again
      rw [guardOpened_reopens clearing after, reopenZone_becomes]
      exact ((h.zoneBecomes ((h z).reopened clearing) _).of_zones (confirmMembers_zones _ c z)).handOn
    · have first : (s.zones.get z).state = .clearing → (s.zones.get z).afterForced = false := fun clearing =>
        Bool.eq_false_iff.2 fun after => again ⟨clearing, after⟩
      rw [guardOpened_forces shut unforced first, forceZone_becomes]
      have marked : State.ZonesSound { s with queue := s.leftQueue c z .forced } := h
      exact ((marked.zoneBecomes Zone.forced_sound _).of_zones (confirmMembers_zones _ c z)).handOn

/-- The guard's closing (R120, R122). -/
theorem guardClosed (h : s.ZonesSound) (c : HallConfig) (z : Fin 8) : (s.guardClosed c z).ZonesSound := by
  unfold State.guardClosed
  split
  · next state =>
    have out : (s.zones.get z).state ≠ .requested := by rcases state with opened | forced <;> simp [*]
    exact (h.moves_completeAlone .clearing ((h z).idle out) _).handOn
  · exact h

/-- The expiry of the access timer (R118). -/
theorem accessExpired (h : s.ZonesSound) (c : HallConfig) (z : Fin 8) : (s.accessExpired c z).ZonesSound := by
  unfold State.accessExpired
  split
  · next requested => exact (h.moves_completeEnter .held requested _).handOn
  · next broken => exact (h.moves_completeAlone .held ((h z).idle (by rw [broken]; nofun)) _).handOn
  all_goals exact h

/-! ## The zone commands (R113) -/

/-- ENTER, taken with nothing pending (R115). -/
theorem enterZone (h : s.ZonesSound) (none : (s.zones.get z).pending = none) (c : HallConfig) (q : Byte) :
    (s.enterZone c z q).ZonesSound := by
  unfold State.enterZone
  split
  · next calm =>
    split
    · have out : (s.zones.get z).state ≠ .requested := by rcases calm with run | held <;> simp [*]
      exact (h.moves_completeNow .held ((h z).idle out) q _).handOn
    · have asked : ((s.moveZone c z .requested).onZone z fun k =>
          k.request q ((c.memberRobots z).filter s.isSafe) s.time.localTime).ZonesSound :=
        h.modify (by rw [onZone_zones, moveZone_zones, Table.modify_modify]) (Zone.request_sound none q _ _)
      refine (asked.grantAtOnce ?_ q).handOn
      rw [onZone_zones, moveZone_zones, Table.get_modify_self, Table.get_modify_self]
      rfl
  · exact h.completeNow z q _

/-- CONFIRM (R117). -/
theorem confirmZone (h : s.ZonesSound) (c : HallConfig) (z : Fin 8) (q : Byte) : (s.confirmZone c z q).ZonesSound := by
  unfold State.confirmZone
  split
  · next broken => exact (h.moves_completeNow .opened ((h z).idle (by rw [broken]; nofun)) q _).handOn
  · exact h.completeNow z q _

/-- EXTEND (R118). -/
theorem extendZone (h : s.ZonesSound) (z : Fin 8) (q : Byte) : (s.extendZone z q).ZonesSound := by
  simp only [State.extendZone]
  split
  · exact h.modify (by rw [completeNow_zones, onZone_zones, Table.modify_modify]) ((h z).extend _)
  · exact h.completeNow z q _

/-- CANCEL (R119). -/
theorem cancelZone (h : s.ZonesSound) (c : HallConfig) (z : Fin 8) (q : Byte) : (s.cancelZone c z q).ZonesSound := by
  unfold State.cancelZone
  split
  · next requested => exact ((h.moves_completeEnter .run requested _).completeNow z q _).handOn
  · next broken => exact (h.moves_completeNow .run ((h z).idle (by rw [broken]; nofun)) q _).handOn
  · next visited =>
    split
    · exact h.completeNow z q _
    · exact (h.moves_completeNow .clearing ((h z).idle (by rw [visited]; nofun)) q _).handOn
  all_goals exact h.completeNow z q _

/-- A return to RUN outside REQUESTED (R114). -/
theorem returnToRun (h : s.ZonesSound) (out : (s.zones.get z).state ≠ .requested) (c : HallConfig) (q : Byte) :
    (s.returnToRun c z q).ZonesSound := by
  unfold State.returnToRun
  split
  · exact h.completeNow z q _
  · exact (h.moves_completeNow .run ((h z).idle out) q _).handOn

/-- RESET (R114). -/
theorem resetZone (h : s.ZonesSound) (c : HallConfig) (z : Fin 8) (q : Byte) : (s.resetZone c z q).ZonesSound := by
  simp only [State.resetZone]
  split
  · next ready => exact h.returnToRun (by rcases ready with begun | clearing | held <;> simp [*]) c q
  · exact h.completeNow z q _

/-- RESUME (R114). -/
theorem resumeZone (h : s.ZonesSound) (c : HallConfig) (z : Fin 8) (q : Byte) : (s.resumeZone c z q).ZonesSound := by
  unfold State.resumeZone
  split
  · next held => exact h.returnToRun (by rw [held]; nofun) c q
  · exact h.completeNow z q _

/-! ## The zone slot (R109) -/

/-- A received word, handled by what keeps the zones sound. -/
theorem zoneReceives (h : s.ZonesSound) (z : Fin 8) (w : Word) {act : HallConfig → Byte → State → State}
    (keeps : ∀ c q x, x.ZonesSound → (act c q x).ZonesSound) : (s.zoneReceives z w act).ZonesSound := by
  unfold State.zoneReceives
  split
  · exact h
  · split
    · exact h
    · exact keeps _ _ _ (h.onZone ((h z).receive _))

/-- A command, which is taken with nothing pending. -/
theorem unlessPending (h : s.ZonesSound) (z : Fin 8) {act : State → State}
    (keeps : (s.zones.get z).pending = none → (act s).ZonesSound) : (s.unlessPending z act).ZonesSound := by
  unfold State.unlessPending
  split
  · exact h.onZone ((h z).answer _)
  · next idle => exact keeps (Option.not_isSome_iff_eq_none.1 idle)

/-! ## Robots -/

/-- A robot's status frame (R82, R116). -/
theorem robotStatusTaken (h : s.ZonesSound) (u : Fin 24) (f : StatusFrame) : (s.robotStatusTaken u f).ZonesSound := by
  cases config : s.config with
  | none => simpa [State.robotStatusTaken, config] using h
  | some c =>
    cases robot : s.robots.get u with
    | none => simpa [State.robotStatusTaken, config, robot] using h
    | some r =>
      cases passes : seqPasses r.lastSeq f.seq with
      | false =>
        rw [robotStatusTaken_stale config robot passes]
        exact h.of_zones rfl
      | true =>
        rw [robotStatusTaken_passes config robot passes]
        exact (h.of_zones (reportTaken_zones s c u r f)).zoneSees c u _ _

/-- The loss of a robot (R84, R116). -/
theorem robotLost (h : s.ZonesSound) (c : HallConfig) (u : Fin 24) : (s.robotLost c u).ZonesSound := by
  unfold State.robotLost
  split
  · exact (h.of_zones (by simp)).zoneSees c u _ _
  · exact h

/-! ## Loads -/

/-- Every record is fresh. -/
theorem of_fresh (zones : s.zones = Table.replicate 8 Zone.fresh) : s.ZonesSound := fun y => by
  rw [zones, Table.get_replicate]
  exact Zone.fresh_sound

/-- The application of a FULL load makes every record fresh (R105, R160). -/
theorem applyFull (s : State) (c : HallConfig) (b : Bank) : (s.applyFull c b).ZonesSound :=
  of_fresh (by simp [State.applyFull, State.reloadRobots, State.reload])

end ZonesSound

/-- What the re-tests of a PARAMETER load leave, before a change is handed on and zones test lost robots (R161). -/
theorem retests_zones (s : State) (old new : HallConfig) :
    let s0 := ({ s with config := some new }.retestDues (some old)).retestStop old new
    let s1 := (s0.retestGate old new 0).retestGate old new 1
    let s2 := (s.lateRobots old new).foldl (fun s r => s.loseRobot r.1 r.2) s1
    let s3 := (List.finRange 24).foldl (fun s u => s.retestSuspect new u) s2
    ((List.finRange 16).foldl (fun s p => s.retestSilence new p) s3).zones = s.zones := by
  have stop : ∀ s : State, (s.retestStop old new).zones = s.zones := fun s => by
    unfold State.retestStop
    split <;> rfl
  have gate : ∀ (s : State) g, (s.retestGate old new g).zones = s.zones := fun s g => by
    unfold State.retestGate
    split <;> rfl
  have suspect : ∀ (s : State) u, (s.retestSuspect new u).zones = s.zones := fun s u => by
    unfold State.retestSuspect
    repeat' split
    all_goals rfl
  have silence : ∀ (s : State) p, (s.retestSilence new p).zones = s.zones := fun s p => by
    unfold State.retestSilence
    split <;> simp
  simp [foldl_zones, stop, gate, suspect, silence]

namespace ZonesSound

variable {s : State}

/-- The application of a PARAMETER load: the zones test the robots that it loses (R116, R161). -/
theorem applyParameter (h : s.ZonesSound) (old new : HallConfig) : (s.applyParameter old new).ZonesSound := by
  simp only [State.applyParameter]
  refine List.foldlRecOn (s.lateRobots old new) _ (motive := ZonesSound) ?_ fun t sound r _ => sound.zoneSees new r.1 _ _
  exact h.of_zones (by rw [handOn_zones, retests_zones])

/-- A load ends (R158, R159). -/
theorem finishLoad (h : s.ZonesSound) (k : LoadKind) (m : Image) : (s.finishLoad k m).ZonesSound := by
  unfold State.finishLoad
  split
  · exact h.of_zones rfl
  · have applied : (s.applyImage k m).ZonesSound := by
      unfold applyImage
      split
      · exact applyFull _ _ _
      · exact h.applyParameter _ _
      · exact h
      · exact h.of_zones rfl
    exact applied.of_zones rfl

/-- A line read joins the staged copy (R157). -/
theorem lineStaged (h : s.ZonesSound) (k : LoadKind) (data : List Word) : (s.lineStaged k data).ZonesSound := by
  simp only [State.lineStaged]
  split
  · exact h.of_zones rfl
  · exact h.finishLoad _ _

end ZonesSound

end State

end Sys2Proof.Machine
end

section
/-! Every command keeps the zones sound (O7). -/

namespace Sys2Proof.Machine

section
variable {s : State}

/-- A taken record, handled by what keeps the zones sound. -/
theorem State.taking_sound {α : Type} (h : s.ZonesSound) {tag : Fin 32} {sel : Handover → Option α} {act : α → State → State}
    (keeps : ∀ a x, x.ZonesSound → (act a x).ZonesSound) : Answers (s.taking tag sel act) State.ZonesSound :=
  State.taking_answers h fun a _ taken => (keeps a _ (h.of_zones (State.take_zones taken))).of_zones (State.settle_zones _)

/-- A taken record, handled by what leaves the zones. -/
theorem State.taking_leaves {α : Type} (h : s.ZonesSound) {tag : Fin 32} {sel : Handover → Option α} {act : α → State → State}
    (leaves : ∀ a x, (act a x).zones = x.zones) : Answers (s.taking tag sel act) State.ZonesSound :=
  State.taking_sound h fun a x sound => sound.of_zones (leaves a x)

/-- A zone command, taken with nothing pending by what keeps the zones sound (R109). -/
theorem State.zoneCommand_sound (h : s.ZonesSound) (z : Fin 8) (cmd : ZoneCommand) {act : HallConfig → Byte → State → State}
    (keeps : ∀ c q x, x.ZonesSound → (x.zones.get z).pending = none → (act c q x).ZonesSound) :
    Answers (s.zoneCommand z cmd act) State.ZonesSound :=
  State.taking_sound h fun w _ sound => sound.zoneReceives z w fun c q _ sound => sound.unlessPending z (keeps c q _ sound)

/-- A general command whose handling leaves the zones (R164). -/
theorem State.generalCommand_sound (h : s.ZonesSound) (cmd : GeneralCommand) {act : HallConfig → Word → State → State}
    (leaves : ∀ c w x, (act c w x).zones = x.zones) : Answers (s.generalCommand cmd act) State.ZonesSound :=
  State.taking_leaves h fun w x => State.generalReceives_zones x w _ fun c y => leaves c w y

/-- An answer that leaves the zones. -/
theorem State.ZonesSound.answers {t : State} (h : s.ZonesSound) (same : t.zones = s.zones) :
    Answers (.next t) State.ZonesSound :=
  (answers_next _ _).2 (h.of_zones same)

end

/-- Every command keeps the zones sound. -/
theorem exec_zonesSound (i : Instr) {s : State} (h : s.ZonesSound) : Answers (exec i s) State.ZonesSound := by
  have stays : Answers (.next s) State.ZonesSound := h.answers rfl
  have settled : ∀ {t : State}, t.ZonesSound → Answers (.next t.settle) State.ZonesSound := fun sound =>
    sound.answers (State.settle_zones _)
  cases i with
  | resetN straps => exact (answers_next _ _).2 (.of_fresh rfl)
  | pitchEdge =>
    simp only [exec, execPitchEdge]
    repeat' split
    · exact stays
    · exact h.answers rfl
    · exact h.answers (by simp)
  | stopTimerExpiry =>
    simp only [exec, execStopTimerExpiry]
    split
    · exact h.answers (by simp)
    · exact stays
  | slewMove =>
    simp only [exec, execSlewMove]
    split
    · exact h.answers (by simp)
    · exact stays
  | holdoverExpiry =>
    simp only [exec, execHoldoverExpiry]
    split
    · exact h.answers (by simp)
    · exact stays
  | accountSecond u =>
    simp only [exec, execAccountSecond]
    split
    · refine settled ?_
      split
      · exact h.of_zones rfl
      · exact h.of_zones rfl
    · exact stays
  | referencePeriod => exact h.answers rfl
  | timeFrame tag => exact State.taking_leaves h fun r x => x.timeFrameTaken_zones _ _
  | verdictRecord tag => exact State.taking_leaves h fun r x => x.verdictTaken_zones _ _
  | robotStatusFrame tag => exact State.taking_sound h fun r x sound => sound.robotStatusTaken _ _
  | robotStatusTimeout u =>
    simp only [exec, execRobotStatusTimeout]
    repeat' split
    · exact settled (h.robotLost _ u)
    · exact stays
    · exact stays
  | gateStatusFrame tag => exact State.taking_leaves h fun r x => x.gateStatusTaken_zones _ _
  | gateStatusTimeout g =>
    simp only [exec, execGateStatusTimeout]
    repeat' split
    · exact settled ((h.of_zones rfl : (s.gateLost g).ZonesSound).handOn)
    · exact stays
    · exact stays
  | sequenceWrite u => exact State.taking_leaves h fun q x => x.sequenceTaken_zones _ _
  | robotCommandRead tag data =>
    simp only [exec, execRobotCommandRead]
    repeat' split
    · exact h.answers (by simp)
    all_goals exact stays
  | gateCommandRead tag data =>
    simp only [exec, execGateCommandRead]
    repeat' split
    · exact h.answers (by simp)
    all_goals exact stays
  | guardRawChange z opened => exact h.answers rfl
  | guardOpen z =>
    have lifted : (s.setLevel z true).ZonesSound := h
    simp only [exec, execGuardOpen]
    repeat' split
    · exact h.answers rfl
    · exact settled (lifted.guardOpened _ z)
    · exact stays
  | guardClosed z =>
    have lowered : (s.setLevel z false).ZonesSound := h
    simp only [exec, execGuardClosed]
    repeat' split
    · exact h.answers rfl
    · exact settled (lowered.guardClosed _ z)
    · exact stays
  | accessTimerExpiry z =>
    simp only [exec, execAccessTimerExpiry]
    repeat' split
    · exact settled (h.accessExpired _ z)
    · exact stays
    · exact stays
  | clearingWindowExpiry z =>
    simp only [exec, execClearingWindowExpiry]
    repeat' split
    · next due =>
      have clearing : (s.zones.get z).state = .clearing := of_decide_eq_true (Bool.and_eq_true_iff.1 due).1
      exact settled (h.moves_completeAlone .held ((h z).idle (by rw [clearing]; nofun)) _).handOn
    · exact stays
    · exact stays
  | enter z => exact State.zoneCommand_sound h z _ fun c q x sound none => sound.enterZone none c q
  | confirm z => exact State.zoneCommand_sound h z _ fun c q x sound _ => sound.confirmZone c z q
  | extend z => exact State.zoneCommand_sound h z _ fun c q x sound _ => sound.extendZone z q
  | cancel z => exact State.zoneCommand_sound h z _ fun c q x sound _ => sound.cancelZone c z q
  | reset z => exact State.zoneCommand_sound h z _ fun c q x sound _ => sound.resetZone c z q
  | resume z => exact State.zoneCommand_sound h z _ fun c q x sound _ => sound.resumeZone c z q
  | sense z =>
    exact State.taking_sound h fun w x sound => sound.zoneReceives z w fun _ _ y sound => sound.onZone (sound z).sense
  | mailboxRead data =>
    simp only [exec, execMailboxRead]
    repeat' split
    · exact h.answers rfl
    all_goals exact stays
  | release => exact State.generalCommand_sound h _ fun c w x => x.releaseTaken_zones c w
  | clearSuspect => exact State.generalCommand_sound h _ fun c w x => x.clearSuspectTaken_zones c w
  | accountClear => exact State.generalCommand_sound h _ fun c w x => x.accountClearTaken_zones w
  | portClear => exact State.generalCommand_sound h _ fun c w x => x.portClearTaken_zones c w
  | snapshot => exact State.generalCommand_sound h _ fun c w x => x.snapshotTaken_zones c w
  | purge => exact State.generalCommand_sound h _ fun c w x => rfl
  | lineResume => exact State.generalCommand_sound h _ fun c w x => x.lineResumeTaken_zones c w
  | snapshotWriteAnswered ok =>
    simp only [exec, execSnapshotWriteAnswered]
    split
    · exact h.answers (by simp)
    · exact stays
  | noticeWriteAnswered ok =>
    simp only [exec, execNoticeWriteAnswered]
    split
    · exact h.answers (by simp)
    · exact stays
  | consumerWrite => exact State.taking_leaves h fun _ _ => rfl
  | switchTable => exact State.taking_leaves h fun b x => x.tableTaken_zones b
  | tableTimerExpiry =>
    simp only [exec, execTableTimerExpiry]
    repeat' split
    · exact h.answers (by simp)
    all_goals exact stays
  | intervalBoundary =>
    simp only [exec, execIntervalBoundary]
    split
    · exact h.answers rfl
    · exact stays
  | silenceExpiry p =>
    simp only [exec, execSilenceExpiry]
    repeat' split
    · exact h.answers (by simp)
    all_goals exact stays
  | upstreamTransaction x observeAll =>
    simp only [exec, execUpstreamTransaction]
    split
    · exact h.answers (by simp)
    · exact h.answers (by simp)
  | viewRead observeAll =>
    simp only [exec, execViewRead]
    repeat' split
    · exact h.answers rfl
    all_goals exact stays
  | forwardedResponse tag ok data =>
    simp only [exec, execForwardedResponse]
    repeat' split
    · exact stays
    · exact h.answers (by simp)
    · exact h.answers rfl
    · exact stays
  | arbiterGrant => exact h.answers rfl
  | fullLoad => exact State.taking_leaves h fun _ x => x.requestLoad_zones _
  | parameterLoad => exact State.taking_leaves h fun _ x => x.requestLoad_zones _
  | changeoverLoad => exact State.taking_leaves h fun _ x => x.requestLoad_zones _
  | otherLoadKind => exact State.taking_leaves h fun _ x => x.requestLoad_zones _
  | configReadAnswered ok data =>
    have answered : s.ownAnswered.ZonesSound := h
    simp only [exec, execConfigReadAnswered]
    repeat' split
    · exact settled (answered.lineStaged _ data)
    · exact h.answers rfl
    · exact stays
  | otherCommandCode slot =>
    simp only [exec, execOtherCommandCode]
    split
    · exact State.taking_sound h fun w x sound => sound.zoneReceives _ w fun _ q y sound =>
        sound.unlessPending _ fun _ => sound.completeNow _ q .invalid
    · exact State.taking_leaves h fun w x => State.generalReceives_zones x w _ fun _ _ => rfl

/-- Settles O7: each command leaves the zones or moves one to a sound record; an empty queue leaves the state. -/
theorem stepKeepsZonesSound : Obligations.StepKeepsZonesSound := by
  intro s t sound next
  unfold step at next
  split at next
  · cases next
    exact sound
  · next i rest _ => exact exec_zonesSound i (s := { s with pending := rest }) sound t next

end Sys2Proof.Machine
end

section
/-! SUPPORT. The operations that leave the ports' records alone (7.1). -/

namespace Sys2Proof.Machine

variable (s : State)

/-- A fold of operations that leave the ports leaves them. -/
theorem State.foldl_ports {α : Type} (f : State → α → State) (h : ∀ s a, (f s a).ports = s.ports) (l : List α) :
    (l.foldl f s).ports = s.ports := by
  induction l generalizing s with
  | nil => rfl
  | cons a l ih => rw [List.foldl_cons, ih, h]

/-- Taking a record moves the path alone. -/
theorem State.take_ports {α : Type} {s s1 : State} {tag : Fin 32} {sel : Handover → Option α} {a : α}
    (h : s.take tag sel = some (a, s1)) : s1.ports = s.ports := by
  obtain ⟨path, rfl⟩ := State.take_path h
  rfl

/-! ### Time and pitch -/

@[simp] theorem State.timeFrameTaken_ports (u : Fin 24) (f : TimeFrame) : (s.timeFrameTaken u f).ports = s.ports := by
  simp only [State.timeFrameTaken, State.giveFrameNotices]
  repeat' split
  all_goals simp

@[simp] theorem State.retestDues_ports (old : Option HallConfig) : (s.retestDues old).ports = s.ports := by
  refine State.foldl_ports _ _ (fun s u => ?_) _
  simp only [State.retestDue]
  repeat' split
  all_goals simp

@[simp] theorem State.trackMark_ports (c : HallConfig) (k : Bottle) (t : Nat) : (s.trackMark c k t).ports = s.ports := by
  have first : ∀ (s : State) z, (s.markFirst c z).ports = s.ports := fun s z => by
    unfold State.markFirst
    split <;> rfl
  have leave : ∀ s : State, (s.leave c).ports = s.ports := fun s => by
    unfold State.leave
    repeat' split
    all_goals rfl
  simp only [State.trackMark, leave, State.markFirsts, State.foldl_ports _ _ first]
  rfl

@[simp] theorem State.latchSuspect_ports (u : Fin 24) (ones : Nat) (b : Option Bottle) :
    (s.latchSuspect u ones b).ports = s.ports := rfl

/-- The decisions, checks and ring entries of a mark (R68, R74, R78). -/
@[simp] theorem State.decideMark_ports (c : HallConfig) : (s.decideMark c).ports = s.ports := by
  have form : ∀ (s : State) g, (s.formAt c g).ports = s.ports := fun s g => by
    unfold State.formAt
    repeat' split
    all_goals simp
  have check : ∀ (s : State) g, (s.checkGate c g).ports = s.ports := fun s g => by
    simp only [State.checkGate]
    repeat' split
    all_goals simp
  simp only [State.decideMark, State.attribute, State.feedRing]
  repeat' split
  all_goals simp [form, check]

@[simp] theorem State.pitchMark_ports (c : HallConfig) : (s.pitchMark c).ports = s.ports := by
  simp only [State.pitchMark, State.acceptMark, State.applyChangeover]
  repeat' split
  all_goals simp

/-! ### Verdicts -/

@[simp] theorem State.onCounts_ports (n : Fin 6) (f : CameraCounts → CameraCounts) : (s.onCounts n f).ports = s.ports := rfl

@[simp] theorem State.verdictTaken_ports (n : Fin 6) (v : VerdictRec) : (s.verdictTaken n v).ports = s.ports := by
  have gap : ∀ (s : State) k gap, (s.giveGap k gap).ports = s.ports := fun s k gap => by
    unfold State.giveGap
    split <;> simp
  have unplaced : ∀ (s : State) k why b d, (s.countUnplaced n k why b d).ports = s.ports := fun s k why b d => by
    simp only [State.countUnplaced]
    split <;> simp
  simp only [State.verdictTaken, State.placed, State.recordPlaced]
  repeat' split
  all_goals simp [gap, unplaced]

/-! ### Zones -/

/-- The zone's test of its robots (R116, R117). -/
@[simp] theorem State.zoneSees_ports (c : HallConfig) (u : Fin 24) (old new : MachineState) :
    (s.zoneSees c u old new).ports = s.ports := by
  simp only [State.zoneSees, State.zoneTest, State.grantLater]
  repeat' split
  all_goals simp

@[simp] theorem State.setLevel_ports (z : Fin 8) (b : Bool) : (s.setLevel z b).ports = s.ports := rfl

@[simp] theorem State.guardOpened_ports (c : HallConfig) (z : Fin 8) : (s.guardOpened c z).ports = s.ports := by
  simp only [State.guardOpened, State.forceZone, State.reopenZone]
  repeat' split
  all_goals simp

@[simp] theorem State.guardClosed_ports (c : HallConfig) (z : Fin 8) : (s.guardClosed c z).ports = s.ports := by
  unfold State.guardClosed
  split <;> simp

@[simp] theorem State.accessExpired_ports (c : HallConfig) (z : Fin 8) : (s.accessExpired c z).ports = s.ports := by
  unfold State.accessExpired
  split <;> simp

/-- A word received by a zone slot moves what its command moves (R109). -/
theorem State.zoneReceives_ports (z : Fin 8) (w : Word) {act : HallConfig → Byte → State → State}
    (leaves : ∀ c q x, (act c q x).ports = x.ports) : (s.zoneReceives z w act).ports = s.ports := by
  unfold State.zoneReceives
  repeat' split
  · rfl
  · rfl
  · exact leaves _ _ _

/-- So does a command taken with nothing pending. -/
theorem State.unlessPending_ports (z : Fin 8) {act : State → State} (leaves : ∀ x, (act x).ports = x.ports) :
    (s.unlessPending z act).ports = s.ports := by
  unfold State.unlessPending
  split
  · rfl
  · exact leaves s

@[simp] theorem State.enterZone_ports (c : HallConfig) (z : Fin 8) (q : Byte) : (s.enterZone c z q).ports = s.ports := by
  simp only [State.enterZone, State.requestZone, State.grantAtOnce]
  repeat' split
  all_goals simp

@[simp] theorem State.confirmZone_ports (c : HallConfig) (z : Fin 8) (q : Byte) : (s.confirmZone c z q).ports = s.ports := by
  unfold State.confirmZone
  split <;> simp

@[simp] theorem State.extendZone_ports (z : Fin 8) (q : Byte) : (s.extendZone z q).ports = s.ports := by
  simp only [State.extendZone]
  split <;> simp

@[simp] theorem State.cancelZone_ports (c : HallConfig) (z : Fin 8) (q : Byte) : (s.cancelZone c z q).ports = s.ports := by
  unfold State.cancelZone
  repeat' split
  all_goals simp

@[simp] theorem State.returnToRun_ports (c : HallConfig) (z : Fin 8) (q : Byte) : (s.returnToRun c z q).ports = s.ports := by
  unfold State.returnToRun
  split <;> simp

@[simp] theorem State.resetZone_ports (c : HallConfig) (z : Fin 8) (q : Byte) : (s.resetZone c z q).ports = s.ports := by
  simp only [State.resetZone]
  split <;> simp

@[simp] theorem State.resumeZone_ports (c : HallConfig) (z : Fin 8) (q : Byte) : (s.resumeZone c z q).ports = s.ports := by
  unfold State.resumeZone
  split <;> simp

/-! ### Robots and gates -/

@[simp] theorem State.robotStatusTaken_ports (u : Fin 24) (f : StatusFrame) :
    (s.robotStatusTaken u f).ports = s.ports := by
  simp only [State.robotStatusTaken, State.robotChanged]
  repeat' split
  all_goals simp

@[simp] theorem State.loseRobot_ports (u : Fin 24) (r : Robot) : (s.loseRobot u r).ports = s.ports := by
  simp only [State.loseRobot]
  split <;> simp

@[simp] theorem State.robotLost_ports (c : HallConfig) (u : Fin 24) : (s.robotLost c u).ports = s.ports := by
  unfold State.robotLost
  split <;> simp

@[simp] theorem State.sequenceTaken_ports (u : Fin 24) (q : Seq) : (s.sequenceTaken u q).ports = s.ports := by
  unfold State.sequenceTaken
  repeat' split
  all_goals simp

/-- A substituted command read: the stale test and the rewritten frame (R94, R96). -/
@[simp] theorem State.forwardFrame_ports (c : HallConfig) (u : Fin 24) (x : Txn) (data : List Word) :
    ((s.staleTest c u).forwardFrame c u x data).ports = s.ports := by
  have stale : (s.staleTest c u).ports = s.ports := by
    unfold State.staleTest
    repeat' split
    all_goals simp
  unfold State.forwardFrame
  split <;> simp [stale]

@[simp] theorem State.gateStatusTaken_ports (g : Fin 2) (f : StatusFrame) : (s.gateStatusTaken g f).ports = s.ports := by
  have report : ∀ s : State, (s.takeReport g f).ports = s.ports := fun s => by
    unfold State.takeReport State.examine
    repeat' split
    all_goals simp
  unfold State.gateStatusTaken
  repeat' split
  all_goals simp [report]

@[simp] theorem State.gateLost_ports (g : Fin 2) : (s.gateLost g).ports = s.ports := rfl

@[simp] theorem State.readGateFrame_ports (c : HallConfig) (g : Fin 2) (x : Txn) (data : List Word) :
    (s.readGateFrame c g x data).ports = s.ports := rfl

/-! ### The general slot, own transactions, load requests -/

@[simp] theorem State.completeGeneral_ports (w : Word) (code : Completion) : (s.completeGeneral w code).ports = s.ports := rfl

@[simp] theorem State.releaseTaken_ports (c : HallConfig) (w : Word) : (s.releaseTaken c w).ports = s.ports := by
  unfold State.releaseTaken
  repeat' split
  all_goals rfl

@[simp] theorem State.clearSuspectTaken_ports (c : HallConfig) (w : Word) : (s.clearSuspectTaken c w).ports = s.ports := by
  unfold State.clearSuspectTaken
  split <;> simp

@[simp] theorem State.accountClearTaken_ports (w : Word) : (s.accountClearTaken w).ports = s.ports := by
  unfold State.accountClearTaken
  split <;> simp

@[simp] theorem State.lineResumeTaken_ports (c : HallConfig) (w : Word) : (s.lineResumeTaken c w).ports = s.ports := by
  rw [State.lineResumeTaken, State.completeGeneral_ports, State.handOn_ports, State.resumeGates_eq]

@[simp] theorem State.snapshotTaken_ports (c : HallConfig) (w : Word) : (s.snapshotTaken c w).ports = s.ports := by
  simp only [State.snapshotTaken, State.startSnapshot]
  repeat' split
  all_goals simp

@[simp] theorem State.ownAnswered_ports : s.ownAnswered.ports = s.ports := rfl

@[simp] theorem State.snapshotAnswered_ports (k : Snapshot) (ok : Bool) : (s.snapshotAnswered k ok).ports = s.ports := by
  simp only [State.snapshotAnswered, State.snapshotSecond, State.snapshotDone]
  repeat' split
  all_goals rfl

@[simp] theorem State.noticeAnswered_ports (o : OwnTxn) (ok : Bool) : (s.noticeAnswered o ok).ports = s.ports := by
  unfold State.noticeAnswered
  split <;> rfl

@[simp] theorem State.requestLoad_ports (n : Nat) : (s.requestLoad n).ports = s.ports := by
  simp only [State.requestLoad]
  split <;> rfl

end Sys2Proof.Machine
end

section
/-! What the ports' events make of a sound record (O8): the silence timer runs in LISTEN only, and counts saturate at their widths
(7.1, R131 to R139). -/

namespace Sys2Proof.Machine

/-! ## The record -/

namespace Port

variable {r : Port}

/-- A fresh record is sound (R127). -/
theorem fresh_sound : Port.fresh.Sound := by
  constructor <;> decide

/-- A record that enters a state is sound: the silence timer starts in LISTEN and stops outside it (R131, R137). -/
theorem Sound.enter (h : r.Sound) (new : PortState) (reason : PortReason) (now : Nat) : (r.enter new reason now).Sound where
  silence := by by_cases listens : new = .listen <;> simp [Port.enter, listens]
  history := h.history
  upRun := h.upRun
  intervalViolations := by
    simp only [Port.enter]
    split
    · decide
    · exact h.intervalViolations
  intervalWords := by
    simp only [Port.enter]
    split
    · decide
    · exact h.intervalWords
  violations := by
    simp only [Port.enter]
    split
    · decide
    · exact h.violations
  denied := by
    simp only [Port.enter]
    split
    · decide
    · exact h.denied
  fragments := by
    simp only [Port.enter]
    split
    · decide
    · exact h.fragments
  overruns := h.overruns

/-- The link is none of what soundness reads; an up run is (R129). -/
theorem Sound.link (h : r.Sound) (up : Bool) {run : Nat} (within : run ≤ 2) : { r with linkUp := up, upRun := run }.Sound :=
  ⟨h.silence, h.history, within, h.intervalViolations, h.intervalWords, h.violations, h.denied, h.fragments, h.overruns⟩

/-- The speed and the errors are not either (R128). -/
theorem Sound.read (h : r.Sound) (speed : Byte) (errors : BitVec 32) : { r with speed := speed, rxErrors := errors }.Sound :=
  ⟨h.silence, h.history, h.upRun, h.intervalViolations, h.intervalWords, h.violations, h.denied, h.fragments, h.overruns⟩

/-- A boundary clears the counts of the interval (R133). -/
theorem Sound.boundary (h : r.Sound) : r.boundary.Sound :=
  ⟨h.silence, h.history, h.upRun, Nat.two_pow_pos 8, Nat.two_pow_pos 16, h.violations, h.denied, h.fragments, h.overruns⟩

/-- A write attempt restarts the silence timer of a port in LISTEN (R136). -/
theorem Sound.silent (h : r.Sound) (listens : r.state = .listen) (now : Nat) : { r with silence := some now }.Sound :=
  ⟨by simp [listens], h.history, h.upRun, h.intervalViolations, h.intervalWords, h.violations, h.denied, h.fragments, h.overruns⟩

/-- The LISTEN history keeps its 3 newest entries (R137). -/
theorem historyAdd_length (history : List Nat) (now : Nat) : (historyAdd history now).length ≤ 3 := by
  unfold historyAdd
  split <;> simp only [List.length_append, List.length_drop, List.length_singleton] <;> omega

/-- One entry joins the history. -/
theorem Sound.remember (h : r.Sound) (now : Nat) : { r with history := historyAdd r.history now }.Sound :=
  ⟨h.silence, historyAdd_length _ _, h.upRun, h.intervalViolations, h.intervalWords, h.violations, h.denied, h.fragments,
    h.overruns⟩

/-- PORT_CLEAR empties the history and the violation count (R138). -/
theorem Sound.cleared (h : r.Sound) : r.cleared.Sound :=
  ⟨h.silence, Nat.zero_le 3, h.upRun, h.intervalViolations, h.intervalWords, Nat.two_pow_pos 8, h.denied, h.fragments, h.overruns⟩

/-- A violation (R134). -/
theorem Sound.violate (h : r.Sound) : r.violate.Sound where
  silence := h.silence
  history := h.history
  upRun := h.upRun
  intervalViolations := by
    simp only [Port.violate]
    split
    · exact satAdd_lt 8 _ _
    · exact h.intervalViolations
  intervalWords := h.intervalWords
  violations := satAdd_lt 8 _ _
  denied := h.denied
  fragments := h.fragments
  overruns := h.overruns

/-- Words charged to the interval (R135). -/
theorem Sound.addWords (h : r.Sound) (w : Nat) : (r.addWords w).Sound :=
  ⟨h.silence, h.history, h.upRun, h.intervalViolations, satAdd_lt 16 _ _, h.violations, h.denied, h.fragments, h.overruns⟩

/-- An overrun (R135). -/
theorem Sound.overrun (h : r.Sound) : r.overrun.Sound :=
  ⟨h.silence, h.history, h.upRun, h.intervalViolations, h.intervalWords, h.violations, h.denied, h.fragments, satAdd_lt 16 _ _⟩

/-- The would-quarantine flag is none of what soundness reads (R139). -/
theorem Sound.warned (h : r.Sound) : { r with wouldQuarantine := true }.Sound :=
  ⟨h.silence, h.history, h.upRun, h.intervalViolations, h.intervalWords, h.violations, h.denied, h.fragments, h.overruns⟩

/-- A denial (R132). -/
theorem Sound.denial (h : r.Sound) : { r with denied := satAdd 16 r.denied 1 }.Sound :=
  ⟨h.silence, h.history, h.upRun, h.intervalViolations, h.intervalWords, h.violations, satAdd_lt 16 _ _, h.fragments, h.overruns⟩

/-- A fragment (R148). -/
theorem Sound.fragment (h : r.Sound) : { r with fragments := satAdd 16 r.fragments 1 }.Sound :=
  ⟨h.silence, h.history, h.upRun, h.intervalViolations, h.intervalWords, h.violations, h.denied, satAdd_lt 16 _ _, h.overruns⟩

end Port

/-! ## The state -/

namespace State

/-- The ports after a change of state. -/
theorem movePort_ports (s : State) (c : HallConfig) (p : Fin 16) (new : PortState) (reason : PortReason) :
    (s.movePort c p new reason).ports = s.ports.modify p fun r => r.enter new reason s.time.localTime := by
  simp only [movePort]
  split <;> rfl

namespace PortsSound

variable {s t : State} {c : HallConfig} {p : Fin 16}

/-- The ports stand. -/
theorem of_ports (h : s.PortsSound) (same : t.ports = s.ports) : t.PortsSound := fun q => by
  rw [same]
  exact h q

/-- The record of one port changes, and is sound. -/
theorem modify (h : s.PortsSound) {f : Port → Port} (ports : t.ports = s.ports.modify p f)
    (sound : (f (s.ports.get p)).Sound) : t.PortsSound := fun q => by
  rw [ports, Table.get_modify]
  split
  · next same => exact same ▸ sound
  · exact h q

/-- A port's record changes alone. -/
theorem onPort (h : s.PortsSound) {f : Port → Port} (sound : (f (s.ports.get p)).Sound) : (s.onPort p f).PortsSound :=
  h.modify (s.onPort_ports p f) sound

/-- A port changes state (R131). -/
theorem movePort (h : s.PortsSound) (c : HallConfig) (p : Fin 16) (new : PortState) (reason : PortReason) :
    (s.movePort c p new reason).PortsSound :=
  h.modify (s.movePort_ports c p new reason) ((h p).enter _ _ _)

/-- A change is handed on. -/
theorem handOn (h : s.PortsSound) : s.handOn.PortsSound :=
  h.of_ports s.handOn_ports

/-- Events on several ports, one after another. -/
theorem foldl {α : Type} (h : s.PortsSound) {f : State → α → State} (keeps : ∀ x a, x.PortsSound → (f x a).PortsSound)
    (l : List α) : (l.foldl f s).PortsSound :=
  List.foldlRecOn l f h fun x sound a _ => keeps x a sound

/-! ### Links (R129, R130) -/

/-- A link goes DOWN. -/
theorem linkDown (h : s.PortsSound) (c : HallConfig) (p : Fin 16) (reason : PortReason) : (s.linkDown c p reason).PortsSound := by
  have down : (s.onPort p fun r => { r with linkUp := false }).PortsSound := h.onPort ((h p).link false (h p).upRun)
  simp only [State.linkDown]
  split
  · exact down.movePort c p .down reason
  · exact down

/-- A link comes UP. -/
theorem linkUp (h : s.PortsSound) (c : HallConfig) (p : Fin 16) : (s.linkUp c p).PortsSound := by
  have up : (s.onPort p fun r => { r with linkUp := true, upRun := 0 }).PortsSound :=
    h.onPort ((h p).link true (Nat.zero_le 2))
  simp only [State.linkUp]
  split
  · exact up.movePort c p .active .link
  · exact up

/-- The up run of a port's link. -/
theorem upRun (h : s.PortsSound) (p : Fin 16) {run : Port → Nat} (within : run (s.ports.get p) ≤ 2) :
    (s.onPort p fun r => { r with upRun := run r }).PortsSound :=
  h.onPort ((h p).link _ within)

/-- The link of a table's entry. -/
theorem applyLink (h : s.PortsSound) (c : HallConfig) (p : Fin 16) (up : Bool) : (s.applyLink c p up).PortsSound := by
  have fallen := h.upRun p (run := fun _ => 0) (Nat.zero_le 2)
  simp only [State.applyLink]
  repeat' split
  · exact h
  · next first => exact h.upRun p (run := fun r => r.upRun + 1) (Nat.le_of_lt first)
  · exact h.linkUp c p
  · exact fallen.linkDown c p .link
  · exact fallen

/-- An entry of the switch table. -/
theorem applyEntry (h : s.PortsSound) (c : HallConfig) (p : Fin 16) (e : TableEntry) : (s.applyEntry c p e).PortsSound := by
  have read : (s.onPort p fun r => { r with speed := e.speed, rxErrors := e.rxErrors }).PortsSound := h.onPort ((h p).read _ _)
  exact read.applyLink c p e.up

/-- A port whose table goes stale. -/
theorem stalePort (h : s.PortsSound) (c : HallConfig) (p : Fin 16) : (s.stalePort c p).PortsSound := by
  have fallen := h.upRun p (run := fun _ => 0) (Nat.zero_le 2)
  simp only [State.stalePort]
  split
  · exact fallen.linkDown c p .tableStale
  · exact fallen

/-- A switch table (R128). -/
theorem tableTaken (h : s.PortsSound) (b : List Byte) : (s.tableTaken b).PortsSound := by
  unfold State.tableTaken
  split
  · exact h
  · next c _ =>
    have restarted : s.restartTable.PortsSound := h.of_ports (by
      simp only [restartTable]
      split <;> rfl)
    exact (restarted.foldl (fun x p sound => sound.applyEntry c p _) _).handOn

/-- A stale switch table (R130). -/
theorem tableStale (h : s.PortsSound) (c : HallConfig) : (s.tableStale c).PortsSound := by
  have stale : ((s.onTable fun t => { t with timer := none, stale := true }).give (s.note .switchTableStale)).PortsSound :=
    h.of_ports rfl
  unfold State.tableStale
  exact (stale.foldl (fun x p sound => sound.stalePort c p) _).handOn

/-! ### Misconduct (R134 to R139) -/

/-- A port enters LISTEN or LOCKED (R137). -/
theorem enterListen (h : s.PortsSound) (c : HallConfig) (p : Fin 16) (reason : PortReason) :
    (s.enterListen c p reason).PortsSound := by
  have listed : (s.onPort p fun r => { r with history := historyAdd (s.ports.get p).history s.time.localTime }).PortsSound :=
    h.onPort ((h p).remember _)
  simp only [State.enterListen]
  split
  · exact (listed.movePort c p .locked .lockout).handOn
  · exact (listed.movePort c p .listen reason).handOn

/-- A first misconduct in observation (R139). -/
theorem wouldQuarantine (h : s.PortsSound) (p : Fin 16) (reason : PortReason) : (s.wouldQuarantine p reason).PortsSound := by
  unfold State.wouldQuarantine
  split
  · exact h
  · have flagged : (s.onPort p fun r => { r with wouldQuarantine := true }).PortsSound := h.onPort (h p).warned
    exact flagged.of_ports rfl

/-- A violation (R134). -/
theorem violation (h : s.PortsSound) (c : HallConfig) (p : Fin 16) : (s.violation c p).PortsSound := by
  have counted : (s.onPort p Port.violate).PortsSound := h.onPort (h p).violate
  simp only [State.violation]
  repeat' split
  · exact counted.wouldQuarantine p _
  · exact counted
  · exact counted.enterListen c p _
  · exact counted
  · exact counted

/-- A write charged to the budget (R135). -/
theorem chargeBudget (h : s.PortsSound) (c : HallConfig) (p : Fin 16) (w : Nat) : (s.chargeBudget c p w).PortsSound := by
  unfold State.chargeBudget
  repeat' split
  · exact h.onPort ((h p).addWords w)
  · exact (h.onPort (p := p) ((h p).overrun.addWords w)).wouldQuarantine p .budget
  · exact (h.onPort (p := p) (h p).overrun).enterListen c p .budget

/-! ### Transactions (R132, R144, R145) -/

/-- A refusal counts a denial. -/
theorem refuse (h : s.PortsSound) (x : Txn) : (s.refuse x).PortsSound := by
  have counted : (s.countDenial x.tag).PortsSound := by
    unfold State.countDenial
    split
    · exact h.onPort (h _).denial
    · exact h
  exact counted.of_ports rfl

/-- A transaction handled as its treatment says. -/
theorem treat (h : s.PortsSound) (x : Txn) (how : Treatment) : (s.treat x how).PortsSound := by
  cases how with
  | denied => exact h.refuse x
  | view | plain | image | observed | substituted => exact h.of_ports rfl

/-- A transaction of a port. -/
theorem portPresents (h : s.PortsSound) (c : HallConfig) (p : Fin 16) (x : Txn) : (s.portPresents c p x).PortsSound := by
  have attempted : (s.writeAttempt p).PortsSound := by
    unfold State.writeAttempt
    split
    · next listens => exact h.onPort ((h p).silent listens _)
    · exact h
  have written : ∀ how, (s.portWrite c p x how).PortsSound := fun how => by
    have charged := h.chargeBudget c p x.length
    have counted : ((s.chargeBudget c p x.length).countFragment p).PortsSound := charged.onPort (charged p).fragment
    simp only [State.portWrite]
    repeat' split
    · exact counted.of_ports rfl
    · exact charged.of_ports rfl
    · exact charged.refuse x
  unfold State.portPresents
  split
  · exact attempted.refuse x
  · split
    · exact (h.violation c p).refuse x
    · split
      · exact written _
      · exact h.of_ports rfl

/-- A transaction of any source. -/
theorem presents (h : s.PortsSound) (c : HallConfig) (x : Txn) : (s.presents c x).PortsSound := by
  unfold State.presents State.agentPresents
  repeat' split
  · exact h.treat x _
  · exact h.treat x _
  · exact h.portPresents c _ x
  · exact h.refuse x
  · exact h.of_ports rfl
  · exact h.of_ports rfl
  · exact h.of_ports rfl
  · exact h.of_ports rfl
  all_goals exact h.refuse x

/-- A transaction while UNCONFIGURED (R153). -/
theorem presentsUnconfigured (h : s.PortsSound) (x : Txn) : (s.presentsUnconfigured x).PortsSound := by
  unfold State.presentsUnconfigured
  split
  · exact h.treat x _
  · exact h.refuse x

/-- A substituted read whose window was replaced counts a denial (R154). -/
theorem respondOkay (h : s.PortsSound) (f : Flight) (data : List Word) : (s.respondOkay f data).PortsSound := by
  have counted : (s.countDenial f.txn.tag).PortsSound := (h.refuse f.txn).of_ports rfl
  unfold State.respondOkay
  repeat' split
  · exact h.of_ports rfl
  · exact h
  · exact counted.of_ports rfl
  all_goals exact h.of_ports rfl

/-! ### PORT_CLEAR (R138) -/

/-- A port is cleared. -/
theorem portClearTaken (h : s.PortsSound) (c : HallConfig) (w : Word) : (s.portClearTaken c w).PortsSound := by
  unfold State.portClearTaken
  split
  · next p _ =>
    have cleared : (s.clearPort c p).PortsSound := by
      have wiped : (s.onPort p Port.cleared).PortsSound := h.onPort (h p).cleared
      by_cases locked : (s.ports.get p).state = .locked
      · rw [clearPort_locked locked]
        exact wiped.movePort c p _ .clear
      · rwa [clearPort_unlocked locked]
    exact cleared.handOn.of_ports rfl
  · exact h.of_ports rfl

/-! ### Loads -/

/-- Every record is fresh. -/
theorem of_fresh (ports : s.ports = Table.replicate 16 Port.fresh) : s.PortsSound := fun q => by
  rw [ports, Table.get_replicate]
  exact Port.fresh_sound

/-- The application of a PARAMETER load returns silent ports to ACTIVE (R127, R161). -/
theorem applyParameter (h : s.PortsSound) (old new : HallConfig) : (s.applyParameter old new).PortsSound := by
  have stop : ∀ s : State, (s.retestStop old new).ports = s.ports := fun s => by
    unfold State.retestStop
    split <;> rfl
  have gate : ∀ (s : State) g, (s.retestGate old new g).ports = s.ports := fun s g => by
    unfold State.retestGate
    split <;> rfl
  have suspect : ∀ (s : State) u, (s.retestSuspect new u).ports = s.ports := fun s u => by
    unfold State.retestSuspect
    repeat' split
    all_goals rfl
  have silence : ∀ (x : State) p, x.PortsSound → (x.retestSilence new p).PortsSound := fun x p sound => by
    unfold State.retestSilence
    split
    · exact sound.movePort new p .active .silence
    · exact sound
  simp only [State.applyParameter]
  refine List.foldlRecOn (s.lateRobots old new) _ (motive := PortsSound) ?_ fun t sound r _ => sound.of_ports (by simp)
  refine (foldl (h.of_ports ?_) silence (List.finRange 16)).handOn
  simp [foldl_ports, stop, gate, suspect]

/-- A load ends (R158, R159). -/
theorem finishLoad (h : s.PortsSound) (k : LoadKind) (m : Image) : (s.finishLoad k m).PortsSound := by
  unfold State.finishLoad
  split
  · exact h.of_ports rfl
  · have applied : (s.applyImage k m).PortsSound := by
      unfold applyImage
      split
      · exact of_fresh (by simp [State.applyFull, State.reloadRobots, State.reload])
      · exact h.applyParameter _ _
      · exact h
      · exact h.of_ports rfl
    exact applied.of_ports rfl

/-- A line read joins the staged copy (R157). -/
theorem lineStaged (h : s.PortsSound) (k : LoadKind) (data : List Word) : (s.lineStaged k data).PortsSound := by
  simp only [State.lineStaged]
  split
  · exact h.of_ports rfl
  · exact h.finishLoad _ _

end PortsSound

end State

end Sys2Proof.Machine
end

section
/-! Every command keeps the ports sound (O8). -/

namespace Sys2Proof.Machine

namespace State.PortsSound

variable {s : State}

/-- An answer that leaves the ports. -/
theorem answers {t : State} (h : s.PortsSound) (same : t.ports = s.ports) : Answers (.next t) PortsSound :=
  (answers_next _ _).2 (h.of_ports same)

/-- A taken record, handled by what keeps the ports sound. -/
theorem taking {α : Type} (h : s.PortsSound) {tag : Fin 32} {sel : Handover → Option α} {act : α → State → State}
    (keeps : ∀ a x, x.PortsSound → (act a x).PortsSound) : Answers (s.taking tag sel act) PortsSound :=
  taking_answers h fun a _ taken => (keeps a _ (h.of_ports (take_ports taken))).of_ports (settle_ports _)

/-- A taken record, handled by what leaves the ports. -/
theorem takingLeaves {α : Type} (h : s.PortsSound) {tag : Fin 32} {sel : Handover → Option α} {act : α → State → State}
    (leaves : ∀ a x, (act a x).ports = x.ports) : Answers (s.taking tag sel act) PortsSound :=
  h.taking fun a x sound => sound.of_ports (leaves a x)

/-- A zone command, whose handling leaves the ports (R109). -/
theorem zoneCommand (h : s.PortsSound) (z : Fin 8) (cmd : ZoneCommand) {act : HallConfig → Byte → State → State}
    (leaves : ∀ c q x, (act c q x).ports = x.ports) : Answers (s.zoneCommand z cmd act) PortsSound :=
  h.takingLeaves fun w x => x.zoneReceives_ports z w fun c q y => y.unlessPending_ports z (leaves c q)

/-- A word received by the general slot, handled by what keeps the ports sound (R164). -/
theorem generalReceives (h : s.PortsSound) (w : Word) {act : HallConfig → State → State}
    (keeps : ∀ c x, x.PortsSound → (act c x).PortsSound) : (s.generalReceives w act).PortsSound := by
  simp only [State.generalReceives]
  repeat' split
  · exact h
  · exact h
  · exact h.of_ports rfl
  · exact keeps _ _ (h.of_ports rfl)

/-- A general command whose handling leaves the ports (R164). -/
theorem generalCommand (h : s.PortsSound) (cmd : GeneralCommand) {act : HallConfig → Word → State → State}
    (leaves : ∀ c w x, (act c w x).ports = x.ports) : Answers (s.generalCommand cmd act) PortsSound :=
  h.taking fun w _ sound => sound.generalReceives w fun c y sound => sound.of_ports (leaves c w y)

end State.PortsSound

/-- Every command keeps the ports sound. -/
theorem exec_portsSound (i : Instr) {s : State} (h : s.PortsSound) : Answers (exec i s) State.PortsSound := by
  have stays : Answers (.next s) State.PortsSound := h.answers rfl
  have settled : ∀ {t : State}, t.PortsSound → Answers (.next t.settle) State.PortsSound := fun sound =>
    sound.answers (State.settle_ports _)
  cases i with
  | resetN straps => exact (answers_next _ _).2 (.of_fresh rfl)
  | pitchEdge =>
    simp only [exec, execPitchEdge]
    repeat' split
    · exact stays
    · exact h.answers rfl
    · exact h.answers (by simp)
  | stopTimerExpiry =>
    simp only [exec, execStopTimerExpiry]
    split
    · exact h.answers (by simp)
    · exact stays
  | slewMove =>
    simp only [exec, execSlewMove]
    split
    · exact h.answers (by simp)
    · exact stays
  | holdoverExpiry =>
    simp only [exec, execHoldoverExpiry]
    split
    · exact h.answers (by simp)
    · exact stays
  | accountSecond u =>
    simp only [exec, execAccountSecond]
    repeat' split
    · exact h.answers rfl
    · exact h.answers rfl
    · exact stays
  | referencePeriod => exact h.answers rfl
  | timeFrame tag => exact h.takingLeaves fun r x => x.timeFrameTaken_ports _ _
  | verdictRecord tag => exact h.takingLeaves fun r x => x.verdictTaken_ports _ _
  | robotStatusFrame tag => exact h.takingLeaves fun r x => x.robotStatusTaken_ports _ _
  | robotStatusTimeout u =>
    simp only [exec, execRobotStatusTimeout]
    repeat' split
    · exact h.answers (by simp)
    all_goals exact stays
  | gateStatusFrame tag => exact h.takingLeaves fun r x => x.gateStatusTaken_ports _ _
  | gateStatusTimeout g =>
    simp only [exec, execGateStatusTimeout]
    repeat' split
    · exact h.answers (by simp)
    all_goals exact stays
  | sequenceWrite u => exact h.takingLeaves fun q x => x.sequenceTaken_ports _ _
  | robotCommandRead tag data =>
    simp only [exec, execRobotCommandRead]
    repeat' split
    · exact h.answers (by simp)
    all_goals exact stays
  | gateCommandRead tag data =>
    simp only [exec, execGateCommandRead]
    repeat' split
    · exact h.answers (by simp)
    all_goals exact stays
  | guardRawChange z opened => exact h.answers rfl
  | guardOpen z =>
    simp only [exec, execGuardOpen]
    repeat' split
    · exact h.answers rfl
    · exact h.answers (by simp)
    · exact stays
  | guardClosed z =>
    simp only [exec, execGuardClosed]
    repeat' split
    · exact h.answers rfl
    · exact h.answers (by simp)
    · exact stays
  | accessTimerExpiry z =>
    simp only [exec, execAccessTimerExpiry]
    repeat' split
    · exact h.answers (by simp)
    all_goals exact stays
  | clearingWindowExpiry z =>
    simp only [exec, execClearingWindowExpiry]
    repeat' split
    · exact h.answers (by simp)
    all_goals exact stays
  | enter z => exact h.zoneCommand z _ fun c q x => x.enterZone_ports c z q
  | confirm z => exact h.zoneCommand z _ fun c q x => x.confirmZone_ports c z q
  | extend z => exact h.zoneCommand z _ fun c q x => x.extendZone_ports z q
  | cancel z => exact h.zoneCommand z _ fun c q x => x.cancelZone_ports c z q
  | reset z => exact h.zoneCommand z _ fun c q x => x.resetZone_ports c z q
  | resume z => exact h.zoneCommand z _ fun c q x => x.resumeZone_ports c z q
  | sense z => exact h.takingLeaves fun w x => x.zoneReceives_ports z w fun _ _ _ => rfl
  | mailboxRead data =>
    simp only [exec, execMailboxRead]
    repeat' split
    · exact h.answers rfl
    all_goals exact stays
  | release => exact h.generalCommand _ fun c w x => x.releaseTaken_ports c w
  | clearSuspect => exact h.generalCommand _ fun c w x => x.clearSuspectTaken_ports c w
  | accountClear => exact h.generalCommand _ fun c w x => x.accountClearTaken_ports w
  | portClear => exact h.taking fun w x sound => sound.generalReceives w fun c y sound => sound.portClearTaken c w
  | snapshot => exact h.generalCommand _ fun c w x => x.snapshotTaken_ports c w
  | purge => exact h.generalCommand _ fun c w x => rfl
  | lineResume => exact h.generalCommand _ fun c w x => x.lineResumeTaken_ports c w
  | snapshotWriteAnswered ok =>
    simp only [exec, execSnapshotWriteAnswered]
    split
    · exact h.answers (by simp)
    · exact stays
  | noticeWriteAnswered ok =>
    simp only [exec, execNoticeWriteAnswered]
    split
    · exact h.answers (by simp)
    · exact stays
  | consumerWrite => exact h.takingLeaves fun _ _ => rfl
  | switchTable => exact h.taking fun b x sound => sound.tableTaken b
  | tableTimerExpiry =>
    simp only [exec, execTableTimerExpiry]
    repeat' split
    · exact settled (h.tableStale _)
    all_goals exact stays
  | intervalBoundary =>
    simp only [exec, execIntervalBoundary]
    split
    · refine (answers_next _ _).2 fun p => ?_
      rw [Table.get_mapFin]
      exact (h p).boundary
    · exact stays
  | silenceExpiry p =>
    simp only [exec, execSilenceExpiry]
    repeat' split
    · exact settled (h.movePort _ p .active .silence).handOn
    all_goals exact stays
  | upstreamTransaction x observeAll =>
    have seen : State.PortsSound { s with observeAll := observeAll } := h
    simp only [exec, execUpstreamTransaction]
    split
    · exact settled (seen.presents _ x)
    · exact settled (seen.presentsUnconfigured x)
  | viewRead observeAll =>
    simp only [exec, execViewRead]
    repeat' split
    · exact h.answers rfl
    all_goals exact stays
  | forwardedResponse tag ok data =>
    simp only [exec, execForwardedResponse]
    repeat' split
    · exact stays
    · exact (answers_next _ _).2 (h.respondOkay _ data)
    · exact h.answers rfl
    · exact stays
  | arbiterGrant => exact h.answers rfl
  | fullLoad => exact h.takingLeaves fun _ x => x.requestLoad_ports _
  | parameterLoad => exact h.takingLeaves fun _ x => x.requestLoad_ports _
  | changeoverLoad => exact h.takingLeaves fun _ x => x.requestLoad_ports _
  | otherLoadKind => exact h.takingLeaves fun _ x => x.requestLoad_ports _
  | configReadAnswered ok data =>
    have answered : s.ownAnswered.PortsSound := h
    simp only [exec, execConfigReadAnswered]
    repeat' split
    · exact settled (answered.lineStaged _ data)
    · exact h.answers rfl
    · exact stays
  | otherCommandCode slot =>
    simp only [exec, execOtherCommandCode]
    split
    · exact h.takingLeaves fun w x => x.zoneReceives_ports _ w fun _ q y => y.unlessPending_ports _ fun _ => rfl
    · exact h.taking fun w x sound => sound.generalReceives w fun _ _ sound => sound.of_ports rfl

/-- Settles O8: each command leaves the ports or moves some of them to sound records; an empty queue leaves the state. -/
theorem stepKeepsPortsSound : Obligations.StepKeepsPortsSound := by
  intro s t sound next
  unfold step at next
  split at next
  · cases next
    exact sound
  · next i rest _ => exact exec_portsSound i (s := { s with pending := rest }) sound t next

end Sys2Proof.Machine
end

section
/-! SUPPORT. What an event makes of several ports, one after another (R128, R130): the records, the sequences that go with a port to
DOWN (R140), and a notice for each change of state (R131). `State.PortsMoved` says it of the ports that have been handled so far. -/

namespace Sys2Proof.Machine

/-- PORT_STATE of port `p`, if it changes state from `s` to `t` (R131). -/
def State.portNotice (s t : State) (p : Fin 16) : Option Notice :=
  if (t.ports.get p).state = (s.ports.get p).state then none
  else
    some { s.note .portState with
      subject := p.val + 1, code := (t.ports.get p).state.code
      detail := BitVec.ofNat 32 (t.ports.get p).reason.code }

/-- The notices of the ports are those of each. -/
theorem State.portNotices_eq (s t : State) : s.portNotices t = (List.finRange 16).filterMap (s.portNotice t) := rfl

/-- A port that keeps its state gives none. -/
theorem State.portNotice_none {s t : State} {p : Fin 16} (same : (t.ports.get p).state = (s.ports.get p).state) :
    s.portNotice t p = none :=
  if_pos same

/-- A port's notice is read from hall time, its state before the event and its record after it. -/
theorem State.portNotice_congr {s s' t t' : State} {p : Fin 16} (time : s'.time = s.time)
    (before : s'.ports.get p = s.ports.get p) (after : t'.ports.get p = t.ports.get p) :
    s'.portNotice t' p = s.portNotice t p := by
  rw [portNotice, portNotice, note, note, time, before, after]

/-- From `s` to `t` the ports of `l` have been handled, each as `g` says, and no change is handed on yet. -/
structure State.PortsMoved (c : HallConfig) (g : Fin 16 → Port → Port) (l : List (Fin 16)) (s t : State) : Prop where
  /-- The ports handled. -/
  records : ∀ p ∈ l, t.ports.get p = g p (s.ports.get p)
  /-- The other ports stand. -/
  others : ∀ p, p ∉ l → t.ports.get p = s.ports.get p
  /-- The sequences of the units of ports that go DOWN. -/
  sequences : State.SequencesDiscarded c s t
  /-- The changes of state. -/
  given : t.given = s.given ++ l.filterMap (s.portNotice t)
  /-- Everything else stands. -/
  frame : t = { s with
    given := t.given, ports := t.ports, robots := t.robots, gates := t.gates
    grading := { s.grading with cameras := t.grading.cameras } }

namespace State

variable {c : HallConfig} {s a t : State}

/-- A port that moves at most at one of two events goes DOWN over both if it does at one. -/
theorem wentDown_trans (once : ∀ q, a.ports.get q = s.ports.get q ∨ t.ports.get q = a.ports.get q) (port : Option (Fin 16)) :
    s.wentDown t port = (s.wentDown a port || a.wentDown t port) := by
  cases port with
  | none => rfl
  | some q =>
    rcases once q with stands | stands
    · simp [wentDown, stands]
    · simp [wentDown, stands]

/-- A change of state but to DOWN moves the ports and gives a notice (R131). -/
theorem movePort_of_up (s : State) (c : HallConfig) (p : Fin 16) {new : PortState} (up : new ≠ .down) (reason : PortReason) :
    s.movePort c p new reason = { s with
      ports := (s.movePort c p new reason).ports, given := (s.movePort c p new reason).given } := by
  simp only [movePort, if_neg up]
  rfl

/-- A sequence discarded for one of two reasons is discarded for the other after the first. -/
theorem discard_or (x y : Bool) (q : Option Seq) : (if x || y then none else q) = if y then none else if x then none else q := by
  cases x <;> cases y <;> rfl

/-- A sequence is discarded over two events if one of them discards it. -/
theorem SequencesDiscarded.trans (first : SequencesDiscarded c s a) (second : SequencesDiscarded c a t)
    (once : ∀ q, a.ports.get q = s.ports.get q ∨ t.ports.get q = a.ports.get q) : SequencesDiscarded c s t where
  robots u := by
    have own : ∀ o : Option Robot, o.map (fun r => { r.own with lastSeq := if a.wentDown t (c.portOf u) then none else r.lastSeq }) =
        (o.map Robot.own).map fun r => { r with lastSeq := if a.wentDown t (c.portOf u) then none else r.lastSeq } := fun o => by
      rw [Option.map_map]
      rfl
    rw [second.robots u, own, first.robots u, Option.map_map, wentDown_trans once]
    exact congrArg (Option.map · _) (funext fun r => by rw [discard_or]; rfl)
  gates g := by
    rw [second.gates g, first.gates g, Option.map_map, wentDown_trans once]
    exact congrArg (Option.map · _) (funext fun r => by rw [discard_or]; rfl)
  cameras n := by
    rw [second.cameras n, first.cameras n, wentDown_trans once, Bool.and_or_distrib_left, discard_or]
  latched g k hk := (second.latched g k hk).trans (first.latched g k hk)

namespace PortsMoved

variable {g : Fin 16 → Port → Port} {p : Fin 16}

/-- No port has been handled. -/
theorem refl (c : HallConfig) (g : Fin 16 → Port → Port) (s : State) : PortsMoved c g [] s s where
  records := nofun
  others _ _ := rfl
  sequences := .of_stands (wentDown_of_states fun _ => rfl) rfl rfl rfl rfl
  given := (List.append_nil _).symm
  frame := rfl

/-- What one port gives is all that the ports give. -/
theorem one (h : PortsMoved c g [p] s t) : s.portNotices t = [p].filterMap (s.portNotice t) := by
  have single : (List.finRange 16).filterMap (s.portNotice t) = (s.portNotice t p).toList :=
    filterMap_eq_single (List.nodup_finRange 16) (List.mem_finRange p) fun q other =>
      portNotice_none (congrArg Port.state (h.others q (by simpa using other)))
  rw [portNotices_eq, single, List.filterMap_cons, List.filterMap_nil]
  cases s.portNotice t p <;> rfl

/-- One event is no matter of hall time. -/
theorem time {l : List (Fin 16)} (h : PortsMoved c g l s t) : t.time = s.time :=
  (congrArg State.time h.frame :)

/-- A port that has not been handled is handled before the others. -/
theorem cons {l : List (Fin 16)} (first : PortsMoved c g [p] s a) (fresh : p ∉ l) (rest : PortsMoved c g l a t) :
    PortsMoved c g (p :: l) s t := by
  have kept : ∀ q, q ≠ p → a.ports.get q = s.ports.get q := fun q other => first.others q (by simpa using other)
  have stands : t.ports.get p = a.ports.get p := rest.others p fresh
  refine ⟨fun q mem => ?_, fun q out => ?_, first.sequences.trans rest.sequences fun q => ?_, ?_, ?_⟩
  · rcases List.mem_cons.1 mem with rfl | later
    · rw [stands, first.records _ List.mem_cons_self]
    · rw [rest.records q later, kept q fun same => fresh (same ▸ later)]
  · obtain ⟨other, later⟩ := not_or.1 (mt List.mem_cons.2 out)
    rw [rest.others q later, kept q other]
  · by_cases same : q = p
    · exact .inr (same ▸ stands)
    · exact .inl (kept q same)
  · have head : s.portNotice a p = s.portNotice t p := portNotice_congr rfl rfl stands.symm
    have tail : l.filterMap (a.portNotice t) = l.filterMap (s.portNotice t) := List.filterMap_congr fun q later =>
      portNotice_congr first.time (kept q fun same => fresh (same ▸ later)) rfl
    rw [rest.given, first.given, tail, List.filterMap_cons, List.filterMap_cons, List.filterMap_nil, head, List.append_assoc]
    cases s.portNotice t p <;> rfl
  · calc t = _ := rest.frame
      _ = _ := by rw [first.frame]

/-- Each port of a list is handled in turn. -/
theorem foldl {f : State → Fin 16 → State} (moves : ∀ x p, PortsMoved c g [p] x (f x p)) {l : List (Fin 16)} (nodup : l.Nodup)
    (s : State) : PortsMoved c g l s (l.foldl f s) := by
  induction l generalizing s with
  | nil => exact refl c g s
  | cons p l ih =>
    obtain ⟨fresh, nodup⟩ := List.nodup_cons.1 nodup
    exact (moves s p).cons fresh (ih nodup (f s p))

/-- A port's record changes, but not its state. -/
theorem of_onPort (s : State) {f : Port → Port} (becomes : f (s.ports.get p) = g p (s.ports.get p))
    (keeps : (f (s.ports.get p)).state = (s.ports.get p).state) : PortsMoved c g [p] s (s.onPort p f) := by
  have states : ∀ q, ((s.onPort p f).ports.get q).state = (s.ports.get q).state := fun q => by
    rw [onPort_ports, Table.get_modify]
    split
    · next same => rw [same, keeps]
    · rfl
  refine ⟨fun q mem => ?_, fun q out => ?_, .of_stands (wentDown_of_states states) rfl rfl rfl rfl, ?_, rfl⟩
  · obtain rfl := List.mem_singleton.1 mem
    exact (Table.get_modify_self _ _ _).trans becomes
  · exact Table.get_modify_ne _ _ (by simpa using out)
  · rw [List.filterMap_eq_nil_iff.2 fun q _ => portNotice_none (states q), List.append_nil]
    rfl

/-- A port is handled and its record stands. -/
theorem of_stands (s : State) (becomes : s.ports.get p = g p (s.ports.get p)) : PortsMoved c g [p] s s := by
  have same : PortsMoved c g [p] s (s.onPort p fun r => r) := of_onPort s becomes rfl
  simpa [onPort] using same

/-- What is made of one port is read at its record. -/
theorem congr {h : Fin 16 → Port → Port} (moved : PortsMoved c h [p] s t)
    (becomes : h p (s.ports.get p) = g p (s.ports.get p)) : PortsMoved c g [p] s t where
  records q mem := by
    obtain rfl := List.mem_singleton.1 mem
    rw [moved.records _ mem, becomes]
  others := moved.others
  sequences := moved.sequences
  given := moved.given
  frame := moved.frame

/-- Before a port moves its record may change but for its state. -/
theorem after_onPort {f : Port → Port} {h : Fin 16 → Port → Port} (moved : PortsMoved c h [p] (s.onPort p f) t)
    (keeps : ∀ r, (f r).state = r.state) (becomes : h p (f (s.ports.get p)) = g p (s.ports.get p)) :
    PortsMoved c g [p] s t where
  records q mem := by
    obtain rfl := List.mem_singleton.1 mem
    rw [moved.records _ mem, onPort_ports, Table.get_modify_self, becomes]
  others q out := (moved.others q out).trans (Table.get_modify_ne _ _ (by simpa using out))
  sequences := moved.sequences.of_onPort keeps
  given := by
    have notice : ∀ q, (s.onPort p f).portNotice t q = s.portNotice t q := fun q => by
      rw [portNotice, s.onPort_state keeps, portNotice]
      rfl
    simp only [moved.given, notice]
    rfl
  frame := moved.frame

/-- A port enters another state (R131). -/
theorem of_movePort (s : State) (c : HallConfig) {new : PortState} {reason : PortReason}
    (changes : new ≠ (s.ports.get p).state)
    (becomes : (s.ports.get p).enter new reason s.time.localTime = g p (s.ports.get p)) :
    PortsMoved c g [p] s (s.movePort c p new reason) := by
  have others : ∀ q, q ≠ p → (s.movePort c p new reason).ports.get q = s.ports.get q := fun q other =>
    s.movePort_other c new reason other
  refine ⟨fun q mem => ?_, fun q out => others q (by simpa using out), ?_, ?_, ?_⟩
  · obtain rfl := List.mem_singleton.1 mem
    rw [movePort_self, becomes]
  · by_cases enters : new = .down
    · exact s.movePort_sequencesDiscarded c new reason fun down => changes (enters.trans down.symm)
    · have eq := s.movePort_of_up c p enters reason
      refine .of_stands (fun port => ?_) (congrArg State.robots eq :) (congrArg State.gates eq :)
        (congrArg (fun t => t.grading.cameras) eq :) (congrArg State.lineHold eq :)
      cases port with
      | none => rfl
      | some q =>
        by_cases same : q = p
        · subst same
          have out : ((s.movePort c q new reason).ports.get q).state ≠ .down := by rwa [movePort_self]
          simp [wentDown, out]
        · simp [wentDown, others q same]
  · rw [s.movePort_given c reason changes, portNotices_eq, filterMap_eq_single (List.nodup_finRange 16) (List.mem_finRange p)
      fun q other => portNotice_none (by rw [others q other]), List.filterMap_cons, List.filterMap_nil]
    cases s.portNotice (s.movePort c p new reason) p <;> rfl
  · simp only [movePort]
    split <;> rfl

end PortsMoved

end State

end Sys2Proof.Machine
end

section
/-! The switch table and the timers of the ports (O52, O53): links and the changes of state they bring (R128 to R131), intervals
(R133), silence (R136). -/

namespace Sys2Proof.Machine

/-! ## The record of a port -/

/-- A record that enters ACTIVE (R131). -/
def Port.activated (r : Port) (reason : PortReason) : Port :=
  { r with
    state := .active, reason := reason, silence := none, intervalViolations := 0, intervalWords := 0, wouldQuarantine := false }

/-- A record that enters DOWN (R131). -/
def Port.downed (r : Port) (reason : PortReason) : Port :=
  { r with state := .down, reason := reason, silence := none, violations := 0, denied := 0, fragments := 0 }

/-- A record whose accepted link goes DOWN (R129 to R131). -/
def Port.unlinked (r : Port) (reason : PortReason) : Port :=
  if r.state = .active ∨ r.state = .listen then { r with linkUp := false }.downed reason else { r with linkUp := false }

/-- A record whose link comes UP (R129, R131). -/
def Port.linked (r : Port) : Port :=
  if r.state = .down then { r with linkUp := true, upRun := 0 }.activated .link else { r with linkUp := true, upRun := 0 }

/-- A record that takes the link of a table's entry (R129). -/
def Port.takeLink (r : Port) (up : Bool) : Port :=
  if up then if r.linkUp then r else if r.upRun = 0 then { r with upRun := 1 } else r.linked
  else if r.linkUp then { r with upRun := 0 }.unlinked .link else { r with upRun := 0 }

/-- A record that takes a table's entry (R128). -/
def Port.takeEntry (r : Port) (e : TableEntry) : Port :=
  { r with speed := e.speed, rxErrors := e.rxErrors }.takeLink e.up

/-- A record whose table goes stale (R130). -/
def Port.staled (r : Port) : Port :=
  if r.linkUp then { r with upRun := 0 }.unlinked .tableStale else { r with upRun := 0 }

/-- Entering ACTIVE. -/
theorem Port.enter_active (r : Port) (reason : PortReason) (now : Nat) : r.enter .active reason now = r.activated reason := rfl

/-- Entering DOWN. -/
theorem Port.enter_down (r : Port) (reason : PortReason) (now : Nat) : r.enter .down reason now = r.downed reason := rfl

namespace State

variable (s : State) (c : HallConfig) (p : Fin 16)

/-! ## Links -/

/-- A link goes DOWN (R131). -/
theorem linkDown_moved (reason : PortReason) : PortsMoved c (fun _ r => r.unlinked reason) [p] s (s.linkDown c p reason) := by
  simp only [linkDown]
  split
  · next moves =>
    refine .after_onPort (.of_movePort (g := fun _ r => r.downed reason) _ c ?_ (Port.enter_down _ _ _)) (fun _ => rfl)
      (by rw [Port.unlinked, if_pos moves])
    rw [onPort_ports, Table.get_modify_self]
    rcases moves with active | listen
    · simp [active]
    · simp [listen]
  · next stays => exact .of_onPort s (by rw [Port.unlinked, if_neg stays]) rfl

/-- A link comes UP (R131). -/
theorem linkUp_moved : PortsMoved c (fun _ => Port.linked) [p] s (s.linkUp c p) := by
  simp only [linkUp]
  split
  · next down =>
    refine .after_onPort (.of_movePort (g := fun _ r => r.activated .link) _ c ?_ (Port.enter_active _ _ _)) (fun _ => rfl)
      (by rw [Port.linked, if_pos down])
    rw [onPort_ports, Table.get_modify_self]
    simp [down]
  · next up => exact .of_onPort s (by rw [Port.linked, if_neg up]) rfl

/-- The link of an entry (R129). -/
theorem applyLink_moved (up : Bool) : PortsMoved c (fun _ r => r.takeLink up) [p] s (s.applyLink c p up) := by
  simp only [applyLink]
  split
  · next isUp =>
    split
    · next linked =>
      exact .of_stands s (by simp [Port.takeLink, isUp, linked])
    · next unlinked =>
      split
      · next first =>
        have zero : (s.ports.get p).upRun = 0 := by omega
        exact .of_onPort s (by simp [Port.takeLink, isUp, unlinked, zero]) rfl
      · next second =>
        have one : (s.ports.get p).upRun ≠ 0 := by omega
        exact (s.linkUp_moved c p).congr (by simp [Port.takeLink, isUp, unlinked, one])
  · next isDown =>
    split
    · next linked => exact .after_onPort (linkDown_moved _ c p .link) (fun _ => rfl) (by simp [Port.takeLink, isDown, linked])
    · next unlinked => exact .of_onPort s (by simp [Port.takeLink, isDown, unlinked]) rfl

/-- An entry of the table (R128). -/
theorem applyEntry_moved (e : TableEntry) : PortsMoved c (fun _ r => r.takeEntry e) [p] s (s.applyEntry c p e) :=
  .after_onPort (applyLink_moved _ c p e.up) (fun _ => rfl) rfl

/-- A port whose table goes stale (R130). -/
theorem stalePort_moved : PortsMoved c (fun _ => Port.staled) [p] s (s.stalePort c p) := by
  simp only [stalePort]
  split
  · next linked => exact .after_onPort (linkDown_moved _ c p .tableStale) (fun _ => rfl) (by simp [Port.staled, linked])
  · next unlinked => exact .of_onPort s (by simp [Port.staled, unlinked]) rfl

/-! ## Ports that have been handled, handed on -/

namespace PortsMoved

variable {s c} {a t : State} {g : Fin 16 → Port → Port}

/-- The sequences are discarded once the change is handed on, also when the table and the notices changed before. -/
theorem discards {l : List (Fin 16)} (moved : PortsMoved c g l a t) {table : TableState} {given : List Notice}
    (before : a = { s with table := table, given := given }) :
    SequencesDiscarded c s t.handOn.settle := by
  subst before
  have discarded := moved.sequences.handOn
  exact ⟨discarded.robots, discarded.gates, discarded.cameras, discarded.latched⟩

/-- The ports that moved have been handled, and the change is handed on: what the step gives (R131). -/
theorem gives {l : List (Fin 16)} (moved : PortsMoved c g l a t) (all : a.portNotices t = l.filterMap (a.portNotice t))
    {table : TableState} {own : List Notice} (before : a = { s with table := table, given := s.given ++ own })
    (plain : own.filter (fun n => !n.handed) = own) : s.Gives t.handOn.settle (own ++ s.portNotices t.handOn.settle) := by
  subst before
  have report : t.handOn.report = s.report := t.handOn_report.trans (congrArg State.report moved.frame :)
  have ports : t.handOn.settle.ports = t.ports := t.handOn_ports
  refine settle_notices (congrArg Report.notices report) (congrArg Report.dropped report) fun none => ?_
  rw [s.portNotices_congr ports, handOn_gives, moved.given, ← all, none, List.nil_append, List.filter_append, plain]
  exact congrArg (own ++ ·) (s.portNotices_filter t)

/-- What all this leaves. -/
theorem leaves {l : List (Fin 16)} (moved : PortsMoved c g l a t) {table : TableState} {given : List Notice}
    (before : a = { s with table := table, given := given }) :
    { t.handOn.settle.unhanded s with
      table := s.table, ports := s.ports, gates := s.gates
      grading := { t.handOn.settle.grading with cameras := s.grading.cameras } } = s := by
  rw [handOn_eq, moved.frame, before]
  cases s
  rfl

end PortsMoved

/-! ## The switch table (R128, R130) -/

/-- Taking a record leaves the configuration. -/
theorem take_config {α : Type} {s s1 : State} {tag : Fin 32} {sel : Handover → Option α} {a : α}
    (h : s.take tag sel = some (a, s1)) : s1.config = s.config := by
  obtain ⟨path, rfl⟩ := take_path h
  rfl

/-- The ports take their entries one after another, and the change is handed on (R128). -/
theorem tableTaken_moved (b : List Byte) (config : s.config = some c) :
    ∃ t, s.tableTaken b = t.handOn ∧
      PortsMoved c (fun p r => r.takeEntry (readTableEntry b p)) (List.finRange 16) s.restartTable t :=
  ⟨_, by simp only [tableTaken, config], .foldl (fun x p => (x.applyEntry_moved c p _).congr rfl) (List.nodup_finRange 16) _⟩

/-- The table timer restarts. -/
theorem restartTable_eq : s.restartTable = { s with
    table := { s.table with timer := some s.time.localTime, stale := false }
    given := s.given ++ if s.table.stale then [s.note .switchTableResumed] else [] } := by
  simp only [restartTable]
  split
  · rfl
  · rw [List.append_nil]
    rfl

end State

/-- What becomes of the record of a port that takes a table's entry, case by case (R128, R129, R131). -/
theorem Port.takeEntry_cases (k : Port) (e : TableEntry) :
    let r := { k with speed := e.speed, rxErrors := e.rxErrors }
    (e.up = true → r.linkUp = true → k.takeEntry e = r) ∧
    (e.up = true → r.linkUp = false → r.upRun = 0 → k.takeEntry e = { r with upRun := 1 }) ∧
    (e.up = true → r.linkUp = false → 1 ≤ r.upRun → r.state ≠ .down →
      k.takeEntry e = { r with linkUp := true, upRun := 0 }) ∧
    (e.up = true → r.linkUp = false → 1 ≤ r.upRun → r.state = .down →
      k.takeEntry e = { r with linkUp := true, upRun := 0 }.activated .link) ∧
    (e.up = false → r.linkUp = false → k.takeEntry e = { r with upRun := 0 }) ∧
    (e.up = false → r.linkUp = true → r.state = .down ∨ r.state = .locked →
      k.takeEntry e = { r with linkUp := false, upRun := 0 }) ∧
    (e.up = false → r.linkUp = true → r.state = .active ∨ r.state = .listen →
      k.takeEntry e = { r with linkUp := false, upRun := 0 }.downed .link) := by
  intro r
  have take : k.takeEntry e = r.takeLink e.up := rfl
  rw [take]
  refine ⟨fun up linked => ?_, fun up unlinked first => ?_, fun up unlinked second live => ?_, fun up unlinked second down => ?_,
    fun down unlinked => ?_, fun down linked out => ?_, fun down linked live => ?_⟩
  · simp only [Port.takeLink, up, linked, if_true]
  · simp only [Port.takeLink, up, unlinked, first, if_true, if_false, Bool.false_eq_true]
  · have run : r.upRun ≠ 0 := by omega
    simp only [Port.takeLink, Port.linked, up, unlinked, run, live, if_true, if_false, Bool.false_eq_true]
  · have run : r.upRun ≠ 0 := by omega
    simp only [Port.takeLink, Port.linked, up, unlinked, run, down, if_true, if_false, Bool.false_eq_true]
  · simp only [Port.takeLink, down, unlinked, if_false, Bool.false_eq_true]
  · have quiet : ¬ (r.state = .active ∨ r.state = .listen) := by rcases out with out | out <;> simp [out]
    simp only [Port.takeLink, Port.unlinked, down, linked, quiet, if_true, if_false, Bool.false_eq_true]
  · simp only [Port.takeLink, Port.unlinked, down, linked, live, if_true, if_false, Bool.false_eq_true]

/-- Settles O52: the timer restarts, the sixteen ports take their entries one after another, and the change is handed on. -/
theorem switchTableTaken : Obligations.SwitchTableTaken := by
  intro s s1 c b take config
  have answer : exec .switchTable s = .next (s1.tableTaken b).settle := s.taking_some (fun b s => s.tableTaken b) take
  have before := s1.restartTable_eq
  obtain ⟨t, taken, moved⟩ := s1.tableTaken_moved c b ((State.take_config take).trans config)
  rw [taken] at answer
  have frame := moved.leaves before
  have discarded := moved.discards before
  have gives := moved.gives rfl before (by split <;> rfl)
  obtain ⟨path, rfl⟩ := State.take_path take
  refine ⟨_, answer, ?_, fun p => ?_, ⟨discarded.robots, discarded.gates, discarded.cameras, discarded.latched⟩, gives, frame⟩
  · rw [State.settle_table, State.handOn_table, moved.frame, before]
  · rw [State.settle_ports, State.handOn_ports, moved.records p (List.mem_finRange p), before]
    exact Port.takeEntry_cases (s.ports.get p) (readTableEntry b p)

/-! ## The timers (R130, R133, R136) -/

/-- What becomes of the record of a port whose table goes stale (R130, R131). -/
theorem Port.staled_eq (r : Port) :
    r.staled =
      if r.linkUp = false then { r with upRun := 0 }
      else if r.state = .active ∨ r.state = .listen then { r with linkUp := false, upRun := 0 }.downed .tableStale
      else { r with linkUp := false, upRun := 0 } := by
  unfold Port.staled Port.unlinked
  cases r.linkUp <;> simp

/-- The state in which the ports go stale: the table timer has stopped (R130). -/
def State.timerStopped (s : State) : State :=
  (s.onTable fun t => { t with timer := none, stale := true }).give (s.note .switchTableStale)

/-- The stop moves the table and gives a notice. -/
theorem State.timerStopped_eq (s : State) : s.timerStopped = { s with
    table := { s.table with timer := none, stale := true }, given := s.given ++ [s.note .switchTableStale] } := rfl

/-- The ports go stale one after another, and the change is handed on. -/
theorem State.tableStale_moved (s : State) (c : HallConfig) :
    ∃ t, s.tableStale c = t.handOn ∧ State.PortsMoved c (fun _ => Port.staled) (List.finRange 16) s.timerStopped t :=
  ⟨(List.finRange 16).foldl (fun x p => x.stalePort c p) s.timerStopped, by rw [State.tableStale, State.timerStopped],
    .foldl (fun x p => x.stalePort_moved c p) (List.nodup_finRange 16) _⟩

/-- A boundary that has come clears the counts of every port's interval (R133). -/
theorem State.exec_intervalBoundary {s : State} (due : s.table.intervalStart + 10000000 ≤ s.time.localTime) :
    exec .intervalBoundary s = .next { s with
      ports := s.ports.mapFin fun _ r => r.boundary
      table := { s.table with intervalStart := s.table.intervalStart + 10000000 } } :=
  if_pos (decide_eq_true due)

/-- A silence that has lasted returns the port to ACTIVE (R136). -/
theorem State.exec_silenceExpiry {s : State} {c : HallConfig} {p : Fin 16} {b : Nat} (config : s.config = some c)
    (listens : (s.ports.get p).state = .listen) (runs : (s.ports.get p).silence = some b)
    (due : b + (c.ports.get p).silence * 1000000 ≤ s.time.localTime) :
    exec (.silenceExpiry p) s = .next (s.movePort c p .active .silence).handOn.settle := by
  simp [exec, execSilenceExpiry, config, State.silenceDue, listens, runs, timerDue, ms, due]

/-- A table that has not come for 1 s goes stale (R130). -/
theorem State.exec_tableTimerExpiry {s : State} {c : HallConfig} {b : Nat} (config : s.config = some c)
    (runs : s.table.timer = some b) (due : b + 1000000000 ≤ s.time.localTime) :
    exec .tableTimerExpiry s = .next (s.tableStale c).settle := by
  simp [exec, execTableTimerExpiry, config, runs, timerDue, ms, due]

/-- Settles O53: every port goes stale in turn and the change is handed on; a boundary clears each record; a silent port enters
ACTIVE. -/
theorem portTimersExpire : Obligations.PortTimersExpire := by
  intro s c b config
  refine ⟨fun runs due => ?_, fun due => ?_, fun p listens runs due => ?_⟩
  · have answer := State.exec_tableTimerExpiry config runs due
    have before := s.timerStopped_eq
    obtain ⟨t, stale, moved⟩ := s.tableStale_moved c
    rw [stale] at answer
    have gives := moved.gives rfl before rfl
    refine ⟨_, answer, ?_, fun p => ?_, moved.discards before, gives, moved.leaves before⟩
    · rw [State.settle_table, State.handOn_table, moved.frame, before]
    · rw [State.settle_ports, State.handOn_ports, moved.records p (List.mem_finRange p), before, Port.staled_eq]
      rfl
  · refine ⟨_, State.exec_intervalBoundary due, rfl, fun p => ?_, rfl⟩
    exact Table.get_mapFin _ _ p
  · have moved : State.PortsMoved c (fun _ r => r.activated .silence) [p] s (s.movePort c p .active .silence) :=
      .of_movePort s c (by rw [listens]; nofun) (Port.enter_active _ _ _)
    have stands := s.movePort_of_up c p (new := .active) nofun .silence
    refine ⟨_, State.exec_silenceExpiry config listens runs due, ?_, fun q other => ?_, ?_, ?_, ?_⟩
    · rw [State.settle_ports, State.handOn_ports, moved.records p List.mem_cons_self]
      rfl
    · rw [State.settle_ports, State.handOn_ports, State.movePort_other s c _ _ other]
    · have handed : s.Handed (s.movePort c p .active .silence).handOn :=
        State.handed_of_handOn (congrArg State.robots stands :) (congrArg State.lineHold stands :)
      exact ⟨handed.robots, handed.latched⟩
    · exact moved.gives (own := []) moved.one (by rw [List.append_nil]) rfl
    · rw [State.handOn_eq, stands]
      cases s
      rfl

end Sys2Proof.Machine
end

section
/-! SUPPORT. A transaction as it is presented (R144): forwarded ones join those not yet answered, and a refused one is answered at
once when none of its source is before it. -/

namespace Sys2Proof.Machine

/-- While the oldest transaction of a tag is not refused, none of the tag is answered. -/
theorem drain_of_oldest {tag : Fin 32} {fs : List Flight}
    (kept : ∀ f, oldestIn tag fs = some f → f.treatment ≠ .denied) : drain tag fs = (fs, []) := by
  induction fs with
  | nil => rfl
  | cons f fs ih =>
    rw [drain_cons]
    cases mine : f.isOf tag with
    | false =>
      have rest := ih fun g old => kept g ((List.find?_cons_of_neg (p := Flight.isOf tag) (by simp [mine])).trans old)
      simp [rest]
    | true =>
      have waits : f.refused = false := decide_eq_false (kept f (List.find?_cons_of_pos (p := Flight.isOf tag) mine))
      simp [waits]

/-- A refused transaction of a tag that has no other is answered. -/
theorem drain_alone {tag : Fin 32} {fs : List Flight} {f : Flight} (absent : oldestIn tag fs = none) (mine : f.txn.tag = tag)
    (refused : f.treatment = .denied) : drain tag (fs ++ [f]) = (fs, [deniedReply f.txn]) := by
  have others : ∀ g ∈ fs, g.isOf tag = false := fun g mem => by
    simpa using List.find?_eq_none.1 (show fs.find? (Flight.isOf tag) = none from absent) g mem
  clear absent
  induction fs with
  | nil => simp [drain, mine, Flight.refused, refused]
  | cons g fs ih =>
    have rest := ih fun h mem => others h (List.mem_cons_of_mem _ mem)
    rw [List.cons_append, drain_cons, others g List.mem_cons_self, rest]
    rfl

namespace Path

variable {p : Path}

/-- The oldest of a tag stays the oldest when another joins. -/
theorem oldest_join {f g : Flight} {tag : Fin 32} (oldest : oldestIn tag (p.flights ++ [f]) = some g) :
    p.oldest tag = some g ∨ (p.oldest tag = none ∧ g = f) := by
  have joined : (p.oldest tag).or (oldestIn tag [f]) = some g := List.find?_append.symm.trans oldest
  cases before : p.oldest tag with
  | some h => exact .inl (by rwa [before] at joined)
  | none =>
    rw [before, Option.none_or] at joined
    exact .inr ⟨rfl, List.mem_singleton.1 (List.mem_of_find?_eq_some joined)⟩

/-- A transaction that is not refused joins (R144). -/
theorem enter_kept (ordered : p.Ordered) {f : Flight} (kept : f.treatment ≠ .denied) :
    p.enter f = { p with flights := p.flights ++ [f] } := by
  have stands : drain f.txn.tag (p.flights ++ [f]) = (p.flights ++ [f], []) := drain_of_oldest fun g oldest => by
    rcases oldest_join oldest with before | ⟨-, rfl⟩
    · exact ordered _ g before
    · exact kept
  rw [enter, stands, List.append_nil]

/-- A refused one is answered when none of its source is before it, and joins otherwise (R144). -/
theorem enter_refused (ordered : p.Ordered) (x : Txn) :
    p.enter { txn := x, treatment := .denied, stage := .held } =
      if p.oldest x.tag = none then { p with responses := p.responses ++ [deniedReply x] }
      else { p with flights := p.flights ++ [{ txn := x, treatment := .denied, stage := .held }] } := by
  split
  · next alone => rw [enter, drain_alone alone rfl rfl]
  · next behind =>
    rw [enter, drain_of_oldest fun g oldest => ?_, List.append_nil]
    rcases oldest_join oldest with before | ⟨alone, -⟩
    · exact ordered _ g before
    · exact absurd alone behind

end Path

namespace State

/-- The end of a step leaves the path but for the own queue, which stood before. -/
theorem settle_path_of {s a : State} (own : a.path.ownQueue = s.path.ownQueue) :
    { a.settle.path with ownQueue := s.path.ownQueue } = a.path := by
  rw [← own]
  exact a.settle_path

/-- A denial that no port counts is counted with the others (R145). -/
theorem countDenial_unported {s : State} {tag : Fin 32} (unported : s.config = none ∨ tagPort tag = none) :
    s.countDenial tag = s.onPath fun h => { h with otherDenied := satAdd 16 h.otherDenied 1 } := by
  rcases unported with config | other
  · simp only [countDenial, config]
  · exact s.countDenial_other other

end State

end Sys2Proof.Machine
end

section
/-! UPSTREAM_TRANSACTION of the management agent, of tags 18 to 31, and of every source while UNCONFIGURED (O48). -/

namespace Sys2Proof.Machine

/-- The form of a transaction (R143). -/
theorem formed_iff (x : Txn) :
    x.formed = true ↔ x.start % 8 = 0 ∧ 1 ≤ x.length ∧ x.start % 128 + 8 * x.length ≤ 128 := by
  simp only [Txn.formed, Bool.and_eq_true, decide_eq_true_eq, and_assoc]
  rfl

/-- The tags out of 1 to 16 are no port's (R145). -/
theorem tagPort_none {tag : Fin 32} (out : tag = processorTag ∨ 17 ≤ tag.val) : tagPort tag = none := by
  have range : ¬ (1 ≤ tag.val ∧ tag.val ≤ 16) := by
    rcases out with rfl | high
    · decide
    · omega
  rw [tagPort, portNumber, dif_neg range]

/-- While UNCONFIGURED no window governs an address (R153). -/
theorem matchedIn_unused (a : Nat) : matchedIn (Table.replicate 32 Window.unused) a = none := by
  have unused : ∀ i : Fin 32, ((Table.replicate 32 Window.unused).get i).holds a = false := fun i => by
    rw [Table.get_replicate]
    rfl
  rw [matchedIn, List.find?_eq_none.2 fun i _ => Bool.eq_false_iff.1 (unused i), Option.map_none]

/-- The window that governs an address is the one of the lowest-numbered entry that does (R146). -/
theorem HallConfig.matched_eq (c : HallConfig) (a : Nat) : c.matched a = (c.windowAt a).map fun i => (i, c.windows.get i) := rfl

namespace State

variable {s : State} {x : Txn}

/-- The image region (R155). -/
theorem inImage_iff (s : State) (a : Nat) :
    s.inImage a = true ↔ s.cfgBase.toNat * 2 ^ 24 ≤ a ∧ a < s.cfgBase.toNat * 2 ^ 24 + 16384 := by
  simp [inImage]

/-- The processor's treatment while UNCONFIGURED (R153). -/
theorem processorTreatment_unconfigured (config : s.config = none) :
    s.processorTreatment x = if s.inImage x.start = true ∧ x.isWrite = true then .image else .plain := by
  simp only [processorTreatment, windowTable, config, matchedIn_unused, Txn.imageTreatment]
  cases s.inImage x.start <;> cases x.isWrite <;> rfl

/-- A transaction that no port presents, but for one that the agent's own window governs, moves the path alone. -/
theorem refuse_unported (unported : s.config = none ∨ tagPort x.tag = none) :
    s.refuse x = s.onPath fun p =>
      ({ p with otherDenied := satAdd 16 p.otherDenied 1 } : Path).enter { txn := x, treatment := .denied, stage := .held } := by
  rw [refuse, countDenial_unported unported]
  rfl

/-- A refusal that no port counts: what it leaves, and the path (R144, R145). -/
theorem refuse_settles (ordered : s.path.Ordered) (unported : s.config = none ∨ tagPort x.tag = none) (level : Bool) :
    let t := (refuse { s with observeAll := level } x).settle
    let counted := { s.path with otherDenied := min 65535 (s.path.otherDenied + 1) }
    { t.unsettled s with observeAll := s.observeAll, path := s.path } = s ∧
      { t.path with ownQueue := s.path.ownQueue } =
        if s.path.oldest x.tag = none then { counted with responses := s.path.responses ++ [deniedReply x] }
        else { counted with flights := s.path.flights ++ [{ txn := x, treatment := .denied, stage := .held }] } := by
  rw [refuse_unported (s := { s with observeAll := level }) unported]
  refine ⟨rfl, (settle_path_of rfl).trans ?_⟩
  exact Path.enter_refused (p := { s.path with otherDenied := min 65535 (s.path.otherDenied + 1) }) ordered x

/-- A forwarded transaction joins those not yet answered (R144). -/
theorem forward_settles (ordered : s.path.Ordered) {how : Treatment} (allowed : how ≠ .denied) :
    { (s.forward x how).settle.path with ownQueue := s.path.ownQueue } =
      { s.path with flights := s.path.flights ++ [{ txn := x, treatment := how, stage := .waiting }] } :=
  (settle_path_of rfl).trans (Path.enter_kept (f := { txn := x, treatment := how, stage := .waiting }) ordered allowed)

/-- What no port presents moves the path and the table's fragments alone. -/
theorem presents_moves (unported : tagPort x.tag = none) (c : HallConfig) :
    ∃ path table, s.presents c x = { s with path := path, table := table } := by
  have refused : ∃ path table, s.refuse x = { s with path := path, table := table } :=
    ⟨_, _, refuse_unported (.inr unported)⟩
  have treated : ∀ how, ∃ path table, s.treat x how = { s with path := path, table := table } := fun how => by
    cases how with
    | denied => exact refused
    | view | plain | image | observed | substituted => exact ⟨_, _, rfl⟩
  simp only [presents, unported, agentPresents]
  repeat' split
  · exact treated _
  · exact treated _
  · exact refused
  · exact ⟨_, _, rfl⟩
  · exact ⟨_, _, rfl⟩
  · exact ⟨_, _, rfl⟩
  · exact ⟨_, _, rfl⟩
  all_goals exact refused

/-- What is presented while UNCONFIGURED moves the path alone (R153). -/
theorem presentsUnconfigured_moves (config : s.config = none) : ∃ path, s.presentsUnconfigured x = { s with path := path } := by
  unfold presentsUnconfigured
  split
  · rw [processorTreatment_unconfigured config]
    split <;> exact ⟨_, rfl⟩
  · exact ⟨_, refuse_unported (.inl config)⟩

/-! ## The management agent -/

/-- Its transaction in the SWITCHTABLE window is forwarded, and a write of part of the table counted (R147, R148). -/
theorem agentPresents_window {c : HallConfig} {i : Fin 32} (formed : x.formed = true) (outside : s.inImage x.start = false)
    (governs : c.windowAt x.start = some i) (kind : (c.windows.get i).kind = .switchTable) :
    s.agentPresents c x =
      (if x.partialTable then s.onTable fun t => { t with fragments := satAdd 16 t.fragments 1 } else s).forward x
        (if x.isWrite then .observed i (c.windows.get i) else .plain) := by
  simp only [agentPresents, formed, outside, HallConfig.matched_eq, governs, Option.map_some, kind, Bool.not_true, Bool.or_self,
    Bool.false_eq_true, if_false, if_true]

/-- Outside that window it is refused (R147). -/
theorem agentPresents_refuses {c : HallConfig} (elsewhere : ∀ i, c.windowAt x.start = some i → (c.windows.get i).kind ≠ .switchTable) :
    s.agentPresents c x = s.refuse x := by
  unfold agentPresents
  split
  · rfl
  · rw [HallConfig.matched_eq]
    cases governs : c.windowAt x.start with
    | none => rfl
    | some i => simp only [Option.map_some, if_neg (elsewhere i governs)]

/-- A write of part of the table (R148). -/
theorem partialTable_iff (x : Txn) :
    x.partialTable = true ↔ x.isWrite = true ∧ writtenBlock x.written (x.start % 128) 0 16 = none := by
  simp only [Txn.partialTable, Bool.and_eq_true, Option.isNone_iff_eq_none]
  rfl

end State

/-- Settles O48: what no port presents moves the path, and the table's fragments when the agent writes part of the table. -/
theorem otherSourcesTreated : Obligations.OtherSourcesTreated := by
  intro x level s ordered base inImage formed
  have form : x.formed = true ↔ formed := formed_iff x
  have image : State.inImage { s with observeAll := level } x.start = true ↔ inImage := State.inImage_iff _ _
  cases config : s.config with
  | none =>
    have answer : exec (.upstreamTransaction x level) s =
        .next (State.presentsUnconfigured { s with observeAll := level } x).settle := by
      simp only [exec, execUpstreamTransaction, config]
    have refused := State.refuse_settles (x := x) ordered (.inl config) level
    refine ⟨_, answer, fun _ => ?_, fun _ other => ?_, fun _ mine wellFormed => ?_, nofun, nofun⟩
    · obtain ⟨path, moved⟩ := State.presentsUnconfigured_moves (s := { s with observeAll := level }) (x := x) config
      rw [moved]
      exact State.settle_givesOnly rfl rfl (List.append_nil _).symm
    · rw [State.presentsUnconfigured, if_neg fun mine => other mine.1]
      exact refused
    · rw [State.presentsUnconfigured, if_pos ⟨mine, form.2 wellFormed⟩,
        State.processorTreatment_unconfigured (s := { s with observeAll := level }) config]
      simp only [image]
      split
      · exact ⟨State.forward_settles (s := { s with observeAll := level }) ordered nofun, rfl⟩
      · exact ⟨State.forward_settles (s := { s with observeAll := level }) ordered nofun, rfl⟩
  | some c =>
    have answer : exec (.upstreamTransaction x level) s = .next (State.presents { s with observeAll := level } c x).settle := by
      simp only [exec, execUpstreamTransaction, config]
    refine ⟨_, answer, fun out => ?_, nofun, nofun, fun c' same high => ?_, fun c' same agent => ?_⟩
    · obtain ⟨path, table, moved⟩ := State.presents_moves (s := { s with observeAll := level }) (tagPort_none out) c
      rw [moved]
      exact State.settle_givesOnly rfl rfl (List.append_nil _).symm
    · have unported := tagPort_none (tag := x.tag) (.inr (by omega))
      have other : x.tag ≠ processorTag := fun mine => by simp [mine, processorTag] at high
      have foreign : x.tag ≠ agentTag := fun mine => by simp [mine, agentTag] at high
      simp only [State.presents, if_neg other, unported, if_neg foreign]
      exact State.refuse_settles ordered (.inr unported) level
    · cases same
      have unported := tagPort_none (tag := x.tag) (.inr (by omega))
      have other : x.tag ≠ processorTag := fun mine => by simp [mine, processorTag] at agent
      have mine : x.tag = agentTag := Fin.ext agent
      simp only [State.presents, if_neg other, unported, if_pos mine]
      refine ⟨fun i wellFormed outside governs kind => ?_, fun elsewhere => ?_⟩
      · have shut : State.inImage { s with observeAll := level } x.start = false := Bool.eq_false_iff.2 (outside ∘ image.1)
        have allowed : (if x.isWrite then Treatment.observed i (c.windows.get i) else .plain) ≠ .denied := by split <;> nofun
        rw [State.agentPresents_window (form.2 wellFormed) shut governs kind]
        simp only [← State.partialTable_iff]
        split
        · exact ⟨State.forward_settles (s := { s with observeAll := level, table := _ }) ordered allowed, rfl, rfl⟩
        · exact ⟨State.forward_settles (s := { s with observeAll := level }) ordered allowed, rfl, rfl⟩
      · rw [State.agentPresents_refuses elsewhere]
        exact State.refuse_settles ordered (.inr unported) level

end Sys2Proof.Machine
end

section
/-! SUPPORT. What judging a transaction makes of its port (R132 to R139): the record, the notices, and what stands. -/

namespace Sys2Proof.Machine

/-! ## The record -/

/-- A record with one denial more (R132). -/
def Port.deny (r : Port) : Port :=
  { r with denied := satAdd 16 r.denied 1 }

/-- A record in LISTEN whose silence timer a write attempt restarts at `now` (R136). -/
def Port.attempt (r : Port) (now : Nat) : Port :=
  if r.state = .listen then { r with silence := some now } else r

/-- A record that enters LISTEN for this reason at `now`, or LOCKED at the third entry within 60 s (R137). -/
def Port.quarantined (r : Port) (reason : PortReason) (now : Nat) : Port :=
  if locksOut (historyAdd r.history now) then
    { r with history := historyAdd r.history now, state := .locked, reason := .lockout, silence := none }
  else { r with history := historyAdd r.history now, state := .listen, reason := reason, silence := some now }

/-- A record after a violation (R134, R137, R139). -/
def Port.violated (r : Port) (observing : Bool) (limit now : Nat) : Port :=
  if r.state = .active then
    if observing then
      if reportsViolation r.violate.intervalViolations limit then { r.violate with wouldQuarantine := true } else r.violate
    else if limit ≤ r.violate.intervalViolations then r.violate.quarantined .violation now
    else r.violate
  else r.violate

/-- A record after the budget test of a write of `w` words (R135, R137, R139). -/
def Port.charged (r : Port) (observing : Bool) (budget w now : Nat) : Port :=
  if r.intervalWords + w ≤ budget then r.addWords w
  else if observing then { r.overrun.addWords w with wouldQuarantine := true }
  else r.overrun.quarantined .budget now

/-- The history with the entry at `now` locks the port out when it holds 3 entries, the oldest at most 60 s old (R137). -/
theorem locksOut_historyAdd (history : List Nat) (now : Nat) :
    locksOut (historyAdd history now) = true ↔
      (historyAdd history now).length = 3 ∧ ∀ b, (historyAdd history now).head? = some b → now ≤ b + 60000000000 := by
  have length : ms 60000 = 60000000000 := rfl
  have newest : ∀ kept : List Nat, locksOut (kept ++ [now]) = true ↔
      (kept ++ [now]).length = 3 ∧ ∀ b, (kept ++ [now]).head? = some b → now ≤ b + 60000000000 := fun kept => by
    match kept with
    | [] => simp [locksOut]
    | [_] => simp [locksOut]
    | [_, _] => simp [locksOut, length]
    | _ :: _ :: _ :: _ => simp [locksOut]
  exact newest _

/-! ## The judgement -/

/-- WOULD_QUARANTINE of port `p`, if its flag comes to be set (R139). -/
def State.warning (s : State) (p : Fin 16) (reason : PortReason) (before after : Port) : List Notice :=
  if after.wouldQuarantine && !before.wouldQuarantine then
    [{ s.note .wouldQuarantine with subject := p.val + 1, code := reason.code, detail := detailNat after.intervalWords }]
  else []

/-- A flag that stands gives no notice. -/
theorem State.warning_none (s : State) (p : Fin 16) (reason : PortReason) {before after : Port}
    (same : after.wouldQuarantine = before.wouldQuarantine) : s.warning p reason before after = [] := by
  rw [warning, same]
  cases before.wouldQuarantine <;> rfl

/-- From `s` to `t` the conduct of port `p` is judged, which leaves it with the record `r`; a change of its state is handed on. -/
structure State.PortJudged (s t : State) (p : Fin 16) (reason : PortReason) (r : Port) : Prop where
  /-- The port's record. -/
  record : t.ports.get p = r
  /-- The other ports stand. -/
  others : ∀ q, q ≠ p → t.ports.get q = s.ports.get q
  /-- The robots' own records and the latched causes stand. -/
  handed : s.Handed t
  /-- The notices that are not handed on (R131, R139). -/
  notices : t.given.filter (fun n => !n.handed) =
    s.given.filter (fun n => !n.handed) ++ s.warning p reason (s.ports.get p) r ++ s.portNotices t
  /-- Everything else stands. -/
  frame : t = { s with given := t.given, ports := t.ports, lineHold := t.lineHold, robots := t.robots }

namespace State.PortJudged

variable {s t : State} {p : Fin 16} {reason : PortReason} {r : Port}

/-- Two events that leave all but the notices, the ports, the line-hold set and the robots leave all but them. -/
theorem frame_trans {a : State}
    (first : a = { s with given := a.given, ports := a.ports, lineHold := a.lineHold, robots := a.robots })
    (second : t = { a with given := t.given, ports := t.ports, lineHold := t.lineHold, robots := t.robots }) :
    t = { s with given := t.given, ports := t.ports, lineHold := t.lineHold, robots := t.robots } :=
  calc t = _ := second
    _ = _ := by rw [first]

/-- A record that keeps its state keeps every port's. -/
theorem states (h : s.PortJudged t p reason r) (same : r.state = (s.ports.get p).state) (q : Fin 16) :
    (t.ports.get q).state = (s.ports.get q).state := by
  by_cases mine : q = p
  · rw [mine, h.record, same]
  · rw [h.others q mine]

/-- Only the record is counted in. -/
theorem of_onPort (s : State) (p : Fin 16) (reason : PortReason) {f : Port → Port}
    (state : (f (s.ports.get p)).state = (s.ports.get p).state)
    (warned : (f (s.ports.get p)).wouldQuarantine = (s.ports.get p).wouldQuarantine) :
    s.PortJudged (s.onPort p f) p reason (f (s.ports.get p)) where
  record := Table.get_modify_self _ _ _
  others _ other := Table.get_modify_ne _ _ other
  handed := ⟨fun _ => rfl, fun _ _ _ => rfl⟩
  notices := by
    have states : ∀ q, ((s.onPort p f).ports.get q).state = (s.ports.get q).state := fun q => by
      rw [onPort_ports, Table.get_modify]
      split
      · next mine => rw [mine, state]
      · rfl
    rw [s.warning_none p reason warned, portNotices_of_states states, List.append_nil, List.append_nil]
    rfl
  frame := rfl

/-- Nothing happens to a port. -/
theorem refl (s : State) (p : Fin 16) (reason : PortReason) : s.PortJudged s p reason (s.ports.get p) := by
  simpa [State.onPort] using of_onPort s p reason (f := fun k => k) rfl rfl

/-- A record that changes but for its state and reason gives no notice of its port. -/
theorem portNotices_onPort (s t : State) {p : Fin 16} {f : Port → Port} (state : ∀ k, (f k).state = k.state)
    (reported : ∀ k, (f k).reason = k.reason) : s.portNotices (t.onPort p f) = s.portNotices t := by
  have reasons : ∀ q, ((t.onPort p f).ports.get q).reason = (t.ports.get q).reason := fun q => by
    rw [onPort_ports, Table.get_modify]
    split
    · exact reported _
    · rfl
  simp only [portNotices, t.onPort_state state, reasons]

/-- The record changes again, in what gives no notice. -/
theorem onPort (h : s.PortJudged t p reason r) {f : Port → Port} (state : ∀ k, (f k).state = k.state)
    (reported : ∀ k, (f k).reason = k.reason)
    (warned : s.warning p reason (s.ports.get p) (f r) = s.warning p reason (s.ports.get p) r) :
    s.PortJudged (t.onPort p f) p reason (f r) where
  record := by rw [onPort_ports, Table.get_modify_self, h.record]
  others q other := (Table.get_modify_ne _ _ other).trans (h.others q other)
  handed := ⟨h.handed.robots, h.handed.latched⟩
  notices := by
    rw [warned, portNotices_onPort s t state reported]
    exact h.notices
  frame := frame_trans h.frame rfl

/-- WOULD_QUARANTINE is given at the first misconduct of an interval (R139). -/
theorem warns (h : s.PortJudged t p reason r) (state : r.state = (s.ports.get p).state)
    (flag : r.wouldQuarantine = (s.ports.get p).wouldQuarantine) :
    s.PortJudged (t.wouldQuarantine p reason) p reason { r with wouldQuarantine := true } := by
  have record := h.record
  cases set : r.wouldQuarantine with
  | true =>
    have stands : t.wouldQuarantine p reason = t := by rw [State.wouldQuarantine, record, if_pos set]
    have same : { r with wouldQuarantine := true } = r := by rw [← set]
    rwa [stands, same]
  | false =>
    let raised (k : Port) : Port := { k with wouldQuarantine := true }
    have warning : s.warning p reason (s.ports.get p) (raised r) =
        [{ s.note .wouldQuarantine with subject := p.val + 1, code := reason.code, detail := detailNat r.intervalWords }] := by
      rw [State.warning, ← flag, set]
      rfl
    have gives : t.wouldQuarantine p reason = (t.onPort p raised).give
        { s.note .wouldQuarantine with subject := p.val + 1, code := reason.code, detail := detailNat r.intervalWords } := by
      rw [State.wouldQuarantine, record, if_neg (by simp [set]), note, note, congrArg State.time h.frame]
      rfl
    rw [gives]
    refine ⟨?_, fun q other => (Table.get_modify_ne _ _ other).trans (h.others q other),
      ⟨h.handed.robots, h.handed.latched⟩, ?_, ?_⟩
    · exact (Table.get_modify_self _ _ _).trans (congrArg raised record)
    · have ports : s.portNotices ((t.onPort p raised).give { s.note .wouldQuarantine with
          subject := p.val + 1, code := reason.code, detail := detailNat r.intervalWords }) = s.portNotices t :=
        portNotices_onPort s t (fun _ => rfl) fun _ => rfl
      have given := h.notices
      rw [s.warning_none p reason flag, portNotices_of_states (h.states state), List.append_nil, List.append_nil] at given
      rw [ports, portNotices_of_states (h.states state), warning, List.append_nil]
      exact (List.filter_append ..).trans (congrArg (· ++ _) given)
    · exact frame_trans h.frame rfl

/-- The port enters LISTEN or LOCKED, which is handed on (R131, R140). -/
theorem moves (h : s.PortJudged t p reason r) (same : r.state = (s.ports.get p).state)
    (flag : r.wouldQuarantine = (s.ports.get p).wouldQuarantine) {new : PortState} (quarantine : new = .listen ∨ new = .locked)
    (changes : new ≠ r.state) (c : HallConfig) (why : PortReason) :
    s.PortJudged (t.movePort c p new why).handOn p reason (r.enter new why s.time.localTime) := by
  have time : t.time = s.time := (congrArg State.time h.frame :)
  have states := h.states same
  have active : new ≠ .active := by rcases quarantine with rfl | rfl <;> decide
  have down : new ≠ .down := by rcases quarantine with rfl | rfl <;> decide
  have moved := t.movePort_of_up c p down why
  have handed : t.Handed (t.movePort c p new why).handOn :=
    handed_of_handOn (congrArg State.robots moved :) (congrArg State.lineHold moved :)
  have stays : (r.enter new why s.time.localTime).wouldQuarantine = (s.ports.get p).wouldQuarantine :=
    (if_neg active).trans flag
  have kept : s.portNotices t = [] := portNotices_of_states states
  refine ⟨?_, fun q other => ?_, ⟨fun u => (handed.robots u).trans (h.handed.robots u), fun g k hk =>
    (handed.latched g k hk).trans (h.handed.latched g k hk)⟩, ?_, ?_⟩
  · rw [handOn_ports, movePort_self, h.record, time]
  · rw [handOn_ports, t.movePort_other c new why other, h.others q other]
  · have own : s.portNotices (t.movePort c p new why).handOn = t.portNotices (t.movePort c p new why) := by
      simp only [portNotices, states, handOn_ports, note, time]
    have given := h.notices
    rw [s.warning_none p reason flag, kept, List.append_nil, List.append_nil] at given
    rw [handOn_gives, t.movePort_given c why (by rwa [h.record]), List.filter_append, portNotices_filter, given, own,
      s.warning_none p reason stays, List.append_nil]
  · have entered : t.movePort c p new why = { t with
        given := (t.movePort c p new why).given, ports := (t.movePort c p new why).ports
        lineHold := (t.movePort c p new why).lineHold, robots := (t.movePort c p new why).robots } := by
      simp only [movePort, if_neg down]
      rfl
    exact frame_trans (frame_trans h.frame entered) ((handOn_eq _).trans (by rw [← handOn_ports]))

/-- A port in ACTIVE goes to LISTEN, or to LOCKED at the third entry within 60 s (R137). -/
theorem listens (h : s.PortJudged t p reason r) (state : r.state = .active) (before : (s.ports.get p).state = .active)
    (flag : r.wouldQuarantine = (s.ports.get p).wouldQuarantine) (c : HallConfig) (why : PortReason) :
    s.PortJudged (t.enterListen c p why) p reason (r.quarantined why s.time.localTime) := by
  have time : t.time = s.time := (congrArg State.time h.frame :)
  have entered := h.onPort (f := fun k => { k with history := historyAdd r.history s.time.localTime })
    (fun _ => rfl) (fun _ => rfl) rfl
  have moved {new : PortState} (quarantine : new = .listen ∨ new = .locked) (why : PortReason) :=
    entered.moves (state.trans before.symm) flag quarantine
      (show new ≠ r.state by rcases quarantine with rfl | rfl <;> simp [state]) c why
  rw [enterListen, Port.quarantined, h.record, time]
  split
  · exact moved (.inr rfl) .lockout
  · exact moved (.inl rfl) why

end State.PortJudged

/-! ## The rules -/

namespace State

variable (s : State) (c : HallConfig) (p : Fin 16)

/-- A violation is counted, and in ACTIVE may bring a warning, LISTEN or LOCKED (R134, R137, R139). -/
theorem violation_judged : s.PortJudged (s.violation c p) p .violation
    ((s.ports.get p).violated (s.observing c p) (c.ports.get p).limit s.time.localTime) := by
  have counted : s.PortJudged (s.onPort p Port.violate) p .violation (s.ports.get p).violate := .of_onPort s p _ rfl rfl
  have observing : (s.onPort p Port.violate).observing c p = s.observing c p := rfl
  simp only [violation, Port.violated, counted.record, observing]
  by_cases active : (s.ports.get p).state = .active
  · have active' : (s.ports.get p).violate.state = .active := active
    rw [if_pos active, if_pos active']
    split
    · split
      · exact counted.warns rfl rfl
      · exact counted
    · split
      · exact counted.listens active active rfl c .violation
      · exact counted
  · have idle : (s.ports.get p).violate.state ≠ .active := active
    rw [if_neg active, if_neg idle]
    exact counted

/-- A write that the rights allow is charged to its port in ACTIVE (R135, R137, R139). -/
theorem chargeBudget_judged (w : Nat) (active : (s.ports.get p).state = .active) : s.PortJudged (s.chargeBudget c p w) p .budget
    ((s.ports.get p).charged (s.observing c p) (c.ports.get p).budget w s.time.localTime) := by
  simp only [chargeBudget, withinBudget, decide_eq_true_eq, Port.charged]
  split
  · exact .of_onPort s p _ rfl rfl
  · split
    · exact (PortJudged.of_onPort s p .budget (f := fun r => r.overrun.addWords w) rfl rfl).warns rfl rfl
    · exact (PortJudged.of_onPort s p .budget (f := Port.overrun) rfl rfl).listens active active rfl c .budget

/-- A write attempt of a port (R136). -/
theorem writeAttempt_judged (reason : PortReason) : s.PortJudged (s.writeAttempt p) p reason
    ((s.ports.get p).attempt s.time.localTime) := by
  rw [writeAttempt, Port.attempt]
  split
  · exact .of_onPort s p reason (f := fun r => { r with silence := some s.time.localTime }) rfl rfl
  · exact .refl s p reason

end State

end Sys2Proof.Machine
end

section
/-! SUPPORT. A transaction of a switch port as it is presented (R132 to R139, R148): which rule it falls under, and what the step
leaves. -/

namespace Sys2Proof.Machine

/-! ## Fragments (R148) -/

/-- A block that a write covers is one that it touches. -/
theorem writtenBlock_touches {ws : List WriteWord} {off o : Nat} (covered : writtenBlock ws off o 8 ≠ none) :
    off < o + 64 ∧ o < off + 8 * ws.length := by
  obtain ⟨b, block⟩ := Option.ne_none_iff_exists'.1 covered
  obtain ⟨vs, length, -, words⟩ := writtenBlock_iff.1 block
  obtain ⟨after, w, word, -, -⟩ := writtenWord_iff.1 (words 0 vs[0] (List.getElem?_eq_getElem (by omega)))
  have within := (List.getElem?_eq_some_iff.1 word).1
  omega

/-- Of the elements that a test picks, those without a value are left over when every element with one is picked. -/
theorem length_filter_eq_add {α β : Type} {g : α → Option β} {t : α → Bool} (picked : ∀ a, g a ≠ none → t a = true)
    (l : List α) :
    (l.filter t).length = (l.filterMap g).length + (l.filter fun a => t a && (g a).isNone).length := by
  induction l with
  | nil => rfl
  | cons a l ih =>
    cases value : g a with
    | none => cases test : t a <;> simp [value, test, ih, Nat.add_assoc]
    | some b => simp [value, picked a (by simp [value]), ih, Nat.add_right_comm]

/-- A write has as many words as its length says; a read has none. -/
theorem written_length_le (x : Txn) : x.written.length ≤ x.length := by
  rw [Txn.written, Txn.length]
  cases x.access <;> simp

/-- An observed write leaves a slot uncovered when it touches one without covering it. -/
theorem fragments_iff (x : Txn) (how : Treatment) :
    fragments x how = true ↔ (∃ i w, how = .observed i w) ∧
      ∃ o, (o = 0 ∨ o = 64) ∧ x.start % 128 < o + 64 ∧ o < x.start % 128 + 8 * x.length ∧
        writtenBlock x.written (x.start % 128) o 8 = none := by
  cases how with
  | observed i w =>
    have touches (o : Nat) (covered : writtenBlock x.written x.lineOffset o 8 ≠ none) :
        (decide (x.lineOffset < o + 64) && decide (o < x.lineOffset + 8 * x.length)) = true := by
      have block := writtenBlock_touches covered
      have length := written_length_le x
      simp only [Bool.and_eq_true, decide_eq_true_eq]
      omega
    have left := length_filter_eq_add touches [0, 64]
    have compares : fragments x (.observed i w) = true ↔ x.wholeSlots.length < x.touchedSlots := decide_eq_true_iff
    refine Iff.trans ?_ (and_iff_right ⟨i, w, rfl⟩).symm
    simp only [compares, Txn.wholeSlots, Txn.touchedSlots, left, decide_eq_true_eq, Nat.lt_add_right_iff_pos,
      List.length_filter_pos_iff, List.mem_cons, List.not_mem_nil, or_false, Bool.and_eq_true, Option.isNone_iff_eq_none, and_assoc]
    rfl
  | plain | denied | view | image | substituted => simp [fragments]

/-! ## What the step leaves -/

/-- The path after `x` is refused: it is answered at once unless an earlier one of its tag is not (R144). -/
def Path.refusing (h : Path) (x : Txn) : Path :=
  if h.oldest x.tag = none then { h with responses := h.responses ++ [deniedReply x] }
  else { h with flights := h.flights ++ [{ txn := x, treatment := .denied, stage := .held }] }

/-- The path after `x` is forwarded (R144). -/
def Path.joining (h : Path) (x : Txn) (how : Treatment) : Path :=
  { h with flights := h.flights ++ [{ txn := x, treatment := how, stage := .waiting }] }

/-- From `s` to `u` a transaction of port `p` is presented, which leaves the port with the record `r` and the path as `h`, but for
the own queue. -/
structure State.PortAnswered (s u : State) (level : Bool) (p : Fin 16) (reason : PortReason) (r : Port) (h : Path) : Prop where
  /-- The level that the event brings. -/
  level : u.observeAll = level
  /-- The other ports stand. -/
  others : ∀ q, q ≠ p → u.ports.get q = s.ports.get q
  /-- The robots' own records and the latched causes stand. -/
  handed : s.Handed u
  /-- Everything else stands. -/
  frame : { u.unhanded s with observeAll := s.observeAll, ports := s.ports, path := s.path } = s
  /-- The notices that are not handed on (R131, R139). -/
  notices : s.Gives u (s.warning p reason (s.ports.get p) (u.ports.get p) ++ s.portNotices u)
  /-- The port's record. -/
  record : u.ports.get p = r
  /-- The path. -/
  path : { u.path with ownQueue := s.path.ownQueue } = h

namespace State.PortJudged

variable {s t : State} {level : Bool} {p : Fin 16} {reason : PortReason} {r : Port}

/-- A judgement is the step's, but for what becomes of the transaction. -/
theorem answers (h : State.PortJudged { s with observeAll := level } t p reason r) {f : Path → Path}
    (own : (f s.path).ownQueue = s.path.ownQueue) : s.PortAnswered (t.onPath f).settle level p reason r (f s.path) where
  level := (congrArg State.observeAll h.frame :)
  others := h.others
  handed := ⟨h.handed.robots, h.handed.latched⟩
  frame := by
    rw [h.frame]
    rfl
  notices := by
    have record : (t.onPath f).settle.ports.get p = r := h.record
    rw [record]
    refine settle_notices (congrArg (fun t => t.report.notices) h.frame :) (congrArg (fun t => t.report.dropped) h.frame :)
      fun none => ?_
    have notices := h.notices
    rw [show State.given { s with observeAll := level } = [] from none] at notices
    exact notices
  record := h.record
  path := by
    have stands : t.path = s.path := (congrArg State.path h.frame :)
    have same : (t.onPath f).path = f s.path := congrArg f stands
    rw [← same]
    exact settle_path_of (by rw [same, own])

variable {c : HallConfig} {x : Txn}

/-- The transaction is forwarded. -/
theorem forwards (h : State.PortJudged { s with observeAll := level } t p reason r) (ordered : s.path.Ordered) {how : Treatment}
    (allowed : how ≠ .denied) : s.PortAnswered (t.forward x how).settle level p reason r (s.path.joining x how) := by
  have enters := Path.enter_kept (f := { txn := x, treatment := how, stage := .waiting }) ordered allowed
  have answered := h.answers (f := fun k => k.enter { txn := x, treatment := how, stage := .waiting }) (by rw [enters])
  rwa [enters] at answered

/-- The transaction is refused, which its port counts (R132, R145). -/
theorem refuses (h : State.PortJudged { s with observeAll := level } t p reason r) (ordered : s.path.Ordered)
    (config : s.config = some c) (port : tagPort x.tag = some p) :
    s.PortAnswered (t.refuse x).settle level p reason r.deny (s.path.refusing x) := by
  have counted : t.refuse x =
      (t.onPort p Port.deny).onPath fun k => k.enter { txn := x, treatment := .denied, stage := .held } := by
    rw [refuse, countDenial_port ((congrArg State.config h.frame).trans config) port]
    rfl
  have enters : s.path.enter { txn := x, treatment := .denied, stage := .held } = s.path.refusing x := Path.enter_refused ordered x
  have denies := h.onPort (f := Port.deny) (fun _ => rfl) (fun _ => rfl) rfl
  have answered := denies.answers (f := fun k => k.enter { txn := x, treatment := .denied, stage := .held }) rfl
  rwa [enters, ← counted] at answered

end State.PortJudged

end Sys2Proof.Machine
end

section
/-! UPSTREAM_TRANSACTION of a switch port (O47): the rules it can fall under. -/

namespace Sys2Proof.Machine

/-- A record with one fragment more (R148). -/
def Port.fragmented (r : Port) : Port :=
  { r with fragments := satAdd 16 r.fragments 1 }

/-- The state after a transaction of port `p`. -/
def State.presented (s : State) (level : Bool) (c : HallConfig) (p : Fin 16) (x : Txn) : State :=
  (State.portPresents { s with observeAll := level } c p x).settle

namespace State

variable {s : State} {level : Bool} {c : HallConfig} {p : Fin 16} {x : Txn}

/-- A transaction of port `p` is judged as one of it. -/
theorem exec_upstreamTransaction_port (config : s.config = some c) (port : x.tag.val = p.val + 1) :
    exec (.upstreamTransaction x level) s = .next (s.presented level c p x) := by
  have other : x.tag ≠ processorTag := fun mine => by simp [mine, processorTag] at port
  simp only [exec, execUpstreamTransaction, config, presents, if_neg other, tagPort_of_val port, presented]

/-- A write out of ACTIVE is refused (R132), and is a write attempt (R136). -/
theorem presented_idle (config : s.config = some c) (port : x.tag.val = p.val + 1) (ordered : s.path.Ordered)
    (writes : x.isWrite = true) (idle : (s.ports.get p).state ≠ .active) (reason : PortReason) :
    s.PortAnswered (s.presented level c p x) level p reason ((s.ports.get p).attempt s.time.localTime).deny
      (s.path.refusing x) := by
  have refused : portPresents { s with observeAll := level } c p x = (writeAttempt { s with observeAll := level } p).refuse x := by
    rw [portPresents, if_pos (by simp [writes, idle])]
  rw [presented, refused]
  exact (writeAttempt_judged { s with observeAll := level } p reason).refuses ordered config (tagPort_of_val port)

/-- A transaction without rights is refused and is a violation (R134). -/
theorem presented_denied (config : s.config = some c) (port : x.tag.val = p.val + 1) (ordered : s.path.Ordered)
    (served : x.isWrite = true → (s.ports.get p).state = .active) (denied : s.portTreatment c p x = .denied) :
    s.PortAnswered (s.presented level c p x) level p .violation
      ((s.ports.get p).violated ((c.ports.get p).observe || level) (c.ports.get p).limit s.time.localTime).deny
      (s.path.refusing x) := by
  have treated : portTreatment { s with observeAll := level } c p x = .denied := denied
  have refused : portPresents { s with observeAll := level } c p x = (violation { s with observeAll := level } c p).refuse x := by
    simp only [portPresents, treated]
    exact if_neg (by simpa using served)
  rw [presented, refused]
  exact (violation_judged { s with observeAll := level } c p).refuses ordered config (tagPort_of_val port)

/-- A read that the rights allow is served (R132). -/
theorem presented_read (reads : x.isWrite = false) (allowed : s.portTreatment c p x ≠ .denied) :
    s.presented level c p x = (forward { s with observeAll := level } x (s.portTreatment c p x)).settle := by
  have same : portTreatment { s with observeAll := level } c p x = s.portTreatment c p x := rfl
  simp only [presented, portPresents, same, reads, Bool.false_and, Bool.false_eq_true, if_false]

/-- A write in ACTIVE that the rights allow is judged by the budget (R135). -/
theorem presented_write (writes : x.isWrite = true) (active : (s.ports.get p).state = .active)
    (allowed : s.portTreatment c p x ≠ .denied) :
    s.presented level c p x = (portWrite { s with observeAll := level } c p x (s.portTreatment c p x)).settle := by
  have same : portTreatment { s with observeAll := level } c p x = s.portTreatment c p x := rfl
  simp only [presented, portPresents, same, writes, active, ne_eq, not_true_eq_false, decide_false, Bool.and_false,
    Bool.false_eq_true, if_false, if_true]

/-- The budget test forwards a write within the budget, and every write in observation (R135, R139). -/
theorem budgetAllows_iff (w : Nat) : budgetAllows { s with observeAll := level } c p w = true ↔
    (s.ports.get p).intervalWords + w ≤ (c.ports.get p).budget ∨ ((c.ports.get p).observe || level) = true := by
  rw [budgetAllows, Bool.or_eq_true]
  exact or_congr_left decide_eq_true_iff

/-- A write that the budget test forwards may be a fragment (R148). -/
theorem presented_passed (ordered : s.path.Ordered) (writes : x.isWrite = true) (active : (s.ports.get p).state = .active)
    (allowed : s.portTreatment c p x ≠ .denied)
    (passes : (s.ports.get p).intervalWords + x.length ≤ (c.ports.get p).budget ∨ ((c.ports.get p).observe || level) = true) :
    let r := (s.ports.get p).charged ((c.ports.get p).observe || level) (c.ports.get p).budget x.length s.time.localTime
    s.PortAnswered (s.presented level c p x) level p .budget (if fragments x (s.portTreatment c p x) then r.fragmented else r)
      (s.path.joining x (s.portTreatment c p x)) := by
  have charged := chargeBudget_judged { s with observeAll := level } c p x.length active
  rw [presented_write writes active allowed, portWrite, if_pos (budgetAllows_iff _ |>.2 passes)]
  split
  · exact (charged.onPort (f := Port.fragmented) (fun _ => rfl) (fun _ => rfl) rfl).forwards ordered allowed
  · exact charged.forwards ordered allowed

/-- Past the budget, in enforcement, it is refused (R135). -/
theorem presented_overrun (config : s.config = some c) (port : x.tag.val = p.val + 1) (ordered : s.path.Ordered)
    (writes : x.isWrite = true) (active : (s.ports.get p).state = .active) (allowed : s.portTreatment c p x ≠ .denied)
    (past : ¬ (s.ports.get p).intervalWords + x.length ≤ (c.ports.get p).budget)
    (enforced : ¬ ((c.ports.get p).observe || level) = true) :
    s.PortAnswered (s.presented level c p x) level p .budget
      ((s.ports.get p).charged ((c.ports.get p).observe || level) (c.ports.get p).budget x.length s.time.localTime).deny
      (s.path.refusing x) := by
  have charged := chargeBudget_judged { s with observeAll := level } c p x.length active
  rw [presented_write writes active allowed, portWrite, if_neg (mt (budgetAllows_iff _).1 (not_or.2 ⟨past, enforced⟩))]
  exact charged.refuses ordered config (tagPort_of_val port)

end State

end Sys2Proof.Machine
end

section
/-! UPSTREAM_TRANSACTION of a switch port (O47): the records the rules leave, in the words of the rules, and the statement. -/

namespace Sys2Proof.Machine

namespace Port

variable {r : Port} {observing : Bool} {limit budget w now : Nat} {why : PortReason}

/-- A violation in ACTIVE counts in the interval too (R134). -/
theorem violate_active (active : r.state = .active) : r.violate = { r with
    violations := min 255 (r.violations + 1), intervalViolations := min 255 (r.intervalViolations + 1) } := by
  rw [violate, if_pos active]
  rfl

/-- The limit is compared with the count that the violation makes. -/
theorem violate_intervalViolations (active : r.state = .active) :
    r.violate.intervalViolations = min 255 (r.intervalViolations + 1) :=
  (congrArg intervalViolations (violate_active active) :)

/-- One in another state does not. -/
theorem violated_idle (idle : r.state ≠ .active) :
    r.violated observing limit now = { r with violations := min 255 (r.violations + 1) } := by
  rw [violated, if_neg idle, violate, if_neg idle]
  rfl

/-- In observation a refused violation sets at most the flag, and does at the limit (R139, log 17). -/
theorem violated_observed (active : r.state = .active) (observed : observing = true) :
    { (r.violated observing limit now).deny with wouldQuarantine := r.wouldQuarantine } = r.violate.deny ∧
      (r.wouldQuarantine = true ∨ limit ≤ min 255 (r.intervalViolations + 1) →
        (r.violated observing limit now).deny.wouldQuarantine = true) := by
  rw [violated, violate_intervalViolations active, if_pos active, if_pos observed]
  split
  · exact ⟨rfl, fun _ => rfl⟩
  · next silent =>
    refine ⟨rfl, fun reports => reports.resolve_right fun reaches => silent ?_⟩
    rw [reportsViolation, decide_eq_true reaches, Bool.true_or]

/-- In enforcement a violation short of the limit is counted alone (R134). -/
theorem violated_short (active : r.state = .active) (enforced : ¬ observing = true)
    (short : ¬ limit ≤ min 255 (r.intervalViolations + 1)) : r.violated observing limit now = r.violate := by
  rw [violated, violate_intervalViolations active, if_pos active, if_neg enforced, if_neg short]

/-- At the limit it quarantines (R134, R137). -/
theorem violated_reaching (active : r.state = .active) (enforced : ¬ observing = true)
    (reaches : limit ≤ min 255 (r.intervalViolations + 1)) :
    r.violated observing limit now = r.violate.quarantined .violation now := by
  rw [violated, violate_intervalViolations active, if_pos active, if_neg enforced, if_pos reaches]

/-- A violation leaves the interval words. -/
theorem violated_intervalWords : (r.violated observing limit now).intervalWords = r.intervalWords := by
  unfold violated quarantined
  repeat' split
  all_goals rfl

/-- Three entries within 60 s lock a port out (R137). -/
theorem quarantined_locks (locks : (historyAdd r.history now).length = 3 ∧
      ∀ b, (historyAdd r.history now).head? = some b → now ≤ b + 60000000000) :
    r.quarantined why now =
      { r with history := historyAdd r.history now, state := .locked, reason := .lockout, silence := none } :=
  if_pos ((locksOut_historyAdd _ _).2 locks)

/-- Another entry brings LISTEN (R137). -/
theorem quarantined_opens (opens : ¬ ((historyAdd r.history now).length = 3 ∧
      ∀ b, (historyAdd r.history now).head? = some b → now ≤ b + 60000000000)) :
    r.quarantined why now =
      { r with history := historyAdd r.history now, state := .listen, reason := why, silence := some now } :=
  if_neg (mt (locksOut_historyAdd _ _).1 opens)

/-- A denial and a quarantine are no matter of each other. -/
theorem quarantined_deny : (r.quarantined why now).deny = r.deny.quarantined why now := by
  rw [quarantined, quarantined]
  exact apply_ite deny ..

end Port

/-- A refused write is answered without data (R144). -/
theorem Path.refusing_write {x : Txn} (writes : x.isWrite = true) (h : Path) : h.refusing x =
    if h.oldest x.tag = none then { h with responses := h.responses ++ [{ tag := x.tag, response := .denied, data := [] }] }
    else { h with flights := h.flights ++ [{ txn := x, treatment := .denied, stage := .held }] } := by
  simp only [refusing, deniedReply, writes, if_true]

/-- A refused read is answered with zeros (R144). -/
theorem Path.refusing_read {x : Txn} (reads : x.isWrite = false) (h : Path) : h.refusing x =
    if h.oldest x.tag = none then { h with responses := h.responses ++
      [{ tag := x.tag, response := .denied, data := List.replicate x.length 0 }] }
    else { h with flights := h.flights ++ [{ txn := x, treatment := .denied, stage := .held }] } := by
  simp only [refusing, deniedReply, reads, Bool.false_eq_true, if_false]

/-- A write of a port falls under one of the rules. -/
theorem State.presented_write_answered {s : State} {level : Bool} {c : HallConfig} {p : Fin 16} {x : Txn}
    (config : s.config = some c) (port : x.tag.val = p.val + 1) (ordered : s.path.Ordered) (writes : x.isWrite = true) :
    ∃ r h, s.PortAnswered (s.presented level c p x) level p
      (if s.portTreatment c p x = .denied then .violation else .budget) r h := by
  by_cases active : (s.ports.get p).state = .active
  · by_cases denied : s.portTreatment c p x = .denied
    · rw [if_pos denied]
      exact ⟨_, _, presented_denied config port ordered (fun _ => active) denied⟩
    · rw [if_neg denied]
      by_cases passes : (s.ports.get p).intervalWords + x.length ≤ (c.ports.get p).budget ∨
          ((c.ports.get p).observe || level) = true
      · exact ⟨_, _, presented_passed ordered writes active denied passes⟩
      · obtain ⟨past, enforced⟩ := not_or.1 passes
        exact ⟨_, _, presented_overrun config port ordered writes active denied past enforced⟩
  · exact ⟨_, _, presented_idle config port ordered writes active _⟩

/-- Settles O47: for a write each rule of the port's judgement in turn, for a read whether the rights allow it. -/
theorem portWriteJudged : Obligations.PortWriteJudged := by
  refine ⟨fun x level s c p config port writes ordered => ?_, fun x level s c p config port reads ordered => ?_⟩
  · intro r now how observing history locks sat16
    obtain ⟨_, _, answered⟩ := State.presented_write_answered (level := level) config port ordered writes
    refine ⟨_, State.exec_upstreamTransaction_port config port, answered.level, answered.others, answered.handed,
      answered.frame, ?_⟩
    intro r' path off uncovered
    refine ⟨answered.notices, ?_⟩
    intro refused denied forwarded quarantined violating reaches charged within
    have refuses {reason : PortReason} {k : Port}
        (a : s.PortAnswered (s.presented level c p x) level p reason k (s.path.refusing x)) : refused :=
      a.path.trans (Path.refusing_write writes _)
    have quarantines {k : Port} {why : PortReason} (same : k.history = r.history) (a : r' = k.quarantined why now) :
        quarantined k why := by
      refine ⟨fun locking => ?_, fun opens => ?_⟩
      · rw [a, Port.quarantined_locks (by rwa [same]), same]
        rfl
      · rw [a, Port.quarantined_opens (by rwa [same]), same]
        rfl
    have forwards {k : Port} (a : s.PortAnswered (s.presented level c p x) level p .budget
        (if fragments x how then k.fragmented else k) (s.path.joining x how)) : forwarded k :=
      ⟨a.path, fun uncovers => a.record.trans (if_pos ((fragments_iff x how).2 uncovers)),
        fun covered => a.record.trans (if_neg (mt (fragments_iff x how).1 covered))⟩
    refine ⟨fun listen => ?_, fun idle => ?_, fun active without => ?_, fun active allowed fits => ?_,
      fun active allowed past enforced => ?_, fun active allowed past observed => ?_⟩
    · have a := State.presented_idle (level := level) config port ordered writes
        (show r.state ≠ .active by simp [listen]) .violation
      exact ⟨refuses a, a.record.trans (congrArg Port.deny (if_pos listen))⟩
    · have a := State.presented_idle (level := level) config port ordered writes
        (show r.state ≠ .active by rcases idle with down | locked <;> simp [*]) .violation
      exact ⟨refuses a, a.record.trans (congrArg Port.deny (if_neg (by rcases idle with down | locked <;> simp [*, r])))⟩
    · have a := State.presented_denied (level := level) config port ordered (fun _ => active) without
      have counts : r.violate.deny = violating := congrArg Port.deny (Port.violate_active active)
      refine ⟨refuses a, fun observed => ?_, fun enforced short => ?_, fun enforced reaching => ?_⟩
      · rw [← counts, show r' = _ from a.record]
        exact Port.violated_observed active observed
      · exact a.record.trans ((congrArg Port.deny (Port.violated_short active enforced short)).trans counts)
      · refine quarantines rfl ?_
        rw [← counts, ← Port.quarantined_deny, ← Port.violated_reaching active enforced reaching]
        exact a.record
    · have a := State.presented_passed (level := level) ordered writes active allowed (.inl fits)
      rw [Port.charged, if_pos fits] at a
      exact forwards a
    · have a := State.presented_overrun (level := level) config port ordered writes active allowed past enforced
      rw [Port.charged, if_neg past, if_neg enforced, Port.quarantined_deny] at a
      exact ⟨refuses a, quarantines rfl a.record⟩
    · have a := State.presented_passed (level := level) ordered writes active allowed (.inr observed)
      rw [Port.charged, if_neg past, if_pos observed] at a
      exact forwards a
  · intro r now how observing history locks reaches zeros
    by_cases denied : how = .denied
    · have answered := State.presented_denied (level := level) config port ordered (by simp [reads]) denied
      refine ⟨_, State.exec_upstreamTransaction_port config port, answered.level, answered.others, answered.handed,
        answered.frame, ?_⟩
      intro r' path counted counting
      have words : r'.intervalWords = r.intervalWords :=
        (congrArg Port.intervalWords answered.record).trans Port.violated_intervalWords
      have counts (active : r.state = .active) : r.violate.deny = counting := congrArg Port.deny (Port.violate_active active)
      have quarantines (active : r.state = .active) (enforced : ¬ observing) (reaching : reaches) :
          r' = counting.quarantined .violation now := by
        rw [← counts active, ← Port.quarantined_deny, ← Port.violated_reaching active enforced reaching]
        exact answered.record
      refine ⟨?_, absurd denied, fun _ => ⟨answered.path.trans (Path.refusing_read reads _), fun idle => ?_,
        fun active observed => ?_, fun active enforced short => ?_, fun active enforced reaching locking => ?_,
        fun active enforced reaching opens => ?_⟩⟩
      · rw [← words]
        exact answered.notices
      · exact answered.record.trans (congrArg Port.deny (Port.violated_idle idle))
      · rw [← counts active, show r' = _ from answered.record]
        exact Port.violated_observed active observed
      · exact answered.record.trans ((congrArg Port.deny (Port.violated_short active enforced short)).trans (counts active))
      · exact (quarantines active enforced reaching).trans (Port.quarantined_locks locking)
      · exact (quarantines active enforced reaching).trans (Port.quarantined_opens opens)
    · have forwarded := State.presented_read (level := level) reads denied
      have answered := (State.PortJudged.refl { s with observeAll := level } p .violation).forwards (x := x) ordered denied
      rw [← forwarded] at answered
      refine ⟨_, State.exec_upstreamTransaction_port config port, answered.level, answered.others, answered.handed,
        answered.frame, ?_⟩
      intro r' path counted counting
      have words : r'.intervalWords = r.intervalWords := congrArg Port.intervalWords answered.record
      refine ⟨?_, fun _ => ⟨answered.record, ?_, ?_, answered.path⟩, fun without => absurd without denied⟩
      · rw [← words]
        exact answered.notices
      · rw [forwarded]
        rfl
      · rw [forwarded]
        rfl

end Sys2Proof.Machine
end

section
/-! ARBITER_GRANT (O51): which of the two heads the arbiter grants (R152). -/

namespace Sys2Proof.Machine

/-- The oldest forwarded transaction that waits goes to memory, and the others stand (R152). -/
theorem grantForwarded_oldest {pre post : List Flight} {f : Flight} (waits : f.stage = .waiting)
    (older : ∀ e ∈ pre, e.stage ≠ .waiting) :
    grantForwarded (pre ++ f :: post) = some (pre ++ { f with stage := .atMemory } :: post) := by
  induction pre with
  | nil => exact if_pos waits
  | cons e pre ih =>
    have rest := ih fun g mem => older g (List.mem_cons_of_mem _ mem)
    rw [List.cons_append, grantForwarded, if_neg (older e List.mem_cons_self), rest]
    rfl

/-- Without a forwarded transaction that waits, none is granted (R152). -/
theorem grantForwarded_none {fs : List Flight} (idle : ∀ e ∈ fs, e.stage ≠ .waiting) : grantForwarded fs = none := by
  induction fs with
  | nil => rfl
  | cons e fs ih =>
    rw [grantForwarded, if_neg (idle e List.mem_cons_self), ih fun g mem => idle g (List.mem_cons_of_mem _ mem)]
    rfl

namespace Path

variable {p : Path}

/-- Without an own head the forwarded transaction is granted, and no wait is counted. -/
theorem grant_unopposed {fs : List Flight} (forwarded : grantForwarded p.flights = some fs) (own : p.ownQueue = []) :
    p.grant = { p with flights := fs } := by
  simp only [grant, forwarded, own]

/-- An own head that has let fewer than eight pass lets this one pass too. -/
theorem grant_passes {fs : List Flight} (forwarded : grantForwarded p.flights = some fs) (own : p.ownQueue ≠ [])
    (short : p.ownWait < 8) : p.grant = { p with flights := fs, ownWait := p.ownWait + 1 } := by
  obtain ⟨o, os, queue⟩ := List.exists_cons_of_ne_nil own
  simp only [grant, forwarded, queue, if_pos short]

/-- The own head is granted where no forwarded transaction waits, or where it has let eight pass. -/
theorem grant_own {o : OwnTxn} {os : List OwnTxn} (own : p.ownQueue = o :: os)
    (turn : grantForwarded p.flights = none ∨ 8 ≤ p.ownWait) :
    p.grant = { p with ownQueue := os, ownWait := 0, ownAtMemory := p.ownAtMemory ++ [o] } := by
  have head : p.grant = p.grantOwn := by
    cases forwarded : grantForwarded p.flights with
    | none => simp only [grant, forwarded]
    | some fs =>
      have long : ¬ p.ownWait < 8 := Nat.not_lt.2 (turn.resolve_left (by simp [forwarded]))
      simp only [grant, forwarded, own, if_neg long]
  rw [head, grantOwn, own]

/-- With nothing to grant the path stands. -/
theorem grant_idle (forwarded : grantForwarded p.flights = none) (own : p.ownQueue = []) : p.grant = p := by
  simp only [grant, forwarded, grantOwn, own]

/-- A grant leaves the denials and the responses. -/
theorem grant_frame (p : Path) :
    { p.grant with flights := p.flights, ownQueue := p.ownQueue, ownWait := p.ownWait, ownAtMemory := p.ownAtMemory } = p := by
  cases forwarded : grantForwarded p.flights with
  | none =>
    cases own : p.ownQueue with
    | nil => rw [grant_idle forwarded own, ← own]
    | cons o os => rw [grant_own own (.inl forwarded), ← own]
  | some fs =>
    by_cases own : p.ownQueue = []
    · rw [grant_unopposed forwarded own]
    · by_cases short : p.ownWait < 8
      · rw [grant_passes forwarded own short]
      · obtain ⟨o, os, queue⟩ := List.exists_cons_of_ne_nil own
        rw [grant_own queue (.inr (Nat.not_lt.1 short))]

end Path

/-- Settles O51: `grantForwarded_oldest` and `grantForwarded_none` say what waits to be forwarded, and the lemmas of `Path.grant`
whose turn it is. -/
theorem arbiterGrants : Obligations.ArbiterGrants := by
  intro s
  refine ⟨s.onPath Path.grant, rfl, rfl, s.path.grant_frame, ?_⟩
  intro granted ownGranted
  have turn {o os} (own : s.path.ownQueue = o :: os) (whose : grantForwarded s.path.flights = none ∨ 8 ≤ s.path.ownWait) :
      ownGranted o os := by
    have moved : (s.onPath Path.grant).path = _ := Path.grant_own own whose
    simp only [ownGranted, moved, and_self]
  refine ⟨?_, fun _ _ _ _ _ _ own long => turn own (.inr long), fun _ _ idle own => turn own (.inl (grantForwarded_none idle)),
    fun idle own => Path.grant_idle (grantForwarded_none idle) own⟩
  intro pre post f ⟨flights, waits, older⟩ ahead
  have forwarded : grantForwarded s.path.flights = some (pre ++ { f with stage := .atMemory } :: post) :=
    flights ▸ grantForwarded_oldest waits older
  by_cases own : s.path.ownQueue = []
  · have moved : (s.onPath Path.grant).path = _ := Path.grant_unopposed forwarded own
    simp only [moved, if_pos own, and_self]
  · have moved : (s.onPath Path.grant).path = _ := Path.grant_passes forwarded own (ahead.resolve_left own)
    simp only [moved, if_neg own, and_self]

end Sys2Proof.Machine
end

section
/-! RESET_N (O14). -/

namespace Sys2Proof.Machine

/-- Settles O14: `State.resetWith` is `State.reset` but for the pins, the straps, the queue of commands and the step's number. -/
theorem resetNResets : Obligations.ResetNResets := by
  intro straps s
  refine ⟨s.resetWith straps, rfl, rfl, rfl, rfl, fun z => ?_, fun i => ?_, rfl⟩
  · exact Table.get_mapFin s.guards (fun _ g => g.reset) z
  · have unused : (s.resetWith straps).windowTable = Table.replicate 32 Window.unused := rfl
    rw [unused, Table.get_replicate]
    rfl

end Sys2Proof.Machine
end

section
/-! The rights of a switch port in the window that governs its transaction's address (O46). -/

namespace Sys2Proof.Machine

/-- A port owns a window whose unit is bound to it. -/
theorem HallConfig.ownsWindow_iff (c : HallConfig) (w : Window) (p : Fin 16) :
    c.ownsWindow w p = true ↔ ∃ u, unitNumber w.unit = some u ∧ c.portOf u = some p := by
  rw [ownsWindow, decide_eq_true_eq, Option.bind_eq_some_iff]

namespace State

variable {s : State} {c : HallConfig} {p : Fin 16} {x : Txn}

/-- What is malformed, in the image region or outside every window has no rights (R143, R146). -/
theorem portTreatment_denied
    (without : ¬ x.formed = true ∨ s.inImage x.start = true ∨ c.windowAt x.start = none) : s.portTreatment c p x = .denied := by
  rcases without with malformed | image | nowhere
  · simp only [portTreatment, malformed, Bool.not_false, Bool.true_or, if_true]
  · simp only [portTreatment, image, Bool.or_true, if_true]
  · simp only [portTreatment, HallConfig.matched_eq, nowhere, Option.map_none, ite_self]

/-- Anything else has the rights of its window (R147). -/
theorem portTreatment_window {i : Fin 32} (formed : x.formed = true) (outside : s.inImage x.start = false)
    (governs : c.windowAt x.start = some i) : s.portTreatment c p x = c.portRight p i (c.windows.get i) x.isWrite := by
  simp only [portTreatment, formed, outside, HallConfig.matched_eq, governs, Option.map_some, Bool.not_true, Bool.or_self,
    Bool.false_eq_true, if_false]

end State

namespace HallConfig

variable {c : HallConfig} {p : Fin 16} {i : Fin 32} {w : Window} {write : Bool}

/-- In a PLAIN window the masks say the rights. -/
theorem portRight_plain (kind : w.kind = .plain) :
    c.portRight p i w write = if (if write then w.writers else w.readers).getLsbD p.val then .plain else .denied := by
  simp only [portRight, kind]
  rfl

/-- In a COMMAND window the unit's own port reads. -/
theorem portRight_command (kind : w.kind = .command) :
    c.portRight p i w write = if write = false ∧ c.ownsWindow w p = true then .substituted i w else .denied := by
  simp only [portRight, kind, Bool.and_eq_true, Bool.not_eq_true']

/-- In a record window the unit's own port writes. -/
theorem portRight_record (kind : w.kind = .status ∨ w.kind = .verdict ∨ w.kind = .timeFrame) :
    c.portRight p i w write = if write = true ∧ c.ownsWindow w p = true then .observed i w else .denied := by
  rcases kind with kind | kind | kind <;> simp only [portRight, kind, Bool.and_eq_true]

/-- In a window of another kind no port has rights. -/
theorem portRight_other (masked : w.kind ≠ .plain) (command : w.kind ≠ .command)
    (record : ¬ (w.kind = .status ∨ w.kind = .verdict ∨ w.kind = .timeFrame)) : c.portRight p i w write = .denied := by
  cases kind : w.kind with
  | plain => exact absurd kind masked
  | command => exact absurd kind command
  | status | verdict | timeFrame => simp [kind] at record
  | switchTable | mailbox | view | notice | unused => simp only [portRight, kind]

end HallConfig

/-- Settles O46: `State.portTreatment_window` reduces the treatment to the rights in a window, which go by its kind. -/
theorem portRights : Obligations.PortRights := by
  intro s c p x base formed outside
  have form : x.formed = true ↔ formed := formed_iff x
  have image : s.inImage x.start = true ↔ ¬ outside := (s.inImage_iff _).trans (by simp only [outside]; omega)
  refine ⟨fun without => State.portTreatment_denied (by rwa [form, image]), ?_⟩
  intro i wellFormed apart governs w own record
  have owns : c.ownsWindow w p = true ↔ own := c.ownsWindow_iff w p
  have shut : s.inImage x.start = false := Bool.eq_false_iff.2 fun inside => image.1 inside apart
  rw [State.portTreatment_window (form.2 wellFormed) shut governs]
  refine ⟨fun kind writes => ?_, fun kind reads => ?_, fun kind mine reads => ?_, fun kind mine writes => ?_,
    fun kind without => ?_, fun kind without => ?_, HallConfig.portRight_other⟩
  · rw [HallConfig.portRight_plain kind, if_pos writes]
  · rw [HallConfig.portRight_plain kind, if_neg (Bool.eq_false_iff.1 reads)]
  · rw [HallConfig.portRight_command kind, if_pos ⟨reads, owns.2 mine⟩]
  · rw [HallConfig.portRight_record kind, if_pos ⟨writes, owns.2 mine⟩]
  · rw [HallConfig.portRight_command kind, if_neg]
    rintro ⟨reads, mine⟩
    exact without.elim (absurd (owns.1 mine)) fun writes => Bool.eq_false_iff.1 reads writes
  · rw [HallConfig.portRight_record kind, if_neg]
    rintro ⟨writes, mine⟩
    exact without.elim (absurd (owns.1 mine)) fun reads => Bool.eq_false_iff.1 reads writes

end Sys2Proof.Machine
end

section
/-! UPSTREAM_TRANSACTION of the processor (O45): its treatment by form, address and window, and what the step leaves. -/

namespace Sys2Proof.Machine

/-- The stage at which a transaction of this treatment joins those not yet answered: a view read and a refused one wait for
earlier ones of their tag, the others for the downstream port (R144, R151, R152). -/
def Treatment.firstStage : Treatment → Stage
  | .view | .denied => .held
  | .plain | .image | .observed _ _ | .substituted _ _ => .waiting

namespace State

variable {s : State} {x : Txn} {how : Treatment}

/-! ## What a treatment leaves -/

/-- A transaction that is not refused enters the path at its first stage. -/
theorem treat_kept (allowed : how ≠ .denied) :
    s.treat x how = s.onPath fun p => p.enter { txn := x, treatment := how, stage := how.firstStage } := by
  cases how with
  | denied => exact absurd rfl allowed
  | view | plain | image | observed | substituted => rfl

/-- A transaction that no port presents moves the path alone when it is treated. -/
theorem treat_moves (unported : tagPort x.tag = none) : ∃ path, s.treat x how = { s with path := path } := by
  by_cases denied : how = .denied
  · subst denied
    exact ⟨_, refuse_unported (.inr unported)⟩
  · exact ⟨_, treat_kept denied⟩

/-- A transaction that is not refused joins those not yet answered (R144). -/
theorem treat_settles (ordered : s.path.Ordered) (allowed : how ≠ .denied) :
    { (s.treat x how).settle.path with ownQueue := s.path.ownQueue } =
      { s.path with flights := s.path.flights ++ [{ txn := x, treatment := how, stage := how.firstStage }] } := by
  rw [treat_kept allowed]
  exact (settle_path_of rfl).trans (Path.enter_kept (f := { txn := x, treatment := how, stage := how.firstStage }) ordered allowed)

/-! ## The processor's treatment (R146, R147) -/

/-- In the image region its writes are observed. -/
theorem processorTreatment_image (image : s.inImage x.start = true) :
    s.processorTreatment x = if x.isWrite = true then .image else .plain :=
  if_pos image

/-- Outside the image region and every window it is forwarded. -/
theorem processorTreatment_nowhere {c : HallConfig} (config : s.config = some c) (outside : s.inImage x.start = false)
    (nowhere : c.windowAt x.start = none) : s.processorTreatment x = .plain := by
  have matched : matchedIn s.windowTable x.start = none := by
    simp only [windowTable, config]
    exact (c.matched_eq _).trans (by rw [nowhere, Option.map_none])
  simp only [processorTreatment, outside, matched, Bool.false_eq_true, if_false]

/-- In a window it has the window's rights. -/
theorem processorTreatment_window {c : HallConfig} {i : Fin 32} (config : s.config = some c) (outside : s.inImage x.start = false)
    (governs : c.windowAt x.start = some i) :
    s.processorTreatment x = s.processorRight i (c.windows.get i) x.isWrite := by
  have matched : matchedIn s.windowTable x.start = some (i, c.windows.get i) := by
    simp only [windowTable, config]
    exact (c.matched_eq _).trans (by rw [governs, Option.map_some])
  simp only [processorTreatment, outside, matched, Bool.false_eq_true, if_false]

variable {i : Fin 32} {w : Window} {write : Bool}

/-- In the mailbox its writes are observed and its reads substituted. -/
theorem processorRight_mailbox (kind : w.kind = .mailbox) :
    s.processorRight i w write = if write = true then .observed i w else .substituted i w := by
  simp only [processorRight, kind]

/-- In the view its reads are held and its writes refused. -/
theorem processorRight_view (kind : w.kind = .view) :
    s.processorRight i w write = if write = true then .denied else .view := by
  simp only [processorRight, kind]

/-- Its writes to a robot's command frame are observed. -/
theorem processorRight_command {c : HallConfig} {u : Fin 24} (config : s.config = some c) (kind : w.kind = .command)
    (unit : unitNumber w.unit = some u) :
    s.processorRight i w write = if write = true ∧ c.kindOf u = .filler then .observed i w else .plain := by
  simp only [processorRight, kind, unit, Option.map_some, Option.getD_some, isRobot, config, HallConfig.isRobot,
    Bool.and_eq_true, decide_eq_true_eq]

/-- In a window of another kind it is forwarded. -/
theorem processorRight_other (mailbox : w.kind ≠ .mailbox) (view : w.kind ≠ .view) (command : w.kind ≠ .command) :
    s.processorRight i w write = .plain := by
  cases kind : w.kind with
  | mailbox => exact absurd kind mailbox
  | view => exact absurd kind view
  | command => exact absurd kind command
  | plain | status | verdict | timeFrame | switchTable | notice | unused => simp only [processorRight, kind]

/-! ## What the step makes of it -/

/-- The treatment of the processor's transaction, by its form first (R143). -/
def processorJudges (s : State) (x : Txn) : Treatment :=
  if x.formed then s.processorTreatment x else .denied

/-- The processor's transaction is treated as its form, its address and its window say. -/
theorem exec_upstreamTransaction_processor {c : HallConfig} (config : s.config = some c) (mine : x.tag = processorTag)
    (level : Bool) :
    exec (.upstreamTransaction x level) s = .next (treat { s with observeAll := level } x (s.processorJudges x)).settle := by
  have presented : presents { s with observeAll := level } c x = treat { s with observeAll := level } x (s.processorJudges x) :=
    if_pos mine
  rw [← presented]
  simp only [exec, execUpstreamTransaction, config]

end State

/-! ## The obligation -/

/-- Settles O45: the processor's transaction is treated by its form, address and window, and `State.treat_settles` and
`State.refuse_settles` say what the treatment leaves. -/
theorem processorTransactionTreated : Obligations.ProcessorTransactionTreated := by
  intro x level s c config mine ordered base inImage formed
  have unported : tagPort x.tag = none := tagPort_none (.inl mine)
  have form : x.formed = true ↔ formed := formed_iff x
  have image : s.inImage x.start = true ↔ inImage := s.inImage_iff _
  obtain ⟨path, moved⟩ := State.treat_moves (s := { s with observeAll := level }) (how := s.processorJudges x) unported
  refine ⟨_, State.exec_upstreamTransaction_processor config mine level, ?_, ?_, ?_, ?_⟩
  · rw [moved]
    rfl
  · rw [moved]
    exact State.settle_givesOnly rfl rfl (List.append_nil _).symm
  · rw [moved]
    rfl
  intro joins counted refused
  have denies (denied : s.processorJudges x = .denied) : refused := by
    simp only [refused, denied]
    exact (State.refuse_settles ordered (.inr unported) level).2
  have joining {how} (treated : s.processorJudges x = how) (allowed : how ≠ .denied) : joins how how.firstStage := by
    simp only [joins, treated]
    exact State.treat_settles (s := { s with observeAll := level }) ordered allowed
  have forwards {how} (treated : s.processorJudges x = how) (waits : how.firstStage = .waiting) : joins how .waiting :=
    waits ▸ joining treated fun denied => by simp [denied, Treatment.firstStage] at waits
  have judged (wellFormed : formed) : s.processorJudges x = s.processorTreatment x := if_pos (form.2 wellFormed)
  have apart (outside : ¬ inImage) : s.inImage x.start = false := Bool.eq_false_iff.2 (outside ∘ image.1)
  refine ⟨fun malformed => denies (if_neg (malformed ∘ form.1)), fun wellFormed inside => ?_,
    fun wellFormed outside nowhere => ?_, fun i wellFormed outside governs => ?_⟩
  · exact forwards ((judged wellFormed).trans (State.processorTreatment_image (image.2 inside))) (by split <;> rfl)
  · exact forwards ((judged wellFormed).trans (State.processorTreatment_nowhere config (apart outside) nowhere)) rfl
  · intro w
    have treated : s.processorJudges x = s.processorRight i w x.isWrite :=
      (judged wellFormed).trans (State.processorTreatment_window config (apart outside) governs)
    refine ⟨fun kind => ?_, fun kind => ?_, fun u kind unit => ?_, fun mailbox view command => ?_⟩
    · exact forwards (treated.trans (State.processorRight_mailbox kind)) (by split <;> rfl)
    · have right := treated.trans (State.processorRight_view kind)
      split
      · next writes => exact denies (right.trans (if_pos writes))
      · next reads => exact joining (right.trans (if_neg reads)) nofun
    · exact forwards (treated.trans (State.processorRight_command config kind unit)) (by split <;> rfl)
    · exact forwards (treated.trans (State.processorRight_other mailbox view command)) rfl

end Sys2Proof.Machine
end

section
/-! The requests of a load (O59): the control word that a command takes names a load kind or none, and the loader judges it by what it
reads of the part (R156). -/

namespace Sys2Proof.Machine

/-! ## The kind that the control word names -/

/-- A load kind is named by its code alone. -/
theorem LoadKind.ofCode_eq_some {n : Nat} {k : LoadKind} (named : LoadKind.ofCode n = some k) : n = k.code := by
  unfold LoadKind.ofCode at named
  split at named
  case h_4 => cases named
  all_goals
    cases named
    rfl

/-- A load kind's code names it. -/
@[simp] theorem LoadKind.ofCode_code (k : LoadKind) : LoadKind.ofCode k.code = some k := by
  cases k <;> rfl

/-- A record that is picked is one that the selector takes. -/
theorem pick_selects {α : Type} {sel : Handover → Option α} {hs left : List Handover} {a : α} (picked : pick sel hs = some (a, left)) :
    ∃ h, sel h = some a := by
  induction hs generalizing left with
  | nil => cases picked
  | cons h hs ih =>
    cases selected : sel h with
    | some b =>
      simp only [pick, selected, Option.some.injEq, Prod.mk.injEq] at picked
      exact ⟨h, picked.1 ▸ selected⟩
    | none =>
      simp only [pick, selected, Option.map_eq_some_iff] at picked
      obtain ⟨⟨b, rest⟩, found, same⟩ := picked
      obtain ⟨rfl, -⟩ := Prod.mk.inj same
      exact ih found

/-- A record that is taken is one that the selector takes. -/
theorem State.take_selects {α : Type} {s s1 : State} {tag : Fin 32} {sel : Handover → Option α} {a : α}
    (take : s.take tag sel = some (a, s1)) : ∃ h, sel h = some a := by
  obtain ⟨flight, left, -, picked, -⟩ := State.take_spec s take
  exact pick_selects picked

/-- The control word that a load's command takes has the load's kind (R156). -/
theorem selLoad_kind {k : LoadKind} {h : Handover} {w : Word} (selected : selLoad k h = some w) :
    LoadKind.ofCode (loadKindByte w) = some k := by
  unfold selLoad at selected
  split at selected
  · split at selected
    · next kind => exact Option.some.inj selected ▸ kind
    · cases selected
  · cases selected

/-- The one that OTHER_LOAD_KIND takes has none. -/
theorem selLoadOther_kind {h : Handover} {w : Word} (selected : selLoadOther h = some w) :
    LoadKind.ofCode (loadKindByte w) = none := by
  unfold selLoadOther at selected
  split at selected
  · split at selected
    · next kind => exact Option.some.inj selected ▸ kind.2
    · cases selected
  · cases selected

namespace State

variable {s s1 : State} {w : Word} {n : Nat}

/-! ## Whether a request is refused (R156) -/

/-- While a load is READING. -/
theorem requestRefusal_reading (reading : s.loader.kind ≠ none) (n : Nat) : s.requestRefusal n = some .busy := by
  simp [requestRefusal, Option.isSome_iff_ne_none.2 reading]

/-- A word of no load kind. -/
theorem requestRefusal_unnamed (idle : s.loader.kind = none) (unnamed : LoadKind.ofCode n = none) :
    s.requestRefusal n = some .range := by
  simp [requestRefusal, idle, unnamed]

/-- A FULL load, of a line in production or not. -/
theorem requestRefusal_full (idle : s.loader.kind = none) : s.requestRefusal LoadKind.full.code =
    if s.config.isSome && (s.time.running || s.anyReleased) then some .lineActive else none := by
  simp [requestRefusal, idle]

/-- A PARAMETER or CHANGEOVER load of an UNCONFIGURED part. -/
theorem requestRefusal_bare (idle : s.loader.kind = none) (bare : s.config = none) {k : LoadKind} (partly : k ≠ .full) :
    s.requestRefusal k.code = some .mismatch := by
  cases k with
  | full => exact absurd rfl partly
  | parameter | changeover => simp [requestRefusal, idle, bare]

/-- One of a configured part. -/
theorem requestRefusal_configured (idle : s.loader.kind = none) (configured : s.config ≠ none) {k : LoadKind}
    (partly : k ≠ .full) : s.requestRefusal k.code = none := by
  cases k with
  | full => exact absurd rfl partly
  | parameter | changeover => simp [requestRefusal, idle, configured]

/-- The line is in production. -/
theorem lineActive_iff : (s.config.isSome && (s.time.running || s.anyReleased)) = true ↔
    s.config ≠ none ∧ (s.time.running = true ∨ ∃ u r, s.robots.get u = some r ∧ r.gate = .released) := by
  have released : s.anyReleased = true ↔ ∃ u r, s.robots.get u = some r ∧ r.gate = .released := by
    simp only [anyReleased, List.any_eq_true, List.mem_finRange, true_and]
    refine exists_congr fun u => ?_
    cases s.robots.get u <;> simp
  rw [Bool.and_eq_true, Bool.or_eq_true, released, Option.isSome_iff_ne_none]

/-! ## What a request leaves -/

/-- A request that is refused is counted, and its outcome recorded with its notice (R156, R163). -/
theorem requestLoad_refused {code : LoadCode} (refusal : s.requestRefusal n = some code) : s.requestLoad n = { s with
    loader := { s.loader with requests := s.loader.requests + 1, outcome := { code := code, kind := n, part := 0, entry := 0 } }
    given := s.given ++ [s.outcomeNotice { code := code, kind := n, part := 0, entry := 0 }] } := by
  have refusal' : (s.onLoader fun l => { l with requests := l.requests + 1 }).requestRefusal n = some code := refusal
  simp only [requestLoad, refusal']
  rfl

/-- One that is accepted is counted, and line 0 is to be read (R155 to R157). -/
theorem requestLoad_accepted {k : LoadKind} (accepted : s.requestRefusal k.code = none) : s.requestLoad k.code = { s with
    loader := { s.loader with requests := s.loader.requests + 1, kind := some k, staged := [] }
    path := { s.path with ownQueue := s.path.ownQueue ++ [s.lineRead 0] } } := by
  have accepted' : (s.onLoader fun l => { l with requests := l.requests + 1 }).requestRefusal k.code = none := accepted
  simp only [requestLoad, accepted', LoadKind.ofCode_code]
  rfl

/-- A request moves the loader, the notices given and the own queue. -/
theorem requestLoad_frame (s : State) (n : Nat) : { (s.requestLoad n).settle.unsettled s with loader := s.loader } = s := by
  cases refusal : s.requestRefusal n with
  | some code =>
    rw [requestLoad_refused refusal]
    rfl
  | none =>
    cases named : LoadKind.ofCode n with
    | none =>
      have refusal' : (s.onLoader fun l => { l with requests := l.requests + 1 }).requestRefusal n = none := refusal
      simp only [requestLoad, refusal', named]
      rfl
    | some k =>
      obtain rfl := LoadKind.ofCode_eq_some named
      rw [requestLoad_accepted refusal]
      rfl

/-! ## What the step leaves -/

/-- From `s` to `t` the request of kind byte `n` is counted and refused with `code` (R156, R163). -/
def LoadRefused (s t : State) (n : Nat) (code : LoadCode) : Prop :=
  s.GivesOnly t [s.outcomeNotice { code := code, kind := n, part := 0, entry := 0 }] ∧ t.Presents s.path.ownQueue ∧
    t.loader = { s.loader with
      requests := s.loader.requests + 1, outcome := { code := code, kind := n, part := 0, entry := 0 } }

/-- From `s` to `t` the request of a load of kind `k` is counted and accepted (R155 to R157). -/
def LoadAccepted (s t : State) (k : LoadKind) : Prop :=
  s.GivesOnly t [] ∧ t.loader = { s.loader with requests := s.loader.requests + 1, kind := some k, staged := [] } ∧
    t.Presents (s.path.ownQueue ++
      [{ requester := .config, addr := s.cfgBase.toNat * 2 ^ 24, data := [], oldRing := false }])

variable {path : Path}

/-- A step whose request is refused. -/
theorem loadRefused_of (queue : path.ownQueue = s.path.ownQueue) {code : LoadCode} (refusal : s.requestRefusal n = some code) :
    s.LoadRefused (requestLoad { s with path := path } n).settle n code := by
  rw [requestLoad_refused (s := { s with path := path }) refusal]
  exact ⟨settle_givesOnly rfl rfl rfl, settle_presents_of queue, rfl⟩

/-- A step whose request is accepted. -/
theorem loadAccepted_of (queue : path.ownQueue = s.path.ownQueue) {k : LoadKind} (accepted : s.requestRefusal k.code = none) :
    s.LoadAccepted (requestLoad { s with path := path } k.code).settle k := by
  have first : [lineRead { s with path := path } 0] =
      [{ requester := .config, addr := s.cfgBase.toNat * 2 ^ 24, data := [], oldRing := false }] := by simp [lineRead]
  rw [requestLoad_accepted (s := { s with path := path }) accepted]
  exact ⟨settle_givesOnly rfl rfl (List.append_nil _).symm, rfl, settle_presents_of (congrArg₂ (· ++ ·) queue first)⟩

/-- The command takes the control word `w`, which names the kind `named` (R156). -/
structure Requests (s s1 : State) (i : Instr) (w : Word) (named : Option LoadKind) : Prop where
  /-- The command judges the request. -/
  acts : exec i s = .next (s1.requestLoad (loadKindByte w)).settle
  /-- The kind of the word. -/
  kind : LoadKind.ofCode (loadKindByte w) = named

/-- The command of a load kind. -/
theorem requests_load {i : Instr} {k : LoadKind} (take : s.take processorTag (selLoad k) = some (w, s1))
    (runs : exec i s = s.taking processorTag (selLoad k) fun _ s => s.requestLoad k.code) : s.Requests s1 i w (some k) := by
  obtain ⟨h, selected⟩ := take_selects take
  have kind := selLoad_kind selected
  refine ⟨?_, kind⟩
  rw [runs, taking_some s _ take, LoadKind.ofCode_eq_some kind]

/-- OTHER_LOAD_KIND. -/
theorem requests_other (take : s.take processorTag selLoadOther = some (w, s1)) : s.Requests s1 .otherLoadKind w none := by
  obtain ⟨h, selected⟩ := take_selects take
  exact ⟨taking_some s _ take, selLoadOther_kind selected⟩

end State

/-! ## The obligation -/

/-- Settles O59: each command names its kind, the refusals of `State.requestRefusal` are exclusive, and a request moves on as
`State.loadRefused_of` and `State.loadAccepted_of` say. -/
theorem loadRequestsJudged : Obligations.LoadRequestsJudged := by
  intro i sel w s s1 take kind lineActive load
  have queue := State.take_ownQueue take
  have command : ∃ named, s.Requests s1 i w named ∧ (i = .otherLoadKind → named = none) ∧ (i = .fullLoad → named = some .full) ∧
      (i = .parameterLoad → named = some .parameter) ∧ (i = .changeoverLoad → named = some .changeover) := by
    rcases load with ⟨rfl, rfl⟩ | ⟨rfl, rfl⟩ | ⟨rfl, rfl⟩ | ⟨rfl, rfl⟩
    · exact ⟨_, State.requests_load take rfl, nofun, fun _ => rfl, nofun, nofun⟩
    · exact ⟨_, State.requests_load take rfl, nofun, nofun, fun _ => rfl, nofun⟩
    · exact ⟨_, State.requests_load take rfl, nofun, nofun, nofun, fun _ => rfl⟩
    · exact ⟨_, State.requests_other take, fun _ => rfl, nofun, nofun, nofun⟩
  obtain ⟨named, ⟨acts, names⟩, other, full, parameter, changeover⟩ := command
  obtain ⟨path, rfl⟩ := State.take_path take
  refine ⟨_, acts, State.requestLoad_frame _ _, ?_⟩
  intro refused accepted
  have refuses {code} (refusal : s.requestRefusal kind = some code) : refused code := State.loadRefused_of queue refusal
  have accepts {k : LoadKind} (its : named = some k) (unrefused : s.requestRefusal k.code = none) : accepted k := by
    have its : loadKindByte w = k.code := LoadKind.ofCode_eq_some (names.trans its)
    simp only [accepted, its]
    exact State.loadAccepted_of queue unrefused
  have code {k : LoadKind} (its : named = some k) : s.requestRefusal kind = s.requestRefusal k.code :=
    congrArg s.requestRefusal (LoadKind.ofCode_eq_some (names.trans its))
  refine ⟨fun reading => refuses (State.requestRefusal_reading reading _), fun idle => ⟨fun command => ?_, fun command active => ?_,
    fun command resting => ?_, fun command bare => ?_, fun command configured => ?_, fun command bare => ?_,
    fun command configured => ?_⟩⟩
  · exact refuses (State.requestRefusal_unnamed idle (names.trans (other command)))
  · exact refuses ((code (full command)).trans ((State.requestRefusal_full idle).trans (if_pos (State.lineActive_iff.2 active))))
  · exact accepts (full command) ((State.requestRefusal_full idle).trans (if_neg (resting ∘ State.lineActive_iff.1)))
  · exact refuses ((code (parameter command)).trans (State.requestRefusal_bare idle bare nofun))
  · exact accepts (parameter command) (State.requestRefusal_configured idle configured nofun)
  · exact refuses ((code (changeover command)).trans (State.requestRefusal_bare idle bare nofun))
  · exact accepts (changeover command) (State.requestRefusal_configured idle configured nofun)

end Sys2Proof.Machine
end


section
/-! SUPPORT. What the loader reads of an image (11.6): the place of every entry's fields in their line, the enumerated fields
that hold a code, and the configuration and template set that they make (`Image.Reads`). -/

namespace Sys2Proof.Machine

/-! ## Enumerated fields (R173) -/

/-- The codes of an enumeration are 0 to `top`. -/
structure Coded {α : Type} (ofCode : Nat → Option α) (code : α → Nat) (top : Nat) : Prop where
  /-- A code names its member. -/
  named : ∀ n, n ≤ top → (ofCode n).map code = some n
  /-- No other number does. -/
  unnamed : ∀ j, ofCode (j + (top + 1)) = none

namespace Coded

variable {α : Type} {ofCode : Nat → Option α} {code : α → Nat} {top n : Nat}

/-- A number is refused when it lies past the codes. -/
theorem eq_none_iff (h : Coded ofCode code top) : ofCode n = none ↔ top < n := by
  refine ⟨fun none => Nat.lt_of_not_le fun le => ?_, fun past => ?_⟩
  · have named := h.named n le
    rw [none] at named
    cases named
  · obtain ⟨j, rfl⟩ := Nat.exists_eq_add_of_le' (Nat.succ_le_of_lt past)
    exact h.unnamed j

/-- A field that holds a code is read as its member. -/
theorem code_getD (h : Coded ofCode code top) (le : n ≤ top) (d : α) : code ((ofCode n).getD d) = n := by
  obtain ⟨k, found, same⟩ := Option.map_eq_some_iff.1 (h.named n le)
  rw [found]
  exact same

end Coded

/-- The codes of the kinds of window. -/
theorem WindowKind.coded : Coded WindowKind.ofCode WindowKind.code 9 :=
  ⟨by decide, fun _ => rfl⟩

/-- The codes of the kinds of unit. -/
theorem UnitKind.coded : Coded UnitKind.ofCode UnitKind.code 4 :=
  ⟨by decide, fun _ => rfl⟩

/-- The codes of the operations of a check. -/
theorem CheckOp.coded : Coded CheckOp.ofCode CheckOp.code 5 :=
  ⟨by decide, fun _ => rfl⟩

/-- The codes of the classes of defect. -/
theorem DefectClass.coded : Coded DefectClass.ofCode DefectClass.code 3 :=
  ⟨by decide, fun _ => rfl⟩

/-- The codes of the severities. -/
theorem Severity.coded : Coded Severity.ofCode Severity.code 1 :=
  ⟨by decide, fun _ => rfl⟩

/-- The codes of the policies. -/
theorem Policy.coded : Coded Policy.ofCode Policy.code 1 :=
  ⟨by decide, fun _ => rfl⟩

/-! ## The place of a field (11.6) -/

/-- A byte of a line. -/
theorem Image.fieldAt_byte (b : List Byte) (off : Nat) : fieldAt b off 1 = (b.getD off 0).toNat := by
  simp [fieldAt, leNat_take, List.getD_eq_getElem?_getD, List.getElem?_drop]

namespace Image

variable (m : Image)

/-- A field of an entry, once the entry's line and its offset there are known. -/
theorem fieldAt_entry_at {first size i line base off n : Nat} (atLine : first + size * i / 128 = line)
    (atBase : size * i % 128 = base) (within : off + n ≤ size) :
    fieldAt (Image.entry m first size i) off n = m.num line (base + off) n := by
  rw [fieldAt_entry m first size i off n within, atLine, atBase]

/-- A flag of an entry, likewise. -/
theorem flagAt_entry_at {first size i line base off : Nat} (atLine : first + size * i / 128 = line)
    (atBase : size * i % 128 = base) (within : off + 1 ≤ size) :
    flagAt (Image.entry m first size i) off 0 = true ↔ m.num line (base + off) 1 % 2 = 1 := by
  rw [flagAt_entry m first size i off within, atLine, atBase]

/-- A field of a window entry. -/
theorem window_field (i : Fin 32) {off n : Nat} (within : off + n ≤ 16) :
    fieldAt (m.window i) off n = m.num (1 + i.val / 8) (16 * (i.val % 8) + off) n :=
  m.fieldAt_entry_at (by omega) (by omega) within

/-- A field of a unit entry. -/
theorem unit_field (u : Fin 24) {off n : Nat} (within : off + n ≤ 32) :
    fieldAt (m.unit u) off n = m.num (5 + u.val / 4) (32 * (u.val % 4) + off) n :=
  m.fieldAt_entry_at (by omega) (by omega) within

/-- A field of a zone entry. -/
theorem zone_field (z : Fin 8) {off n : Nat} (within : off + n ≤ 8) :
    fieldAt (m.zone z) off n = m.num 11 (8 * z.val + off) n :=
  m.fieldAt_entry_at (by omega) (by omega) within

/-- A flag of a zone entry. -/
theorem zone_flag (z : Fin 8) {off : Nat} (within : off + 1 ≤ 8) :
    flagAt (m.zone z) off 0 = true ↔ m.num 11 (8 * z.val + off) 1 % 2 = 1 :=
  m.flagAt_entry_at (by omega) (by omega) within

/-- A field of a port's entry. -/
theorem port_field (p : Fin 16) {off n : Nat} (within : off + n ≤ 8) :
    fieldAt (m.port p) off n = m.num 12 (8 * p.val + off) n :=
  m.fieldAt_entry_at (by omega) (by omega) within

/-- A field of a gate entry. -/
theorem gate_field (g : Fin 2) {off n : Nat} (within : off + n ≤ 16) :
    fieldAt (m.gate g) off n = m.num 13 (16 * g.val + off) n :=
  m.fieldAt_entry_at (by omega) (by omega) within

/-- A flag of a gate entry. -/
theorem gate_flag (g : Fin 2) {off : Nat} (within : off + 1 ≤ 16) :
    flagAt (m.gate g) off 0 = true ↔ m.num 13 (16 * g.val + off) 1 % 2 = 1 :=
  m.flagAt_entry_at (by omega) (by omega) within

/-- A field of a camera entry. -/
theorem camera_field (n : Fin 6) {off k : Nat} (within : off + k ≤ 32) :
    fieldAt (m.camera n) off k = m.num (15 + n.val / 4) (32 * (n.val % 4) + off) k :=
  m.fieldAt_entry_at (by omega) (by omega) within

/-- A flag of a camera entry. -/
theorem camera_flag (n : Fin 6) {off : Nat} (within : off + 1 ≤ 32) :
    flagAt (m.camera n) off 0 = true ↔ m.num (15 + n.val / 4) (32 * (n.val % 4) + off) 1 % 2 = 1 :=
  m.flagAt_entry_at (by omega) (by omega) within

/-- A field of a check of the template set. -/
theorem check_field (t k : Fin 16) {off n : Nat} (within : off + n ≤ 8) :
    fieldAt (m.check t k) off n = m.num (17 + t.val) (8 * k.val + off) n :=
  m.fieldAt_entry_at (by omega) (by omega) within

/-- A bit field holds its number. -/
theorem toNat_num (line off size : Nat) {bits : Nat} (fits : 256 ^ size = 2 ^ bits) :
    (BitVec.ofNat bits (m.num line off size)).toNat = m.num line off size := by
  rw [BitVec.toNat_ofNat, Nat.mod_eq_of_lt (fits ▸ m.num_lt line off size)]

end Image

/-! ## The units' entries -/

/-- The zone is read but of a CLOCK unit (11.6). -/
theorem readUnit_zone {b : List Byte} (other : (readUnit b).kind ≠ .clock) : (readUnit b).zone = fieldAt b 2 1 :=
  if_neg fun clock => other (by simp only [readUnit, clock, Option.getD_some])

/-- The robot parameters are read of a FILLER unit (11.6). -/
theorem readUnit_filler {b : List Byte} (filler : (readUnit b).kind = .filler) :
    ((readUnit b).alwaysConfirm = true ↔ fieldAt b 3 1 % 2 = 1) ∧ (readUnit b).safeCount = fieldAt b 4 1 ∧
      (readUnit b).statusTimeout = fieldAt b 5 2 ∧ (readUnit b).staleLimit = fieldAt b 7 2 ∧ (readUnit b).vmin = fieldAt b 9 2 ∧
      (readUnit b).vmax = fieldAt b 11 2 ∧ (readUnit b).slew = fieldAt b 13 2 := by
  have coded : UnitKind.ofCode (fieldAt b 0 1) = some .filler := by
    have kind : (UnitKind.ofCode (fieldAt b 0 1)).getD .absent = .filler := filler
    cases read : UnitKind.ofCode (fieldAt b 0 1) with
    | none => simp [read] at kind
    | some k => rw [← kind, read, Option.getD_some]
  have field : ∀ off size, fillerField b off size = fieldAt b off size := fun off size => if_pos coded
  simp only [readUnit, field, Nat.testBit_zero, decide_eq_true_eq, and_self]

/-! ## What the image holds -/

namespace Image

variable (m : Image)

/-- The configuration and the template set of an image are read as 11.6 lays them out. -/
theorem reads : m.Reads m.config m.bank where
  windows i := by
    simp only [config, Table.get_ofFn, readWindow, m.window_field i (off := 0) (n := 1) (by decide),
      m.window_field i (off := 1) (n := 1) (by decide), m.window_field i (off := 2) (n := 2) (by decide),
      m.window_field i (off := 4) (n := 2) (by decide), m.window_field i (off := 6) (n := 4) (by decide),
      m.window_field i (off := 10) (n := 4) (by decide), true_and, and_true]
    exact ⟨fun le => WindowKind.coded.code_getD le _, m.toNat_num _ _ 2 rfl, m.toNat_num _ _ 2 rfl⟩
  units u := by
    simp only [config, Table.get_ofFn]
    refine ⟨fun le => ?_, m.unit_field u (by decide), fun other => ?_, fun filler => ?_⟩
    · rw [← m.unit_field u (by decide)] at le ⊢
      exact UnitKind.coded.code_getD le _
    · exact (readUnit_zone other).trans (m.unit_field u (by decide))
    · obtain ⟨confirm, safeCount, statusTimeout, staleLimit, vmin, vmax, slew⟩ := readUnit_filler filler
      rw [confirm, m.unit_field u (by decide)]
      exact ⟨Iff.rfl, safeCount.trans (m.unit_field u (by decide)), statusTimeout.trans (m.unit_field u (by decide)),
        staleLimit.trans (m.unit_field u (by decide)), vmin.trans (m.unit_field u (by decide)),
        vmax.trans (m.unit_field u (by decide)), slew.trans (m.unit_field u (by decide))⟩
  zones z := by
    simp only [config, Table.get_ofFn, readZone]
    exact ⟨m.zone_flag z (by decide), m.zone_flag z (by decide), m.zone_field z (by decide), m.zone_field z (by decide)⟩
  ports p := by
    simp only [config, Table.get_ofFn, readPort, decide_eq_true_eq]
    refine ⟨?_, m.port_field p (by decide), m.port_field p (by decide), m.port_field p (by decide)⟩
    rw [m.port_field p (by decide)]
  gates g := by
    simp only [config, Table.get_ofFn, readGate]
    refine ⟨m.gate_flag g (by decide), m.gate_field g (by decide), m.gate_field g (by decide), m.gate_field g (by decide),
      m.gate_field g (by decide), ?_⟩
    rw [← fieldAt_byte, m.gate_field g (by decide)]
  fill := by
    simp only [config, Table.get_ofFn, fill]
    exact ⟨m.fieldAt_line 14 0 1, fun i => m.fieldAt_line 14 _ 1⟩
  cameras n := by
    simp only [config, Table.get_ofFn, readCamera]
    exact ⟨m.camera_flag n (by decide), m.camera_field n (by decide), m.camera_field n (by decide), m.camera_field n (by decide),
      m.camera_flag n (by decide), m.camera_field n (by decide), m.camera_field n (by decide), m.camera_field n (by decide),
      m.camera_field n (by decide)⟩
  templates t i := by
    simp only [bank, Table.get_ofFn, readCheck, m.check_field t i (off := 0) (n := 1) (by decide),
      m.check_field t i (off := 1) (n := 1) (by decide), m.check_field t i (off := 2) (n := 1) (by decide),
      m.check_field t i (off := 3) (n := 1) (by decide), m.check_field t i (off := 4) (n := 1) (by decide),
      m.check_field t i (off := 5) (n := 1) (by decide), m.check_field t i (off := 6) (n := 1) (by decide),
      true_and]
    exact ⟨fun le => CheckOp.coded.code_getD le _, fun le => DefectClass.coded.code_getD le _,
      fun le => Severity.coded.code_getD le _, fun le => Policy.coded.code_getD le _⟩
  timers := by
    simp only [config, readTimers, Table.get_ofFn, timers]
    exact ⟨m.fieldAt_line 33 _ _, m.fieldAt_line 33 _ _, m.fieldAt_line 33 _ _, m.fieldAt_line 33 _ _, m.fieldAt_line 33 _ _,
      fun u => m.fieldAt_line 33 _ _⟩
  ring := m.fieldAt_line 34 0 2

end Image

end Sys2Proof.Machine
end


section
/-! SUPPORT. The sections of an image and the checks that fail in them (R158, R65, R173): `Reports` says that a section's list of
failures comes down to what fails in it, and each section has its own lemma. -/

namespace Sys2Proof.Machine

/-! ## What a section reports -/

/-- The failure that a section reports is the first of what fails in it, by entry, RANGE before CONSISTENCY (R158, log 16). -/
structure Reports (fs : List Failure) (bad : Nat → LoadCode → Prop) : Prop where
  /-- It reports none only when nothing fails. -/
  clean : firstFailure fs = none → ∀ e k, ¬ bad e k
  /-- It reports what fails, and nothing that fails comes before. -/
  first : ∀ f, firstFailure fs = some f → bad f.1 f.2 ∧
    ∀ e k, bad e k → f.1 < e ∨ (f.1 = e ∧ (f.2 = .consistency → k = .consistency))

/-- A section that lists what fails, RANGE before CONSISTENCY of an entry, reports the first of it. -/
theorem Reports.of_mem {fs : List Failure} {bad : Nat → LoadCode → Prop} (order : RangeFirst fs)
    (lists : ∀ e k, (e, k) ∈ fs ↔ bad e k) : Reports fs bad where
  clean none e k fails := by
    rw [← lists, (firstFailure_eq_none fs).1 none] at fails
    cases fails
  first f found := by
    obtain ⟨mem, least⟩ := firstFailure_eq_some fs order f found
    exact ⟨(lists _ _).1 mem, fun e k fails => least (e, k) ((lists e k).2 fails)⟩

/-- What fails may be said in other words. -/
theorem Reports.congr {fs : List Failure} {bad bad' : Nat → LoadCode → Prop} (h : Reports fs bad)
    (same : ∀ e k, bad' e k ↔ bad e k) : Reports fs bad' :=
  (funext fun e => funext fun k => propext (same e k) : bad' = bad) ▸ h

/-- The refusal of an image whose sections report what fails in them is the first of what fails. -/
theorem refusesFirst_of_reports {fails : Nat → Nat → LoadCode → Prop} (sections : List (Nat × List Failure))
    (ascending : sections.Pairwise fun a b => a.1 < b.1) (reports : ∀ a ∈ sections, Reports a.2 (fails a.1))
    (all : ∀ p e k, fails p e k → p ∈ sections.map Prod.fst) :
    RefusesFirst fails (firstRefusal (sections.map fun a => refusal a.1 a.2)) :=
  firstRefusal_refusesFirst fails sections ascending (fun a mem => (reports a mem).clean) (fun a mem => (reports a mem).first) all

/-- Failures of one code are in no order among themselves. -/
theorem rangeFirst_of_code {fs : List Failure} {code : LoadCode} (one : ∀ f ∈ fs, f.2 = code) : RangeFirst fs :=
  List.pairwise_of_forall_mem_list fun a ha b hb _ consistency => (one b hb).trans ((one a ha).symm.trans consistency)

/-- What comes after a section's failures is no RANGE of an entry that failed. -/
theorem RangeFirst.append {fs gs : List Failure} (before : RangeFirst fs) (after : RangeFirst gs)
    (joins : ∀ a ∈ fs, ∀ b ∈ gs, a.1 = b.1 → a.2 = .consistency → b.2 = .consistency) : RangeFirst (fs ++ gs) :=
  List.pairwise_append.2 ⟨before, after, joins⟩

/-- Every failure that a check lists has its entry and code. -/
theorem rangeFirst_fails (bad : Bool) (entry : Nat) (code : LoadCode) : RangeFirst (fails bad entry code) :=
  rangeFirst_of_code (code := code) fun f mem => by rw [((mem_fails bad entry code f).1 mem).2]

/-- A section that is checked entry by entry, and then for something that relates several. -/
theorem reports_entries {n : Nat} {range consistent : Fin n → Bool} {number : Fin n → Nat} {whole : Bool} {entry : Nat}
    {bad : Nat → LoadCode → Prop} (distinct : ∀ i j, number i = number j → i = j)
    (ranges : ∀ e, bad e .range ↔ ∃ i, e = number i ∧ range i = true)
    (agrees : ∀ e, bad e .consistency ↔ (∃ i, e = number i ∧ consistent i = true) ∨ (e = entry ∧ whole = true))
    (only : ∀ e k, bad e k → k = .range ∨ k = .consistency) :
    Reports (each range consistent number ++ fails whole entry .consistency) bad := by
  refine .of_mem ((rangeFirst_each range consistent number distinct).append (rangeFirst_fails _ _ _) fun a _ b hb _ _ => ?_)
    fun e k => ?_
  · rw [((mem_fails _ _ _ b).1 hb).2]
  · rw [List.mem_append, mem_each, mem_fails, Prod.mk.injEq]
    constructor
    · rintro ((⟨rfl, fault⟩ | ⟨rfl, fault⟩) | ⟨fault, rfl, rfl⟩)
      · exact (ranges e).2 fault
      · exact (agrees e).2 (.inl fault)
      · exact (agrees _).2 (.inr ⟨rfl, fault⟩)
    · intro fault
      rcases only e k fault with rfl | rfl
      · exact .inl (.inl ⟨rfl, (ranges e).1 fault⟩)
      · rcases (agrees e).1 fault with fault | ⟨rfl, fault⟩
        · exact .inl (.inr ⟨rfl, fault⟩)
        · exact .inr ⟨fault, rfl, rfl⟩

/-- A section that is checked entry by entry alone. -/
theorem reports_each {n : Nat} {range consistent : Fin n → Bool} {number : Fin n → Nat} {bad : Nat → LoadCode → Prop}
    (distinct : ∀ i j, number i = number j → i = j) (ranges : ∀ e, bad e .range ↔ ∃ i, e = number i ∧ range i = true)
    (agrees : ∀ e, bad e .consistency ↔ ∃ i, e = number i ∧ consistent i = true)
    (only : ∀ e k, bad e k → k = .range ∨ k = .consistency) : Reports (each range consistent number) bad := by
  have none : fails false 0 .consistency = [] := rfl
  rw [← List.append_nil (each range consistent number), ← none]
  exact reports_entries distinct ranges (fun e => by simp [agrees]) only

/-! ## Entries that occur once -/

/-- A table's entries, by number. -/
theorem Table.toList_eq {α : Type} {n : Nat} (t : Table α n) : t.toList = (List.finRange n).map t.get := by
  obtain ⟨l, rfl⟩ := t
  exact (List.map_get_finRange l).symm

/-- Exactly one number has the property. -/
theorem length_filter_finRange_eq_one {n : Nat} (p : Fin n → Bool) :
    ((List.finRange n).filter p).length = 1 ↔ ∃ x, p x = true ∧ ∀ y, p y = true → y = x := by
  have mem : ∀ y, y ∈ (List.finRange n).filter p ↔ p y = true := fun y => by simp
  have nodup : ((List.finRange n).filter p).Nodup := (List.nodup_finRange n).filter p
  rw [List.length_eq_one_iff]
  refine exists_congr fun x => ⟨fun single => ?_, fun ⟨its, only⟩ => ?_⟩
  · simp only [← mem, single, List.mem_singleton, imp_self, implies_true, and_self]
  · exact List.perm_singleton.1 ((List.perm_ext_iff_of_nodup nodup (List.nodup_singleton x)).2 fun y => by
      rw [mem, List.mem_singleton]
      exact ⟨only y, fun same => same ▸ its⟩)

/-- How many entries of a table have a property, by number. -/
theorem length_filter_toList {α : Type} {n : Nat} (t : Table α n) (p : α → Bool) :
    (t.toList.filter p).length = ((List.finRange n).filter fun i => p (t.get i)).length := by
  rw [Table.toList_eq, List.filter_map, List.length_map]
  rfl

/-! ## The numbers of a check -/

/-- A number out of its range. -/
theorem outside_iff (lo hi v : Nat) : outside lo hi v = true ↔ v < lo ∨ hi < v := by
  simp only [outside, Bool.or_eq_true, decide_eq_true_eq]

/-- A number that is no power of two in its range. -/
theorem not_powerOfTwo_iff {lo hi : Nat} (le : lo ≤ hi) (v : Nat) :
    (!powerOfTwo lo hi v) = true ↔ ∀ e, lo ≤ e → e ≤ hi → v ≠ 2 ^ e := by
  simp only [powerOfTwo, Bool.not_eq_true', List.any_eq_false, List.mem_range, decide_eq_true_eq]
  refine ⟨fun none e low high => ?_, fun none i within => none _ (by omega) (by omega)⟩
  have := none (e - lo) (by omega)
  rwa [Nat.add_sub_cancel' low] at this

/-! ## The sections whose checks fail -/

namespace Image

variable {m : Image} {part entry : Nat} {code : LoadCode}

/-- What fails, fails in one of the sections, RANGE or CONSISTENCY but for the header's VERSION. -/
theorem Fails.inv (h : m.Fails part entry code) :
    part ≤ 10 ∧ (code = .range ∨ code = .consistency ∨ (part = 0 ∧ code = .version)) := by
  unfold Fails at h
  dsimp only at h
  split at h
  all_goals simp at h ⊢

/-- But for the header, RANGE or CONSISTENCY. -/
theorem Fails.code_of_pos (h : m.Fails part entry code) (pos : part ≠ 0) : code = .range ∨ code = .consistency := by
  rcases h.inv.2 with range | consistency | ⟨header, -⟩
  exacts [.inl range, .inr consistency, absurd header pos]

end Image

end Sys2Proof.Machine
end


section
/-! The validation of an image (O60): each section reports the first check of R158, R65 and R173 that fails in it. -/

namespace Sys2Proof.Machine

/-! ## What a section's entries hold -/

namespace Image

variable (m : Image)

/-- Window `i`. -/
theorem config_window (i : Fin 32) : m.config.windows.get i = readWindow (m.window i) := Table.get_ofFn _ _

/-- Unit `u`. -/
theorem config_unit (u : Fin 24) : m.config.units.get u = readUnit (m.unit u) := Table.get_ofFn _ _

/-- The entry of port `p`. -/
theorem config_port (p : Fin 16) : m.config.ports.get p = readPort (m.port p) := Table.get_ofFn _ _

/-- Check `k` of template `t`. -/
theorem bank_check (t k : Fin 16) : (m.bank.get t).get k = readCheck (m.check t k) := by
  rw [bank, Table.get_ofFn, Table.get_ofFn]

/-! ## Section 0 -/

/-- A code of a load that is not a load kind. -/
theorem fails_header_range : m.Fails 0 0 .range ↔ decide (3 < fieldAt (m.getD 0 []) 0 1) = true := by
  rw [fieldAt_line, decide_eq_true_eq]
  exact and_iff_right rfl

/-- A version that is not 1. -/
theorem fails_header_version : m.Fails 0 0 .version ↔ decide (fieldAt (m.getD 0 []) 8 4 ≠ 1) = true := by
  rw [fieldAt_line, decide_eq_true_eq]
  exact and_iff_right rfl

/-- The header is tested for its load kind and its version; of both faults it shows one (R158, R173, log 51). -/
theorem reports_header : Reports (checkHeader m) (m.Fails 0) := by
  have kind := m.fails_header_range
  have version := m.fails_header_version
  have inv : ∀ e k, m.Fails 0 e k → e = 0 ∧ (k = .range ∨ k = .version) := fun e k fails => by
    rcases fails.inv.2 with rfl | rfl | ⟨-, rfl⟩
    · exact ⟨fails.1, .inl rfl⟩
    · exact fails.elim
    · exact ⟨fails.1, .inr rfl⟩
  have alone : ∀ code, checkHeader m = [(0, code)] → m.Fails 0 0 code → code ≠ .consistency → Reports (checkHeader m) (m.Fails 0) :=
    fun code listed fault other => by
      rw [listed]
      refine ⟨nofun, fun f shown => ?_⟩
      obtain rfl := Option.some.inj shown
      exact ⟨fault, fun e k more => .inr ⟨(inv e k more).1.symm, fun consistency => absurd consistency other⟩⟩
  unfold checkHeader at alone ⊢
  dsimp only at alone ⊢
  revert kind version alone
  generalize decide (3 < fieldAt (m.getD 0 []) 0 1) = badKind
  generalize decide (fieldAt (m.getD 0 []) 8 4 ≠ 1) = badVersion
  generalize Config.headerShowsRange = showsRange
  intro kind version alone
  match badKind, badVersion with
  | true, true =>
    match showsRange with
    | true => exact alone .range rfl (kind.2 rfl) nofun
    | false => exact alone .version rfl (version.2 rfl) nofun
  | true, false => exact alone .range rfl (kind.2 rfl) nofun
  | false, true => exact alone .version rfl (version.2 rfl) nofun
  | false, false =>
    refine ⟨fun _ e k more => ?_, nofun⟩
    obtain ⟨rfl, rfl | rfl⟩ := inv e k more
    · exact absurd (kind.1 more) nofun
    · exact absurd (version.1 more) nofun

/-! ## Section 1 -/

end Image

/-- The kinds of window that carry a unit (8.3). -/
theorem WindowKind.hasUnit_iff (k : WindowKind) :
    k.hasUnit = true ↔ k = .command ∨ k = .status ∨ k = .verdict ∨ k = .timeFrame := by
  cases k <;> simp [WindowKind.hasUnit]

namespace Image

variable (m : Image)

/-- The RANGE checks of a window (R158). -/
theorem windowRange_iff (i : Fin 32) : windowRange (m.window i) = true ↔
    let w := m.config.windows.get i
    9 < m.num (1 + i.val / 8) (16 * (i.val % 8)) 1 ∨ (∀ e, 7 ≤ e → e ≤ 26 → w.size ≠ 2 ^ e) ∨ w.base % w.size ≠ 0 ∨
      (23 < w.unit ∧
        (w.kind = .command ∨ w.kind = .status ∨ w.kind = .verdict ∨ w.kind = .timeFrame ∨ Config.checksUnused 1 = true)) := by
  have code : 9 < m.num (1 + i.val / 8) (16 * (i.val % 8)) 1 ↔ WindowKind.ofCode (fieldAt (m.window i) 0 1) = none := by
    rw [WindowKind.coded.eq_none_iff, m.window_field i (by decide), Nat.add_zero]
  simp only [code, m.config_window i, windowRange]
  cases kind : WindowKind.ofCode (fieldAt (m.window i) 0 1) with
  | none => simp
  | some k =>
    simp only [readWindow, kind, Option.getD_some, Bool.or_eq_true, Bool.and_eq_true, decide_eq_true_eq, WindowKind.hasUnit_iff,
      not_powerOfTwo_iff (show 7 ≤ 26 by decide), reduceCtorEq, false_or, or_assoc]

end Image

/-- The CONSISTENCY check of a window (R158). -/
theorem windowConsistency_iff (w : Window) : windowConsistency w = true ↔
    (w.kind = .switchTable ∧ w.size ≠ 128) ∨ (w.kind = .view ∧ w.size ≠ 4096) ∨ (w.kind = .mailbox ∧ w.size ≠ 512) ∨
      (w.kind = .command ∧ w.size ≠ 128) := by
  unfold windowConsistency
  cases w.kind <;> simp [WindowKind.fixedSize]

/-- The windows of a kind, counted by number. -/
theorem HallConfig.windowsOf_length_eq_one (c : HallConfig) (k : WindowKind) : (c.windowsOf k).length = 1 ↔
    ∃ i, (c.windows.get i).kind = k ∧ ∀ j, (c.windows.get j).kind = k → j = i := by
  simp only [HallConfig.windowsOf, length_filter_toList, length_filter_finRange_eq_one, decide_eq_true_eq]

/-- The windows that must occur exactly once (R158). -/
theorem HallConfig.singlesWrong_iff (c : HallConfig) : c.singlesWrong = true ↔
    ∃ k, (k = .mailbox ∨ k = .view ∨ k = .notice ∨ k = .switchTable) ∧
      ¬ ∃ i, (c.windows.get i).kind = k ∧ ∀ j, (c.windows.get j).kind = k → j = i := by
  simp only [HallConfig.singlesWrong, List.any_eq_true, List.mem_cons, List.not_mem_nil, or_false, decide_eq_true_eq, ne_eq,
    c.windowsOf_length_eq_one]

namespace Image

variable (m : Image)

/-- Section 1. -/
theorem reports_windows : Reports (checkWindows m m.config) (m.Fails 1) :=
  reports_entries (fun _ _ => Fin.ext) (fun e => exists_congr fun i => and_congr_right fun _ => (m.windowRange_iff i).symm)
    (fun e => or_congr (exists_congr fun i => and_congr_right fun _ => (windowConsistency_iff _).symm)
      (and_congr_right fun _ => m.config.singlesWrong_iff.symm))
    fun e k fails => fails.code_of_pos (by decide)

end Image

end Sys2Proof.Machine
end


section
/-! SUPPORT. Sections 2 to 10 of an image: each reports the first check of R158, R65 and R173 that fails in it, and so does the
image's validation. -/

namespace Sys2Proof.Machine

/-! ## Section 2 -/

namespace Image

variable (m : Image)

/-- The RANGE checks of a unit (R158, 5.1). -/
theorem unitRange_iff (u : Fin 24) : unitRange (m.unit u) = true ↔
    let k := m.config.units.get u
    4 < m.num (5 + u.val / 4) (32 * (u.val % 4)) 1 ∨ k.port < 1 ∨ 16 < k.port ∨ (k.kind ≠ .clock ∧ 7 < k.zone) ∨
      (k.kind = .filler ∧
        (k.safeCount < 1 ∨ 8 < k.safeCount ∨ k.statusTimeout < 10 ∨ 1000 < k.statusTimeout ∨ k.staleLimit < 20 ∨
          2000 < k.staleLimit ∨ k.slew < 1 ∨ 1000 < k.slew)) := by
  have code : 4 < m.num (5 + u.val / 4) (32 * (u.val % 4)) 1 ↔ UnitKind.ofCode (fieldAt (m.unit u) 0 1) = none := by
    rw [UnitKind.coded.eq_none_iff, m.unit_field u (by decide), Nat.add_zero]
  simp only [code, m.config_unit u, unitRange]
  cases kind : UnitKind.ofCode (fieldAt (m.unit u) 0 1) with
  | none => simp
  | some k =>
    cases k <;> simp [readUnit, fillerField, kind, outside_iff, or_assoc]

end Image

namespace HallConfig

variable (c : HallConfig)

/-- Exactly one window of this kind names the unit. -/
theorem naming_eq_one (k : WindowKind) (u : Nat) : c.naming k u = 1 ↔
    ∃ i, ((c.windows.get i).kind = k ∧ (c.windows.get i).unit = u) ∧
      ∀ j, (c.windows.get j).kind = k ∧ (c.windows.get j).unit = u → j = i := by
  simp only [naming, windowsOf, List.filter_filter, length_filter_toList, length_filter_finRange_eq_one, Bool.and_eq_true,
    decide_eq_true_eq, and_comm]

/-- The windows that each kind of unit needs (R158). -/
theorem windowsWrong_iff (u : Nat) (k : UnitKind) : c.windowsWrong u k = true ↔
    ((k = .filler ∨ k = .gate) ∧ ¬ (c.naming .command u = 1 ∧ c.naming .status u = 1)) ∨
      (k = .camera ∧ ¬ c.naming .verdict u = 1) ∨ (k = .clock ∧ ¬ c.naming .timeFrame u = 1) := by
  cases k <;> simp [windowsWrong, imp_iff_not_or]

end HallConfig

/-- A window that carries a unit of a kind that it may not name (8.3). -/
theorem WindowKind.misnames_iff (k : WindowKind) (u : UnitKind) : (k.hasUnit && !k.mayName u) = true ↔
    ((k = .command ∨ k = .status) ∧ u ≠ .filler ∧ u ≠ .gate) ∨ (k = .verdict ∧ u ≠ .camera) ∨ (k = .timeFrame ∧ u ≠ .clock) := by
  cases k <;> simp [WindowKind.hasUnit, WindowKind.mayName]

namespace HallConfig

variable (c : HallConfig)

/-- Some window names the unit though its kind may not (log 34). -/
theorem wronglyNamed_iff (u : Nat) (k : UnitKind) : c.wronglyNamed u k = true ↔
    (∃ i, (((c.windows.get i).kind = .command ∧ (c.windows.get i).unit = u) ∨
        ((c.windows.get i).kind = .status ∧ (c.windows.get i).unit = u)) ∧ k ≠ .filler ∧ k ≠ .gate) ∨
      (∃ i, ((c.windows.get i).kind = .verdict ∧ (c.windows.get i).unit = u) ∧ k ≠ .camera) ∨
      ∃ i, ((c.windows.get i).kind = .timeFrame ∧ (c.windows.get i).unit = u) ∧ k ≠ .clock := by
  have each : ∀ w : Window, (w.kind.hasUnit && decide (w.unit = u) && !(w.kind.mayName k)) = true ↔
      w.unit = u ∧ (w.kind.hasUnit && !w.kind.mayName k) = true := fun w => by
    simp only [Bool.and_eq_true, decide_eq_true_eq]
    tauto
  simp only [wronglyNamed, Table.toList_eq, List.any_map, List.any_eq_true, List.mem_finRange, true_and, Function.comp_apply, each,
    WindowKind.misnames_iff, ← exists_or]
  exact exists_congr fun i => by tauto

/-- The CONSISTENCY checks of a unit (R158). -/
theorem unitConsistency_iff (u : Fin 24) : c.unitConsistency u = true ↔
    let k := c.units.get u
    let holds : WindowKind → Fin 32 → Prop := fun kind i => (c.windows.get i).kind = kind ∧ (c.windows.get i).unit = u.val
    (k.kind = .filler ∧ k.vmax < k.vmin) ∨
      ((k.kind = .filler ∨ k.kind = .gate) ∧
        ¬ ((∃ i, holds .command i ∧ ∀ j, holds .command j → j = i) ∧ ∃ i, holds .status i ∧ ∀ j, holds .status j → j = i)) ∨
      (k.kind = .camera ∧ ¬ ∃ i, holds .verdict i ∧ ∀ j, holds .verdict j → j = i) ∨
      (k.kind = .clock ∧ ¬ ∃ i, holds .timeFrame i ∧ ∀ j, holds .timeFrame j → j = i) ∨
      (∃ i, (holds .command i ∨ holds .status i) ∧ k.kind ≠ .filler ∧ k.kind ≠ .gate) ∨
      (∃ i, holds .verdict i ∧ k.kind ≠ .camera) ∨ (∃ i, holds .timeFrame i ∧ k.kind ≠ .clock) := by
  simp only [unitConsistency, Bool.or_eq_true, Bool.and_eq_true, decide_eq_true_eq, windowsWrong_iff, wronglyNamed_iff,
    naming_eq_one, or_assoc]

/-- The bounds on the units of each kind (R158). -/
theorem countsWrong_iff : c.countsWrong = true ↔
    let count : UnitKind → Nat := fun kind => ((List.finRange 24).filter fun u => decide (c.kindOf u = kind)).length
    8 < count .filler ∨ 6 < count .camera ∨ 2 < count .gate ∨ 1 < count .clock := by
  simp only [countsWrong, unitCount, length_filter_toList, kindOf, Bool.or_eq_true, decide_eq_true_eq, or_assoc]
  rfl

end HallConfig

namespace Image

variable (m : Image)

/-- Section 2. -/
theorem reports_units : Reports (checkUnits m m.config) (m.Fails 2) :=
  reports_entries (fun _ _ => Fin.ext) (fun _ => exists_congr fun u => and_congr_right fun _ => (m.unitRange_iff u).symm)
    (fun _ => or_congr (exists_congr fun u => and_congr_right fun _ => (m.config.unitConsistency_iff u).symm)
      (and_congr_right fun _ => m.config.countsWrong_iff.symm))
    fun _ _ fails => fails.code_of_pos (by decide)

/-! ## Sections 3 and 4 -/

/-- Section 3. -/
theorem reports_zones : Reports (checkZones m.config) (m.Fails 3) :=
  reports_each (fun _ _ => Fin.ext)
    (fun _ => exists_congr fun z => and_congr_right fun _ => by simp only [Bool.and_eq_true, Bool.or_eq_true, decide_eq_true_eq])
    (fun _ => exists_congr fun z => and_congr_right fun _ => by simp only [Bool.and_eq_true, Bool.or_eq_true, decide_eq_true_eq])
    fun _ _ fails => fails.code_of_pos (by decide)

/-- The RANGE checks of a port (R158, 7.1). -/
theorem portRange_iff (p : Fin 16) : portRange (m.port p) = true ↔
    let k := m.config.ports.get p
    1 < m.num 12 (8 * p.val) 1 ∨ k.limit < 1 ∨ 255 < k.limit ∨ k.budget < 16 ∨ 65535 < k.budget ∨ k.silence < 10 ∨
      1000 < k.silence := by
  simp only [m.config_port p, portRange, readPort, Bool.or_eq_true, decide_eq_true_eq, outside_iff, or_assoc,
    m.port_field p (off := 0) (n := 1) (by decide), Nat.add_zero]

/-- Section 4. -/
theorem reports_ports : Reports (checkPorts m) (m.Fails 4) :=
  reports_each (fun _ _ same => Fin.ext (Nat.succ.inj same))
    (fun _ => exists_congr fun p => and_congr_right fun _ => (m.portRange_iff p).symm)
    (fun _ => ⟨False.elim, fun ⟨_, _, wrong⟩ => Bool.false_ne_true wrong⟩) fun _ _ fails => fails.code_of_pos (by decide)

end Image

/-! ## Section 5 -/

/-- The RANGE checks of a gate (R158). -/
theorem gateRange_iff (k : GateCfg) : gateRange k = true ↔
    (509 < k.distance ∨ k.advance < 1 ∨ 8 < k.advance ∨ k.statusTimeout < 10 ∨ 1000 < k.statusTimeout) ∧
      (k.present = true ∨ Config.checksUnused 5 = true) := by
  simp only [gateRange, Bool.and_eq_true, Bool.or_eq_true, decide_eq_true_eq, outside_iff, or_assoc]

namespace HallConfig

variable (c : HallConfig)

/-- A number that is a unit's, and the unit's. -/
theorem unitNumber_iff (n : Nat) (u : Fin 24) : unitNumber n = some u ↔ n = u.val := by
  unfold unitNumber
  split
  · rw [Option.some.injEq, Fin.ext_iff]
  · simp only [reduceCtorEq, false_iff]
    omega

/-- The number names a unit of the kind. -/
theorem kindAt_iff {kind : UnitKind} (present : kind ≠ .absent) (n : Nat) :
    c.kindAt n = kind ↔ ∃ u : Fin 24, u.val = n ∧ c.kindOf u = kind := by
  unfold kindAt
  cases found : unitNumber n with
  | none =>
    refine ⟨fun none => absurd none.symm present, fun ⟨u, same, _⟩ => ?_⟩
    rw [(unitNumber_iff n u).2 same.symm] at found
    cases found
  | some u =>
    obtain rfl := (unitNumber_iff n u).1 found
    simp only [Option.map_some, Option.getD_some, Fin.val_inj, exists_eq_left]

/-- The unit that is a gate. -/
theorem gateUnit_iff (g : Fin 2) (u : Fin 24) :
    c.gateUnit g = some u ↔ (c.gates.get g).present = true ∧ (c.gates.get g).unit = u.val := by
  rw [gateUnit, hasGate, Option.ite_none_right_eq_some, unitNumber_iff]

/-- The CONSISTENCY checks of gate 0 and gate 1 (R65, logs 52 and 55). -/
theorem gateConsistency_iff (entry : Nat) : (∃ g : Fin 2, entry = g.val ∧ c.gateConsistency g = true) ↔
    (∃ g : Fin 2, entry = g.val ∧
        let k := c.gates.get g
        k.present = true ∧ (¬ (∃ u : Fin 24, u.val = k.unit ∧ c.kindOf u = .gate) ∨ k.distance < k.advance + 1)) ∨
      (entry = 1 ∧
        let k := c.gates.get 0
        let l := c.gates.get 1
        l.present = true ∧ (k.present = false ∨ l.distance ≤ k.distance ∨ l.distance < k.distance + 3 + l.advance)) := by
  have gate := fun n => c.kindAt_iff (kind := .gate) (by decide) n
  simp only [Fin.exists_fin_two, gateConsistency, hasGate, ← gate, Bool.and_eq_true, Bool.or_eq_true, decide_eq_true_eq, ne_eq,
    Bool.not_eq_true', Fin.val_zero, Fin.val_one, zero_ne_one, false_and, or_false, true_and]
  tauto

/-- Every GATE unit is named by exactly one gate. -/
theorem gateUnitsWrong_iff : c.gateUnitsWrong = true ↔
    ∃ u, c.kindOf u = .gate ∧
      ¬ ∃ g : Fin 2, ((c.gates.get g).present = true ∧ (c.gates.get g).unit = u.val) ∧
        ∀ y : Fin 2, (c.gates.get y).present = true ∧ (c.gates.get y).unit = u.val → y = g := by
  simp only [gateUnitsWrong, List.any_eq_true, List.mem_finRange, true_and, Bool.and_eq_true, decide_eq_true_eq, ne_eq,
    length_filter_finRange_eq_one, gateUnit_iff]

end HallConfig

namespace Image

variable (m : Image)

/-- Section 5. -/
theorem reports_gates : Reports (checkGates m.config) (m.Fails 5) :=
  reports_entries (fun _ _ => Fin.ext) (fun _ => exists_congr fun g => and_congr_right fun _ => (gateRange_iff _).symm)
    (fun e => or_assoc.symm.trans (or_congr (m.config.gateConsistency_iff e).symm
      (and_congr_right fun _ => m.config.gateUnitsWrong_iff.symm)))
    fun _ _ fails => fails.code_of_pos (by decide)

/-! ## Section 6 -/

end Image

namespace HallConfig

variable (c : HallConfig)

/-- The CONSISTENCY checks of a position of the fill order (R158, logs 34 and 55). -/
theorem fillConsistency_iff (i : Fin 8) :
    (c.fillUsed i && (decide (c.kindAt (c.fillUnits.get i) ≠ .filler) || c.fillRepeats i)) = true ↔
      i.val < c.fillCount ∧ (¬ (∃ u : Fin 24, u.val = c.fillUnits.get i ∧ c.kindOf u = .filler) ∨
        ∃ j, j < i ∧ c.fillUnits.get j = c.fillUnits.get i) := by
  simp only [fillUsed, fillRepeats, ← c.kindAt_iff (kind := .filler) (by decide), Bool.and_eq_true, Bool.or_eq_true,
    decide_eq_true_eq, ne_eq, List.any_eq_true, List.mem_finRange, true_and, and_assoc]
  refine and_congr_right fun used => or_congr_right (exists_congr fun j => and_congr_right fun before => and_iff_right ?_)
  exact lt_trans before used

end HallConfig

namespace Image

variable (m : Image)

/-- Section 6; the check of the count comes before those of the positions. -/
theorem reports_fill : Reports (checkFill m.config) (m.Fails 6) := by
  refine .of_mem ((rangeFirst_fails _ _ _).append (rangeFirst_each _ _ _ fun _ _ => Fin.ext) fun a ha _ _ _ consistency => ?_)
    fun e k => ?_
  · obtain ⟨_, rfl⟩ := (mem_fails _ _ _ a).1 ha
    cases consistency
  · rw [checkFill]
    simp only [List.mem_append, mem_fails, mem_each, Prod.mk.injEq, m.config.fillConsistency_iff]
    simp only [HallConfig.fillUsed, Bool.and_eq_true, Bool.or_eq_true, decide_eq_true_eq]
    have inv : m.Fails 6 e k → k = .range ∨ k = .consistency := fun fails => fails.code_of_pos (by decide)
    constructor
    · rintro (⟨fault, rfl, rfl⟩ | ⟨rfl, fault⟩ | ⟨rfl, fault⟩)
      · exact .inl ⟨rfl, fault⟩
      · exact .inr fault
      · exact fault
    · intro fault
      rcases inv fault with rfl | rfl
      · rcases fault with ⟨rfl, fault⟩ | fault
        · exact .inl ⟨fault, rfl, rfl⟩
        · exact .inr (.inl ⟨rfl, fault⟩)
      · exact .inr (.inr ⟨rfl, fault⟩)

end Image

/-! ## Section 7 -/

/-- The RANGE checks of a camera (R158). -/
theorem cameraRange_iff (k : CameraCfg) : cameraRange k = true ↔
    (23 < k.unit ∨ 8144 < k.distance ∨ k.halfWindow < 1 ∨ 7 < k.halfWindow ∨ 15 < k.chainFirst ∨ 15 < k.chainLast ∨
        k.chainStep < 1 ∨ 3 < k.chainStep) ∧
      (k.present = true ∨ Config.checksUnused 7 = true) := by
  simp only [cameraRange, Bool.and_eq_true, Bool.or_eq_true, decide_eq_true_eq, outside_iff, or_assoc]

namespace HallConfig

variable (c : HallConfig)

/-- The CONSISTENCY checks of a camera (R158, R65, log 55). -/
theorem cameraConsistency_iff (n : Fin 6) : c.cameraConsistency n = true ↔
    let k := c.cameras.get n
    let assigned : Fin 2 → Prop := fun g => (c.gates.get g).present = true ∧ (c.gates.get g).cameraSet.getLsbD n.val = true
    k.present = true ∧
      (¬ (∃ u : Fin 24, u.val = k.unit ∧ c.kindOf u = .camera) ∨ k.chainLast < k.chainFirst ∨ k.snapshotAddr % 256 ≠ 0 ∨
        ¬ (∃ g, assigned g ∧ ∀ y, assigned y → y = g) ∨
        ∃ g, assigned g ∧ (c.gates.get g).distance < (k.distance + 15) / 16 + (c.gates.get g).advance + 1) := by
  simp only [cameraConsistency, gatesOf, hasGate, assigned, beyond, ← c.kindAt_iff (kind := .camera) (by decide), Bool.and_eq_true,
    Bool.or_eq_true, decide_eq_true_eq, ne_eq, length_filter_finRange_eq_one, List.any_eq_true, List.mem_filter, List.mem_finRange,
    true_and, or_assoc]

/-- Every CAMERA unit has a number (R20). -/
theorem cameraUnitsWrong_iff : c.cameraUnitsWrong = true ↔
    ∃ u, c.kindOf u = .camera ∧ ∀ n : Fin 6, ¬ ((c.cameras.get n).present = true ∧ (c.cameras.get n).unit = u.val) := by
  simp only [cameraUnitsWrong, cameraOfUnit, hasCamera, List.any_eq_true, List.mem_finRange, true_and, Bool.and_eq_true,
    decide_eq_true_eq, Option.isNone_iff_eq_none, List.find?_eq_none, forall_const]

end HallConfig

namespace Image

variable (m : Image)

/-- Section 7. -/
theorem reports_cameras : Reports (checkCameras m.config) (m.Fails 7) :=
  reports_entries (fun _ _ => Fin.ext) (fun _ => exists_congr fun n => and_congr_right fun _ => (cameraRange_iff _).symm)
    (fun _ => or_congr (exists_congr fun n => and_congr_right fun _ => (m.config.cameraConsistency_iff n).symm)
      (and_congr_right fun _ => m.config.cameraUnitsWrong_iff.symm))
    fun _ _ fails => fails.code_of_pos (by decide)

/-! ## Section 8 -/

/-- The RANGE checks of a check of the template set (R158). -/
theorem templateRange_iff (t i : Fin 16) : templateRange (m.check t i) = true ↔
    let f := fun off => m.num (17 + t.val) (8 * i.val + off) 1
    15 < f 0 ∨ 5 < f 1 ∨ 3 < f 4 ∨ 1 < f 5 ∨ 1 < f 6 := by
  simp only [templateRange, Bool.or_eq_true, decide_eq_true_eq, Option.isNone_iff_eq_none, CheckOp.coded.eq_none_iff,
    DefectClass.coded.eq_none_iff, Severity.coded.eq_none_iff, Policy.coded.eq_none_iff, or_assoc,
    m.check_field t i (off := 0) (n := 1) (by decide), m.check_field t i (off := 1) (n := 1) (by decide),
    m.check_field t i (off := 4) (n := 1) (by decide), m.check_field t i (off := 5) (n := 1) (by decide),
    m.check_field t i (off := 6) (n := 1) (by decide)]

end Image

/-- The CONSISTENCY check of a check of the template set (R158). -/
theorem templateConsistency_iff (k : Check) : templateConsistency k = true ↔
    (k.op = .within ∨ k.op = .outside) ∧ k.b < k.a ∧ k.a ≠ 255 ∧ k.b ≠ 255 := by
  simp only [templateConsistency, Bool.and_eq_true, Bool.or_eq_true, decide_eq_true_eq, and_assoc]

namespace Image

variable (m : Image)

/-- The number of a check tells its template and its place there. -/
theorem checkNumber_inj {t t' i i' : Fin 16} (same : 16 * t.val + i.val = 16 * t'.val + i'.val) : t = t' ∧ i = i' := by
  constructor <;> omega

/-- What section 8 lists. -/
theorem mem_checkTemplates (e : Nat) (k : LoadCode) : (e, k) ∈ checkTemplates m ↔ m.Fails 8 e k := by
  simp only [checkTemplates, List.mem_flatMap, List.mem_finRange, true_and, mem_each, m.templateRange_iff,
    templateConsistency_iff, ← m.bank_check]
  constructor
  · rintro ⟨t, ⟨rfl, i, fault⟩ | ⟨rfl, i, fault⟩⟩
    · exact ⟨t, i, fault⟩
    · exact ⟨t, i, fault⟩
  · intro fault
    rcases fault.code_of_pos (by decide) with rfl | rfl
    · obtain ⟨t, i, fault⟩ := fault
      exact ⟨t, .inl ⟨rfl, i, fault⟩⟩
    · obtain ⟨t, i, fault⟩ := fault
      exact ⟨t, .inr ⟨rfl, i, fault⟩⟩

/-- Section 8. -/
theorem reports_templates : Reports (checkTemplates m) (m.Fails 8) := by
  refine .of_mem (List.pairwise_flatMap.2 ⟨fun t _ => ?_, ?_⟩) m.mem_checkTemplates
  · exact rangeFirst_each _ _ _ fun i j same => (checkNumber_inj same).2
  · refine (List.nodup_finRange 16).imp fun {t t'} ne ⟨a, k⟩ ha ⟨b, l⟩ hb same => absurd ?_ ne
    have entry : ∀ (e : Nat) (k : LoadCode) (t : Fin 16),
        (e, k) ∈ each (fun i => templateRange (m.check t i)) (fun i => templateConsistency (readCheck (m.check t i)))
          (fun i => 16 * t.val + i.val) → ∃ i : Fin 16, e = 16 * t.val + i.val := fun e k t mem => by
      rcases (mem_each _ _ _ e k).1 mem with ⟨_, i, at_i, _⟩ | ⟨_, i, at_i, _⟩
      · exact ⟨i, at_i⟩
      · exact ⟨i, at_i⟩
    obtain ⟨i, rfl⟩ := entry a k t ha
    obtain ⟨j, rfl⟩ := entry b l t' hb
    exact (checkNumber_inj same).1

/-! ## Sections 9 and 10 -/

/-- A section that has one entry, 0, and a check of each code. -/
theorem reports_single {range consistent : Bool} {bad : Nat → LoadCode → Prop} (ranges : ∀ e, bad e .range ↔ e = 0 ∧ range = true)
    (agrees : ∀ e, bad e .consistency ↔ e = 0 ∧ consistent = true) (only : ∀ e k, bad e k → k = .range ∨ k = .consistency) :
    Reports (fails range 0 .range ++ fails consistent 0 .consistency) bad := by
  have one : each (n := 1) (fun _ => range) (fun _ => consistent) Fin.val =
      fails range 0 .range ++ fails consistent 0 .consistency := by
    simp [each, show List.finRange 1 = [0] from rfl]
  rw [← one]
  exact reports_each (fun _ _ => Fin.ext) (by simpa using ranges) (by simpa using agrees) only

/-- Section 9. -/
theorem reports_timers : Reports (checkTimers m.config.timers) (m.Fails 9) :=
  reports_single
    (fun _ => and_congr_right fun _ => by
      simp only [timersRange, Bool.or_eq_true, decide_eq_true_eq, outside_iff, or_assoc])
    (fun _ => and_congr_right fun _ => decide_eq_true_iff.symm) fun _ _ fails => fails.code_of_pos (by decide)

/-- Section 10. -/
theorem reports_ring : Reports (checkRing m.config) (m.Fails 10) :=
  reports_single (fun _ => and_congr_right fun _ => (not_powerOfTwo_iff (by decide) _).symm)
    (fun _ => and_congr_right fun _ => by
      simp only [HallConfig.windowsOf, Table.toList_eq, List.any_filter, List.any_map, List.any_eq_true, List.mem_finRange,
        true_and, Function.comp_apply, Bool.and_eq_true, decide_eq_true_eq, ne_eq])
    fun _ _ fails => fails.code_of_pos (by decide)

/-! ## The image -/

/-- The validation of a FULL or PARAMETER image shows the first check that fails (R158). -/
theorem validateWhole_refusesFirst : RefusesFirst m.Fails m.validateWhole := by
  refine refusesFirst_of_reports (fails := m.Fails)
    [(0, checkHeader m), (1, checkWindows m m.config), (2, checkUnits m m.config), (3, checkZones m.config), (4, checkPorts m),
      (5, checkGates m.config), (6, checkFill m.config), (7, checkCameras m.config), (8, checkTemplates m),
      (9, checkTimers m.config.timers), (10, checkRing m.config)] (by simp) ?_ fun p e k fault => ?_
  · simp only [List.forall_mem_cons, List.not_mem_nil, false_implies, implies_true, and_true]
    exact ⟨m.reports_header, m.reports_windows, m.reports_units, m.reports_zones, m.reports_ports, m.reports_gates,
      m.reports_fill, m.reports_cameras, m.reports_templates, m.reports_timers, m.reports_ring⟩
  · have := fault.inv.1
    interval_cases p <;> simp

/-- The validation of a CHANGEOVER image shows the first check of sections 0 and 8 that fails (R158). -/
theorem validateTemplates_refusesFirst :
    RefusesFirst (fun part entry code => (part = 0 ∨ part = 8) ∧ m.Fails part entry code) m.validateTemplates := by
  refine refusesFirst_of_reports [(0, checkHeader m), (8, checkTemplates m)] (by simp) ?_ fun p e k ⟨mine, _⟩ => by simpa using mine
  simp only [List.forall_mem_cons, List.not_mem_nil, false_implies, implies_true, and_true]
  exact ⟨m.reports_header.congr fun _ _ => and_iff_right (.inl trivial),
    m.reports_templates.congr fun _ _ => and_iff_right (.inr trivial)⟩

end Image

end Sys2Proof.Machine
end


section
/-! SUPPORT. The comparison of a PARAMETER image with the configuration in force (R161, R173), and the lines that make an image (R157,
11.6). -/

namespace Sys2Proof.Machine

/-! ## The comparison -/

section

variable (c new : HallConfig) (b image : Bank)

/-- Nothing differs but the items that R161 replaces. -/
theorem mismatch_eq_none : mismatch c new b image = none ↔
    (∀ i, new.windows.get i = c.windows.get i) ∧ (∀ u, (new.units.get u).fixed = (c.units.get u).fixed) ∧
      (∀ z, new.zones.get z = c.zones.get z) ∧ (∀ g, (new.gates.get g).fixed = (c.gates.get g).fixed) ∧
      new.fillCount = c.fillCount ∧ (∀ i, new.fillUnits.get i = c.fillUnits.get i) ∧
      (∀ n, (new.cameras.get n).fixed = (c.cameras.get n).fixed) ∧
      (∀ i j, (image.get i).get j = (b.get i).get j) ∧ new.ringSize = c.ringSize := by
  simp only [mismatch, firstRefusal_eq_none, List.forall_mem_cons, refusal_eq_none, differing_eq_nil, fails_eq_nil,
    List.append_eq_nil_iff, List.flatMap_eq_nil_iff, List.mem_finRange, decide_eq_false_iff_not, ne_eq, not_not,
    List.not_mem_nil, false_implies, true_implies, implies_true, and_true, and_assoc]

/-- The entries of a section that differ. -/
theorem mem_differing {n : Nat} (differs : Fin n → Bool) (e : Nat) (k : LoadCode) :
    (e, k) ∈ differing differs ↔ k = .mismatch ∧ ∃ i, e = i.val ∧ differs i = true := by
  simp only [differing, List.mem_flatMap, List.mem_finRange, true_and, mem_fails, Prod.mk.injEq]
  constructor
  · rintro ⟨i, fault, rfl, rfl⟩
    exact ⟨rfl, i, rfl, fault⟩
  · rintro ⟨rfl, i, rfl, fault⟩
    exact ⟨i, fault, rfl, rfl⟩

/-- A section that lists nothing but what differs reports the first of it. -/
theorem reports_mismatch {fs : List Failure} {bad : Nat → Prop} (lists : ∀ e k, (e, k) ∈ fs ↔ k = .mismatch ∧ bad e) :
    Reports fs fun e k => k = .mismatch ∧ bad e :=
  .of_mem (rangeFirst_of_code (code := .mismatch) fun f mem => ((lists f.1 f.2).1 mem).1) lists

/-- A section that lists what differs entry by entry. -/
theorem reports_differing {n : Nat} {differs : Fin n → Bool} {bad : Nat → Prop}
    (entries : ∀ e, bad e ↔ ∃ i, e = i.val ∧ differs i = true) :
    Reports (differing differs) fun e k => k = .mismatch ∧ bad e :=
  reports_mismatch fun e k => (mem_differing differs e k).trans (and_congr_right fun _ => (entries e).symm)

/-- The sections that a PARAMETER image shares with the configuration. -/
theorem Differs.part_mem {part entry : Nat} (h : Differs c new b image part entry) : part ∈ [1, 2, 3, 5, 6, 7, 8, 10] := by
  unfold Differs at h
  split at h
  all_goals simp at h ⊢

/-- The comparison shows the first entry that differs (R161, R173). -/
theorem mismatch_refusesFirst :
    RefusesFirst (fun part entry code => code = .mismatch ∧ Differs c new b image part entry) (mismatch c new b image) := by
  refine refusesFirst_of_reports
    [(1, differing fun i => decide (new.windows.get i ≠ c.windows.get i)),
      (2, differing fun u => decide ((new.units.get u).fixed ≠ (c.units.get u).fixed)),
      (3, differing fun z => decide (new.zones.get z ≠ c.zones.get z)),
      (5, differing fun g => decide ((new.gates.get g).fixed ≠ (c.gates.get g).fixed)),
      (6, fails (decide (new.fillCount ≠ c.fillCount)) (Config.refusalEntry .fillCountDiffers % 8) .mismatch ++
        differing fun i => decide (new.fillUnits.get i ≠ c.fillUnits.get i)),
      (7, differing fun n => decide ((new.cameras.get n).fixed ≠ (c.cameras.get n).fixed)),
      (8, (List.finRange 16).flatMap fun t => (List.finRange 16).flatMap fun k =>
        fails (decide ((image.get t).get k ≠ (b.get t).get k)) (16 * t.val + k.val) .mismatch),
      (10, fails (decide (new.ringSize ≠ c.ringSize)) 0 .mismatch)] (by simp) ?_
    fun p e k ⟨_, differs⟩ => Differs.part_mem _ _ _ _ differs
  have entry : ∀ {p : Prop} [Decidable p], p ↔ decide p = true := decide_eq_true_iff.symm
  simp only [List.forall_mem_cons, List.not_mem_nil, false_implies, implies_true, and_true]
  refine ⟨reports_differing fun _ => exists_congr fun _ => and_congr_right fun _ => entry,
    reports_differing fun _ => exists_congr fun _ => and_congr_right fun _ => entry,
    reports_differing fun _ => exists_congr fun _ => and_congr_right fun _ => entry,
    reports_differing fun _ => exists_congr fun _ => and_congr_right fun _ => entry, reports_mismatch fun e k => ?_,
    reports_differing fun _ => exists_congr fun _ => and_congr_right fun _ => entry, reports_mismatch fun e k => ?_,
    reports_mismatch fun e k => ?_⟩
  · rw [List.mem_append, mem_fails, mem_differing, Prod.mk.injEq]
    simp only [decide_eq_true_eq, Differs]
    tauto
  · simp only [List.mem_flatMap, List.mem_finRange, true_and, mem_fails, Prod.mk.injEq, decide_eq_true_eq]
    constructor
    · rintro ⟨t, i, differs, rfl, rfl⟩
      exact ⟨rfl, t, i, rfl, differs⟩
    · rintro ⟨rfl, t, i, rfl, differs⟩
      exact ⟨t, i, differs, rfl, rfl⟩
  · rw [mem_fails, Prod.mk.injEq, decide_eq_true_eq]
    simp only [Differs]
    tauto

end

/-! ## The lines of an image -/

/-- The bytes of a word, lowest first, by number. -/
theorem wordBytes_eq (w : Word) : wordBytes w = (List.range 8).map fun i => BitVec.ofNat 8 (w.toNat / 256 ^ i) := by
  refine List.map_congr_left fun i _ => ?_
  rw [byteOf, BitVec.extractLsb', Nat.shiftRight_eq_div_pow, pow_mul, show 2 ^ 8 = 256 from rfl]

/-- The bytes of a line. -/
theorem lineBytes_eq (ws : List Word) : ws.flatMap wordBytes =
    ws.flatMap fun w => (List.range 8).map fun i => BitVec.ofNat 8 (w.toNat / 256 ^ i) :=
  List.flatMap_congr fun w _ => wordBytes_eq w

/-- Line `n` of a FULL or PARAMETER image is the one that was read as its `n`-th. -/
theorem imageOf_whole {k : LoadKind} (whole : k ≠ .changeover) (staged : List (List Word)) (n : Nat) :
    (imageOf k staged)[n]? = staged[n]?.map fun ws => ws.flatMap wordBytes := by
  cases k with
  | full | parameter => exact List.getElem?_map
  | changeover => exact absurd rfl whole

/-- Lines 0 and 17 on of a CHANGEOVER image are those that were read. -/
theorem imageOf_changeover (head : List Word) (staged : List (List Word)) (n : Nat) :
    (imageOf .changeover (head :: staged))[0]? = some (head.flatMap wordBytes) ∧
      (imageOf .changeover (head :: staged))[17 + n]? = staged[n]?.map fun ws => ws.flatMap wordBytes := by
  have lines : imageOf .changeover (head :: staged) =
      head.flatMap wordBytes :: (List.replicate 16 [] ++ staged.map fun ws => ws.flatMap wordBytes) := rfl
  rw [lines]
  refine ⟨rfl, ?_⟩
  rw [show 17 + n = 16 + n + 1 by omega, List.getElem?_cons_succ, List.getElem?_append_right (by simp), List.length_replicate,
    Nat.add_sub_cancel_left, List.getElem?_map]

/-- A read of 16 words is staged as it is (log 39). -/
theorem fitWords_of_length {n : Nat} {data : List Word} (length : data.length = n) : fitWords n data = data := by
  subst length
  refine List.ext_getElem (by simp [fitWords]) fun i _ within => ?_
  simp [fitWords, List.getD_eq_getElem?_getD, within]

/-- A line past the sections is of none (R157). -/
theorem partOfLine_past {n : Nat} (past : 35 ≤ n) : partOfLine n = 255 := by
  unfold partOfLine
  simp only [show n ≠ 0 by omega, show ¬ n ≤ 4 by omega, show ¬ n ≤ 10 by omega, show n ≠ 11 by omega, show n ≠ 12 by omega,
    show n ≠ 13 by omega, show n ≠ 14 by omega, show ¬ n ≤ 16 by omega, show ¬ n ≤ 32 by omega, show n ≠ 33 by omega,
    show n ≠ 34 by omega, if_false]

/-- The lines of each section (11.6). -/
theorem partOfLine_table : (List.range 35).map partOfLine =
    [0] ++ List.replicate 4 1 ++ List.replicate 6 2 ++ [3, 4, 5, 6] ++ List.replicate 2 7 ++ List.replicate 16 8 ++ [9, 10] := by
  decide

/-- The lines that a CHANGEOVER load reads (R157). -/
theorem LoadKind.changeover_lines : LoadKind.changeover.lines = 0 :: List.range' 17 16 := by
  decide

end Sys2Proof.Machine
end


section
/-! A line of the image is answered (O60): the load goes on, is refused, or is applied (R157 to R159). -/

namespace Sys2Proof.Machine

/-! ## Which refusal is shown -/

namespace State

variable {s : State}

/-- The lowest-numbered OPEN zone refuses a PARAMETER or CHANGEOVER load (R107, R159). -/
theorem zoneOpenRefusal_some {z : Fin 8} (opened : (s.zones.get z).state = .opened)
    (least : ∀ y, y < z → (s.zones.get y).state ≠ .opened) :
    s.zoneOpenRefusal = some { code := .zoneOpen, part := 3, entry := z.val } := by
  have found : s.openZone = some z := find?_of_least (List.pairwise_lt_finRange 8) (List.mem_finRange z) (decide_eq_true opened)
    fun y _ its => decide_eq_false (least y its)
  rw [zoneOpenRefusal, found, Option.map_some]

/-- No zone is OPEN. -/
theorem zoneOpenRefusal_none (closed : ∀ z, (s.zones.get z).state ≠ .opened) : s.zoneOpenRefusal = none := by
  have found : s.openZone = none := List.find?_eq_none.2 fun z _ opened => closed z (of_decide_eq_true opened)
  rw [zoneOpenRefusal, found, Option.map_none]

/-- A slot of the other bank generation refuses a CHANGEOVER load (R159). -/
theorem generationRefusal_some (other : ∃ q ∈ s.queue, q.generation ≠ s.grading.generation) :
    s.generationRefusal = some { code := .busy, part := 8, entry := 0 } := by
  obtain ⟨q, mem, differs⟩ := other
  exact if_pos (List.any_eq_true.2 ⟨q, mem, decide_eq_true differs⟩)

/-- All are of the current one. -/
theorem generationRefusal_none (same : ∀ q ∈ s.queue, q.generation = s.grading.generation) : s.generationRefusal = none :=
  if_neg fun other => by
    obtain ⟨q, mem, differs⟩ := List.any_eq_true.1 other
    exact of_decide_eq_true differs (same q mem)

/-! ## What the step does -/

/-- The state with the read answered, its other own transactions at memory being `rest`. -/
def readDone (s : State) (rest : List OwnTxn) : State :=
  { s with path := { s.path with ownAtMemory := rest } }

/-- While a load reads, the step stages a line or ends the load (R157). -/
structure Reads (s : State) (k : LoadKind) (rest : List OwnTxn) : Prop where
  /-- A FAULT ends it. -/
  fault : ∀ data, exec (.configReadAnswered false data) s =
    .next ((s.readDone rest).refuseLoad k { code := .readError, part := partOfLine (s.currentLine k), entry := 0 }).settle
  /-- An OKAY stages the line. -/
  okay : ∀ data, exec (.configReadAnswered true data) s = .next ((s.readDone rest).lineStaged k data).settle

variable {k : LoadKind} {o : OwnTxn} {rest : List OwnTxn}

/-- A load reads while a transaction of its own is the oldest at memory. -/
theorem reads_of (atMemory : s.path.ownAtMemory = o :: rest) (mine : o.requester = .config) (reading : s.loader.kind = some k) :
    s.Reads k rest := by
  have head : s.path.ownHead .config = some o := by simp [Path.ownHead, atMemory, mine]
  have done : s.ownAnswered = s.readDone rest := by simp only [ownAnswered, onPath, readDone, atMemory, List.tail_cons]
  refine ⟨fun data => ?_, fun data => ?_⟩
  all_goals
    rw [← done]
    change execConfigReadAnswered _ data s = _
    simp only [execConfigReadAnswered, head, reading]
    rfl

/-! ## A further line -/

/-- A line that is not the last is staged, and the next is read (R157). -/
theorem lineStaged_next {n : Nat} {data : List Word} (next : k.lines[(s.loader.staged ++ [fitWords 16 data]).length]? = some n) :
    s.lineStaged k data =
      (s.onLoader fun l => { l with staged := s.loader.staged ++ [fitWords 16 data] }).present (s.lineRead n) := by
  simp only [lineStaged, next]

/-- With the last line the load ends (R157). -/
theorem lineStaged_last {data : List Word} (last : k.lines.length ≤ (s.loader.staged ++ [fitWords 16 data]).length) :
    s.lineStaged k data = s.finishLoad k (imageOf k (s.loader.staged ++ [fitWords 16 data])) := by
  simp only [lineStaged, List.getElem?_eq_none last]

/-- A load that is refused (R158, R159). -/
theorem finishLoad_refused {m : Image} {r : Refused} (refusal : s.imageRefusal k m = some r) :
    s.finishLoad k m = s.refuseLoad k r := by
  simp only [finishLoad, refusal]

/-- A load that is applied (R159). -/
theorem finishLoad_applied {m : Image} (unrefused : s.imageRefusal k m = none) :
    s.finishLoad k m = (s.applyImage k m).loadApplied k := by
  simp only [finishLoad, unrefused]

/-! ## The end of a load -/

/-- From `s` to `t` the load of kind `k` in flight ends with an outcome of this code, section and entry (R157 to R159, R163). -/
def LoadEnds (s t : State) (k : LoadKind) (code : LoadCode) (part entry : Nat) : Prop :=
  t.loader = { s.loader with
    kind := none, staged := [], outcome := { code := code, kind := k.code, part := part, entry := entry } }

/-- From `s` to `t` the oldest own transaction at memory leaves it, with `waiting` in the own queue then. -/
def PathAnswered (s t : State) (rest waiting : List OwnTxn) : Prop :=
  t.path.ownAtMemory = rest ∧ t.Presents waiting ∧
    { t.path with ownQueue := s.path.ownQueue, ownAtMemory := s.path.ownAtMemory } = s.path

/-- A load that is refused ends with its outcome. -/
theorem refuseLoad_eq (s : State) (k : LoadKind) (r : Refused) : s.refuseLoad k r = { s with
    loader := { s.loader with
      kind := none, staged := [], outcome := { code := r.code, kind := k.code, part := r.part, entry := r.entry } }
    given := s.given ++ [s.outcomeNotice { code := r.code, kind := k.code, part := r.part, entry := r.entry }] } := rfl

/-- So does one that is applied. -/
theorem loadApplied_eq (s : State) (k : LoadKind) : s.loadApplied k = { s with
    loader := { s.loader with kind := none, staged := [], outcome := { code := .applied, kind := k.code, part := 0, entry := 0 } }
    given := s.given ++ [s.outcomeNotice { code := .applied, kind := k.code, part := 0, entry := 0 }] } :=
  s.refuseLoad_eq k { code := .applied, part := 0, entry := 0 }

/-- A step whose path is that of the answered read, with `waiting` in the own queue. -/
theorem pathAnswered_of {a : State} {waiting : List OwnTxn}
    (path : a.path = { s.path with ownAtMemory := rest, ownQueue := waiting }) : s.PathAnswered a.settle rest waiting := by
  refine ⟨?_, settle_presents_of (by rw [path]), ?_⟩
  · rw [settle_path_ownAtMemory, path]
  · have settled := congrArg (fun p : Path => { p with ownQueue := s.path.ownQueue, ownAtMemory := s.path.ownAtMemory })
      (a.settle_path.trans path)
    exact settled

/-- The step stages a line and reads the next (R155, R157). -/
theorem lineStaged_goesOn {n : Nat} {data : List Word}
    (next : k.lines[(s.loader.staged ++ [fitWords 16 data]).length]? = some n) :
    let t := ((s.readDone rest).lineStaged k data).settle
    s.GivesOnly t [] ∧
      s.PathAnswered t rest (s.path.ownQueue ++
        [{ requester := .config, addr := s.cfgBase.toNat * 2 ^ 24 + 128 * n, data := [], oldRing := false }]) ∧
      t.loader = { s.loader with staged := s.loader.staged ++ [fitWords 16 data] } ∧
      { t.unsettled s with loader := s.loader, path := s.path } = s := by
  intro t
  have read : (s.readDone rest).lineRead n =
      { requester := .config, addr := s.cfgBase.toNat * 2 ^ 24 + 128 * n, data := [], oldRing := false } := rfl
  have staged : (s.readDone rest).lineStaged k data = { s with
      loader := { s.loader with staged := s.loader.staged ++ [fitWords 16 data] }
      path := { s.path with
        ownAtMemory := rest
        ownQueue := s.path.ownQueue ++
          [{ requester := .config, addr := s.cfgBase.toNat * 2 ^ 24 + 128 * n, data := [], oldRing := false }] } } := by
    rw [lineStaged_next (s := s.readDone rest) next, read]
    rfl
  simp only [t, staged]
  exact ⟨settle_givesOnly rfl rfl (List.append_nil _).symm, pathAnswered_of rfl, rfl, rfl⟩

/-- From `s` to `t` the load is refused as `r` says, and nothing else changes (R157 to R159, R163). -/
def Refuses (s t : State) (k : LoadKind) (rest : List OwnTxn) (r : Refused) : Prop :=
  s.PathAnswered t rest s.path.ownQueue ∧ s.LoadEnds t k r.code r.part r.entry ∧
    s.GivesOnly t [s.outcomeNotice { code := r.code, kind := k.code, part := r.part, entry := r.entry }] ∧
    { t.unsettled s with loader := s.loader, path := s.path } = s

/-- A load that is refused ends. -/
theorem refuseLoad_refuses (s : State) (k : LoadKind) (rest : List OwnTxn) (r : Refused) :
    s.Refuses ((s.readDone rest).refuseLoad k r).settle k rest r := by
  rw [refuseLoad_eq]
  exact
  ⟨pathAnswered_of rfl, rfl, settle_givesOnly rfl rfl rfl, rfl⟩

/-- The step that reads the last line refuses the load. -/
theorem lineStaged_refuses {data : List Word} {r : Refused} (rest : List OwnTxn)
    (last : k.lines.length ≤ (s.loader.staged ++ [fitWords 16 data]).length)
    (refusal : s.imageRefusal k (imageOf k (s.loader.staged ++ [fitWords 16 data])) = some r) :
    s.Refuses ((s.readDone rest).lineStaged k data).settle k rest r := by
  rw [lineStaged_last (s := s.readDone rest) last, show (s.readDone rest).loader = s.loader from rfl,
    finishLoad_refused (s := s.readDone rest) refusal]
  exact s.refuseLoad_refuses k rest r

/-- The step that reads the last line applies the load. -/
theorem lineStaged_applies {data : List Word} (rest : List OwnTxn)
    (last : k.lines.length ≤ (s.loader.staged ++ [fitWords 16 data]).length)
    (unrefused : s.imageRefusal k (imageOf k (s.loader.staged ++ [fitWords 16 data])) = none) :
    (s.readDone rest).lineStaged k data =
      ((s.readDone rest).applyImage k (imageOf k (s.loader.staged ++ [fitWords 16 data]))).loadApplied k := by
  rw [lineStaged_last (s := s.readDone rest) last, show (s.readDone rest).loader = s.loader from rfl,
    finishLoad_applied (s := s.readDone rest) unrefused]

/-- A CHANGEOVER load fills STAGING (R162). -/
theorem changeover_applied (s : State) (rest : List OwnTxn) (m : Image) :
    let t := (((s.readDone rest).applyImage .changeover m).loadApplied .changeover).settle
    s.PathAnswered t rest s.path.ownQueue ∧ s.LoadEnds t .changeover .applied 0 0 ∧
      s.GivesOnly t [s.outcomeNotice { code := .applied, kind := 3, part := 0, entry := 0 }] ∧
      t.grading = { s.grading with staging := some (Image.bank m) } ∧
      { t.unsettled s with loader := s.loader, path := s.path, grading := s.grading } = s := by
  have applied : (s.readDone rest).applyImage .changeover m =
      { s with path := { s.path with ownAtMemory := rest }, grading := { s.grading with staging := some (Image.bank m) } } := rfl
  rw [applied, loadApplied_eq]
  exact ⟨pathAnswered_of rfl, rfl, settle_givesOnly rfl rfl rfl, rfl, rfl⟩

end State

end Sys2Proof.Machine
end


section
/-! The application of a FULL load (O60): every block is initialised but for what R160 keeps. -/

namespace Sys2Proof.Machine

/-! ## Entries handled one after another -/

/-- A fold that handles the entries of a table one by one, each with the notice it may give. -/
theorem foldl_entries {σ β : Type} {n : Nat} {put : Table β n → List Notice → σ} {f : σ → Fin n → σ} {g : Fin n → β → β}
    {note : Fin n → β → Option Notice}
    (step : ∀ t ns u, f (put t ns) u = put (t.modify u (g u)) (ns ++ (note u (t.get u)).toList)) {l : List (Fin n)}
    (nodup : l.Nodup) (t : Table β n) (ns : List Notice) :
    l.foldl f (put t ns) =
      put (t.mapFin fun u b => if u ∈ l then g u b else b) (ns ++ l.filterMap fun u => note u (t.get u)) := by
  induction l generalizing t ns with
  | nil =>
    have same : (t.mapFin fun u b => if u ∈ ([] : List (Fin n)) then g u b else b) = t := Table.ext_get _ _ fun i => by simp
    rw [same, List.filterMap_nil, List.append_nil, List.foldl_nil]
  | cons u l ih =>
    obtain ⟨fresh, nodup⟩ := List.nodup_cons.1 nodup
    have entries : ((t.modify u (g u)).mapFin fun v b => if v ∈ l then g v b else b) =
        t.mapFin fun v b => if v ∈ u :: l then g v b else b := Table.ext_get _ _ fun v => by
      simp only [Table.get_mapFin, Table.get_modify, List.mem_cons]
      by_cases same : v = u
      · simp [same, fresh]
      · simp [same]
    have notices : l.filterMap (fun v => note v ((t.modify u (g u)).get v)) = l.filterMap fun v => note v (t.get v) :=
      List.filterMap_congr fun v mem => by
        have other : v ≠ u := fun same => fresh (same ▸ mem)
        rw [Table.get_modify_ne _ _ other]
    rw [List.foldl_cons, step, ih nodup, entries, notices, List.append_assoc, List.filterMap_cons]
    cases note u (t.get u) <;> rfl

/-- An entry written twice holds what came last. -/
theorem Table.set_set {α : Type} {n : Nat} (t : Table α n) (i : Fin n) (a b : α) : (t.set i a).set i b = t.set i b :=
  Table.set_modify t i a fun _ => b

/-- All of them are handled. -/
theorem foldl_allEntries {σ β : Type} {n : Nat} {put : Table β n → List Notice → σ} {f : σ → Fin n → σ} {g : Fin n → β → β}
    {note : Fin n → β → Option Notice}
    (step : ∀ t ns u, f (put t ns) u = put (t.modify u (g u)) (ns ++ (note u (t.get u)).toList)) (t : Table β n)
    (ns : List Notice) :
    (List.finRange n).foldl f (put t ns) = put (t.mapFin g) (ns ++ (List.finRange n).filterMap fun u => note u (t.get u)) := by
  rw [foldl_entries step (List.nodup_finRange n)]
  simp only [List.mem_finRange, if_true]

/-! ## The due flags (R18) -/

/-- An account has reached its new threshold. -/
def Account.dueUnder (a : Account) (old new : Nat) : Bool :=
  decide (new ≠ old) && decide (new ≠ 0) && decide (new * 3600 ≤ a.seconds)

/-- An account with its due flag tested anew when the threshold changes. -/
def Account.retested (a : Account) (old new : Nat) : Account :=
  if new = old then a else { a with due := a.dueUnder old new }

namespace State

/-- The accounts tested anew, each with its unit's old and new threshold. -/
def accountsRetested (s : State) (old new : Option HallConfig) : Table Account 24 :=
  s.time.accounts.mapFin fun u a => a.retested (thresholdOf old u) (thresholdOf new u)

/-- MAINT_DUE of a unit found due. -/
def dueNotice (s : State) (old new : Option HallConfig) (u : Fin 24) (a : Account) : Option Notice :=
  if a.dueUnder (thresholdOf old u) (thresholdOf new u) then
    some { s.note .maintDue with subject := u.val, detail := detailNat a.seconds }
  else none

/-- The state with these accounts, having given these notices. -/
def withAccounts (s : State) (t : Table Account 24) (ns : List Notice) : State :=
  { s with time := { s.time with accounts := t }, given := ns }

/-- One unit's due flag re-tested, in one equation (R18). -/
theorem retestDue_eq (s : State) (old : Option HallConfig) (u : Fin 24) : s.retestDue old u =
    s.withAccounts (s.time.accounts.modify u fun a => a.retested (thresholdOf old u) (thresholdOf s.config u))
      (s.given ++ (s.dueNotice old s.config u (s.time.accounts.get u)).toList) := by
  have seconds (f : Bool) : ((s.onAccount u fun a => { a with due := f }).time.accounts.get u).seconds =
      (s.time.accounts.get u).seconds := by simp
  by_cases same : thresholdOf s.config u = thresholdOf old u
  · simp [retestDue, Account.retested, dueNotice, Account.dueUnder, same, withAccounts]
  · simp only [retestDue, same, if_false, seconds]
    split
    · next reaches =>
      have due : (s.time.accounts.get u).dueUnder (thresholdOf old u) (thresholdOf s.config u) = true := by
        simp [Account.dueUnder, same, reaches]
      simp [dueNotice, Account.retested, same, due, Table.modify, setDue, onAccount, onTime, give, note, withAccounts, Table.set_set]
    · next short =>
      have due : (s.time.accounts.get u).dueUnder (thresholdOf old u) (thresholdOf s.config u) = false := by
        simpa [Account.dueUnder, same] using short
      simp [dueNotice, Account.retested, same, due, Table.modify, onAccount, onTime, withAccounts]

/-- The due flags re-tested, in one equation (R18). -/
theorem retestDues_eq (s : State) (old : Option HallConfig) : s.retestDues old =
    s.withAccounts (s.accountsRetested old s.config)
      (s.given ++ (List.finRange 24).filterMap fun u => s.dueNotice old s.config u (s.time.accounts.get u)) := by
  have start : s.retestDues old =
      (List.finRange 24).foldl (fun s u => s.retestDue old u) (s.withAccounts s.time.accounts s.given) := rfl
  rw [start]
  exact foldl_allEntries (fun t ns u => (s.withAccounts t ns).retestDue_eq old u) _ _

/-- The accounts are those that R18 asks for. -/
theorem accountsRetested_of {s t : State} {new : HallConfig} (accounts : t.time.accounts = s.accountsRetested s.config (some new)) :
    s.AccountsRetested t new := fun u => by
  rw [accounts, accountsRetested, Table.get_mapFin]
  rfl

/-- The notices are those that R18 asks for. -/
theorem dueNotices_eq (s : State) (new : HallConfig) :
    ((List.finRange 24).filterMap fun u => s.dueNotice s.config (some new) u (s.time.accounts.get u)) = s.dueNotices new :=
  rfl

/-! ## FULL -/

/-- Gates that follow move the line-hold set and give notices. -/
theorem followGates_eq (s : State) (c : HallConfig) : (s.followGate c 0).followGate c 1 =
    { s with
      given := ((s.followGate c 0).followGate c 1).given
      lineHold := ((s.followGate c 0).followGate c 1).lineHold } := by
  rw [show (s.followGate c 0).followGate c 1 =
    { (s.followGate c 0).followGate c 1 with given := ((s.followGate c 0).followGate c 1).given } from rfl]
  simp

/-- Nothing is held for a gate without a unit. -/
theorem followGates_holds_none (s : State) {c : HallConfig} {g : Fin 2} (without : c.gateUnit g = none) (k : LineCause) :
    ((s.followGate c 0).followGate c 1).holds g k = s.holds g k := by
  have own : ∀ s : State, s.followGate c g = s := fun s => by simp only [followGate, without]
  match g with
  | 0 => rw [followGate_holds_stands _ c (.inl (by decide)), own]
  | 1 => rw [own, followGate_holds_stands _ c (.inl (by decide))]

/-- The notices of the application that do not come of the line-hold set or of due flags (R10, R14, R105). -/
def reloadNotices (s : State) (c : HallConfig) : List Notice :=
  s.clockNoneNotices c ++ s.lineStoppedNotices ++ (List.finRange 8).filterMap s.cancelNotice

/-- The state in which the gates follow. -/
def reloaded (s : State) (c : HallConfig) (b : Bank) : State :=
  { s.reload c b with given := s.given ++ s.reloadNotices c }

/-- The line-hold set of the fresh gates. -/
def reloadedHold (s : State) (c : HallConfig) (b : Bank) : BitVec 14 :=
  (((s.reloaded c b).followGate c 0).followGate c 1).lineHold

/-- The application of a FULL load in one equation (R160): the line-hold set gives handed notices. -/
theorem applyFull_eq (s : State) (c : HallConfig) (b : Bank) : ∃ more, (∀ n ∈ more, n.handed = true) ∧ s.applyFull c b =
    { s.reload c b with
      lineHold := s.reloadedHold c b
      robots := Table.ofFn fun u => if c.isRobot u then some (Robot.loaded (decide (s.reloadedHold c b ≠ 0))) else none
      time := { s.time.reload with accounts := s.accountsRetested s.config (some c) }
      given := s.given ++ s.reloadNotices c ++ more ++ s.dueNotices c } := by
  obtain ⟨more, given, handed⟩ := (s.reloaded c b).followGate_given c 0
  obtain ⟨more', given', handed'⟩ := ((s.reloaded c b).followGate c 0).followGate_given c 1
  refine ⟨more ++ more', fun n mem => (List.mem_append.1 mem).elim (handed n) (handed' n), ?_⟩
  have followed : ((s.reloaded c b).followGate c 0).followGate c 1 = { s.reload c b with
      lineHold := s.reloadedHold c b, given := s.given ++ s.reloadNotices c ++ (more ++ more') } := by
    rw [followGates_eq, given', given, List.append_assoc]
    rfl
  have robots : s.applyFull c b = ((((s.reloaded c b).followGate c 0).followGate c 1).reloadRobots c).retestDues s.config := rfl
  rw [robots, followed, retestDues_eq]
  rfl

end State
end Sys2Proof.Machine
end


section
/-! A FULL load is applied (O60): what stands and what is initialised (R160). -/

namespace Sys2Proof.Machine

/-- The report unit after a FULL load (R169). -/
theorem Report.reload_eq (r : Report) : r.reload = { r with
    lastSeq := none
    slot := if r.snapshot = none then .idle else .inProgress
    reply := if r.snapshot = none then none else r.reply
    producer := 0
    consumer := 0 } := by
  cases flying : r.snapshot <;> simp [Report.reload, flying]

namespace State

/-! ## The line-hold set of fresh gates -/

/-- The fresh gates are OFFLINE, behind a DOWN port, in a zone in START (R67). -/
theorem reloaded_gateCondition (s : State) (c : HallConfig) (b : Bank) (u : Fin 24) (k : LineCause) :
    (s.reloaded c b).gateCondition c u GateRec.loaded k = true ↔ k = .port ∨ k = .lost ∨ k = .zone := by
  have port : (s.reloaded c b).portStateOf c u ≠ .active := fun active => by
    obtain ⟨p, -, its⟩ := (portStateOf_active _ _ _).1 active
    rw [show (s.reloaded c b).ports.get p = Port.fresh from Table.get_replicate _ p] at its
    cases its
  have zone : (s.reloaded c b).zoneStateOf c u ≠ .run := fun run => by
    obtain ⟨z, -, its⟩ := (zoneStateOf_run _ _ _).1 run
    rw [show (s.reloaded c b).zones.get z = Zone.fresh from Table.get_replicate _ z] at its
    cases its
  cases k <;> simp [gateCondition, port, zone, GateRec.loaded]

/-- The line-hold set after a FULL load (R67, R75). -/
theorem reloaded_holds (s : State) (c : HallConfig) (b : Bank) (g : Fin 2) (k : LineCause) :
    (((s.reloaded c b).followGate c 0).followGate c 1).holds g k = true ↔
      c.gateUnit g ≠ none ∧ (k = .port ∨ k = .lost ∨ k = .zone) := by
  have empty : (s.reloaded c b).holds g k = false := by
    rw [holds, show (s.reloaded c b).lineHold = 0#14 from rfl, BitVec.getLsbD_zero]
  cases unit : c.gateUnit g with
  | none => simp [followGates_holds_none _ unit, empty]
  | some u =>
    have gate : (s.reloaded c b).gates.get g = some GateRec.loaded :=
      (Table.get_ofFn _ g).trans (if_pos ((c.gateUnit_iff g u).1 unit).1)
    rw [← s.reloaded_gateCondition c b u k]
    by_cases conditional : k = .port ∨ k = .lost ∨ k = .fault ∨ k = .zone
    · simp [followGates_holds _ unit gate conditional]
    · have latched : k = .missed ∨ k = .mismatch ∨ k = .unconfirmed := by
        cases k <;> simp at conditional ⊢
      rw [followGate_holds_stands _ c (.inr latched), followGate_holds_stands _ c (.inr latched), empty]
      rcases latched with rfl | rfl | rfl <;> simp [gateCondition]

/-! ## The notices -/

/-- The completions that a FULL load brings about (R105). -/
theorem cancelNotice_eq (s : State) : (List.finRange 8).filterMap s.cancelNotice = s.cancelledNotices :=
  List.filterMap_congr fun z _ => by
    rw [cancelNotice, show ZoneState.start.code = 0 from rfl]
    simp only [Nat.zero_add, Nat.reducePow]

/-- No notice of the application is a handed-on one. -/
theorem mem_reloadNotices {s : State} {c : HallConfig} {n : Notice} (mem : n ∈ s.reloadNotices c) : n.handed = false := by
  simp only [reloadNotices, List.mem_append, List.mem_filterMap] at mem
  rcases mem with (mem | mem) | ⟨z, -, mem⟩
  · unfold clockNoneNotices at mem
    split at mem
    · cases mem
    · obtain rfl := List.mem_singleton.1 mem
      rfl
  · unfold lineStoppedNotices at mem
    split at mem
    · obtain rfl := List.mem_singleton.1 mem
      rfl
    · cases mem
  · obtain ⟨q, -, rfl⟩ := Option.map_eq_some_iff.1 mem
    rfl

/-- Neither is MAINT_DUE. -/
theorem mem_dueNotices {s : State} {c : HallConfig} {n : Notice} (mem : n ∈ s.dueNotices c) : n.kind = .maintDue := by
  obtain ⟨u, -, its⟩ := List.mem_filterMap.1 mem
  split at its
  · exact Option.some.inj its ▸ rfl
  · cases its

/-- The subject of CLOCK_NONE is the old or the new clock unit (R10, log 12). -/
theorem clockNoneSubject_eq (old : Option HallConfig) (new : HallConfig) :
    ∃ unit, (unit = old.bind HallConfig.clockUnit ∨ unit = new.clockUnit) ∧ clockNoneSubject old new = (unit.map Fin.val).getD 0 := by
  refine ⟨if Config.clockNoneNamesNew then new.clockUnit else old.bind HallConfig.clockUnit, ?_, rfl⟩
  cases Config.clockNoneNamesNew
  · exact .inl rfl
  · exact .inr rfl

/-! ## The load applied -/

/-- The state in which the application of a FULL load settles, the line-hold set being `hold`. -/
def fullyLoaded (s : State) (c : HallConfig) (b : Bank) (rest : List OwnTxn) (hold : BitVec 14) (more : List Notice) : State :=
  { s.reload c b with
    lineHold := hold
    robots := Table.ofFn fun u => if c.isRobot u then some (Robot.loaded (decide (hold ≠ 0))) else none
    time := { s.time.reload with accounts := s.accountsRetested s.config (some c) }
    path := (s.readDone rest).path.reload
    loader := { s.loader with kind := none, staged := [], outcome := { code := .applied, kind := 1, part := 0, entry := 0 } }
    given := s.given ++ s.reloadNotices c ++ more ++ s.dueNotices c ++
      [s.outcomeNotice { code := .applied, kind := 1, part := 0, entry := 0 }] }

/-- The step that applies a FULL load settles there. -/
theorem applyFull_fullyLoaded (s : State) (c : HallConfig) (b : Bank) (rest : List OwnTxn) :
    ∃ more, (∀ n ∈ more, n.handed = true) ∧ ((s.readDone rest).applyFull c b).loadApplied .full =
      s.fullyLoaded c b rest ((s.readDone rest).reloadedHold c b) more := by
  obtain ⟨more, handed, eq⟩ := (s.readDone rest).applyFull_eq c b
  refine ⟨more, handed, ?_⟩
  rw [eq, loadApplied_eq]
  rfl

/-- A list without handed notices. -/
theorem filter_unhanded {l : List Notice} (own : ∀ n ∈ l, n.handed = false) : l.filter (fun n => !n.handed) = l :=
  List.filter_eq_self.2 fun n mem => by rw [own n mem]; rfl

/-- The notices of the application (R160, R163). -/
theorem fullyLoaded_gives (s : State) (c : HallConfig) (b : Bank) (rest : List OwnTxn) (hold : BitVec 14) {more : List Notice}
    (handed : ∀ n ∈ more, n.handed = true) : s.Gives (s.fullyLoaded c b rest hold more).settle
      (s.reloadNotices c ++ s.dueNotices c ++ [s.outcomeNotice { code := .applied, kind := 1, part := 0, entry := 0 }]) := by
  refine settle_notices rfl rfl fun none => ?_
  have given : (s.fullyLoaded c b rest hold more).given = s.reloadNotices c ++ more ++ s.dueNotices c ++
      [s.outcomeNotice { code := .applied, kind := 1, part := 0, entry := 0 }] := by
    simp only [fullyLoaded, none, List.nil_append]
  have passed : more.filter (fun n => !n.handed) = [] := List.filter_eq_nil_iff.2 fun n mem => by simp [handed n mem]
  have due : ∀ n ∈ s.dueNotices c, n.handed = false := fun n mem => by
    simp [Notice.handed, mem_dueNotices mem, NoticeKind.rule]
  rw [given, List.filter_append, List.filter_append, List.filter_append, filter_unhanded fun n => mem_reloadNotices, passed,
    filter_unhanded due, List.append_nil]
  rfl

/-- A FULL load is applied as R160 says. -/
theorem fullApplied_of {s : State} (c : HallConfig) (b : Bank) (rest : List OwnTxn) {hold : BitVec 14} {more : List Notice}
    (handed : ∀ n ∈ more, n.handed = true)
    (holds : ∀ g k, hold.getLsbD (lineIndex g k) = true ↔ c.gateUnit g ≠ none ∧ (k = .port ∨ k = .lost ∨ k = .zone)) :
    s.FullApplied (s.fullyLoaded c b rest hold more).settle c b where
  config := rfl
  time := rfl
  accounts := accountsRetested_of rfl
  queue := rfl
  grading := rfl
  gates g := Table.get_ofFn _ g
  lineHold := holds
  robots u := by
    rw [settle_robots, settle_lineHold]
    refine (Table.get_ofFn _ u).trans ?_
    have line : causeIf .line (decide (hold ≠ 0)) = if hold = 0 then 0 else causeBit .line := by
      by_cases empty : hold = 0 <;> simp [causeIf, empty]
    simp only [HallConfig.isRobot, decide_eq_true_eq, Robot.loaded, line]
    rfl
  zones z := Table.get_replicate _ z
  ports p := Table.get_replicate _ p
  table := rfl
  path := rfl
  report := Report.reload_eq s.report
  pins := ⟨rfl, rfl, rfl⟩
  notices := by
    obtain ⟨unit, its, subject⟩ := clockNoneSubject_eq s.config c
    refine ⟨unit, its, ?_⟩
    rw [← subject, ← s.cancelNotice_eq]
    exact s.fullyLoaded_gives c b rest hold handed

/-- The step that applies a FULL load: the path with the old ring's notice writes marked, the outcome, and what R160 says. -/
theorem full_applied (s : State) (rest : List OwnTxn) (m : Image) :
    let t := (((s.readDone rest).applyImage .full m).loadApplied .full).settle
    let old : OwnTxn → OwnTxn := fun o => if o.requester = .notice then { o with oldRing := true } else o
    s.LoadEnds t .full .applied 0 0 ∧ s.FullApplied t (Image.config m) (Image.bank m) ∧ t.path.ownAtMemory = rest.map old ∧
      t.Presents (s.path.ownQueue.map old) := by
  intro t old
  obtain ⟨more, handed, eq⟩ := s.applyFull_fullyLoaded (Image.config m) (Image.bank m) rest
  have settles : t = (s.fullyLoaded (Image.config m) (Image.bank m) rest
      ((s.readDone rest).reloadedHold (Image.config m) (Image.bank m)) more).settle := congrArg settle eq
  rw [settles]
  exact ⟨rfl, fullApplied_of _ _ rest handed ((s.readDone rest).reloaded_holds _ _), rfl, settle_presents_of rfl⟩

end State

end Sys2Proof.Machine
end


section
/-! SUPPORT. The tests of a PARAMETER load (R161, log 33): each timer and count that it changes is tested anew, in one state that
`State.retested` says before the change is handed on. -/

namespace Sys2Proof.Machine

/-- A timer that runs has reached its length. -/
theorem timerDue_iff (start : Option Nat) (len now : Nat) : timerDue start len now = true ↔ ∃ b, start = some b ∧ b + len ≤ now := by
  cases start <;> simp [timerDue]

/-- Both entries of a table of two are changed. -/
theorem Table.modify_both {α : Type} (t : Table α 2) (f : Fin 2 → α → α) :
    (t.modify 0 (f 0)).modify 1 (f 1) = t.mapFin f :=
  Table.ext_get _ _ fun i => by
    match i with
    | 0 => simp [Table.get_modify]
    | 1 => simp [Table.get_modify]

/-! ## The records -/

/-- A gate's record when its changed status timeout is tested (R66). -/
def GateRec.retested (r : GateRec) (old new : HallConfig) (g : Fin 2) (now : Nat) : GateRec :=
  if (old.gates.get g).statusTimeout ≠ (new.gates.get g).statusTimeout ∧
      timerDue r.statusStart (ms (new.gates.get g).statusTimeout) now = true then
    { r with accepted := .lost, statusStart := none }
  else r

/-- A robot's changed status timeout has run out (R84). -/
def Robot.lateUnder (r : Robot) (old new : HallConfig) (u : Fin 24) (now : Nat) : Bool :=
  decide ((old.units.get u).statusTimeout ≠ (new.units.get u).statusTimeout) &&
    timerDue r.statusStart (ms (new.units.get u).statusTimeout) now

/-- A robot's record when the suspect threshold is tested (R79). -/
def Robot.latched (r : Robot) (threshold : Nat) : Robot :=
  if r.turnsSuspect threshold then { r with suspect := true } else r

/-- A port in LISTEN has been silent for the loaded silence time (R127, R136). -/
def Port.silent (r : Port) (new : HallConfig) (p : Fin 16) (now : Nat) : Bool :=
  decide (r.state = .listen) && timerDue r.silence (ms (new.ports.get p).silence) now

/-- A port's record when it is tested. -/
def Port.retested (r : Port) (new : HallConfig) (p : Fin 16) (now : Nat) : Port :=
  if r.silent new p now then r.activated .silence else r

namespace State

/-! ## The line -/

/-- A changed stop time has run out (R14). -/
def stopsUnder (s : State) (old new : HallConfig) : Bool :=
  decide (old.timers.stopTime ≠ new.timers.stopTime) && s.time.running &&
    timerDue s.time.stopStart (ms new.timers.stopTime) s.time.localTime

/-- The stop time re-tested, in one equation (R14). -/
theorem retestStop_eq (s : State) (old new : HallConfig) : s.retestStop old new = { s with
    time := if s.stopsUnder old new then { s.time with running := false, stopStart := none } else s.time
    given := s.given ++ if s.stopsUnder old new then [{ s.note .lineStopped with bottle := s.time.newest }] else [] } := by
  have due : (old.timers.stopTime ≠ new.timers.stopTime ∧ s.time.running = true ∧
      timerDue s.time.stopStart (ms new.timers.stopTime) s.time.localTime = true) ↔ s.stopsUnder old new = true := by
    simp only [stopsUnder, Bool.and_eq_true, decide_eq_true_eq, and_assoc]
  simp only [retestStop, due]
  split
  · rfl
  · rw [List.append_nil]

/-! ## The gates -/

/-- A gate's status timeout re-tested, in one equation (R66). -/
theorem retestGate_eq (s : State) (old new : HallConfig) (g : Fin 2) : s.retestGate old new g = { s with
    gates := s.gates.modify g (Option.map fun r => r.retested old new g s.time.localTime) } := by
  cases record : s.gates.get g with
  | none =>
    have stands : s.gates.modify g (Option.map fun r => r.retested old new g s.time.localTime) = s.gates := by
      rw [Table.modify, record, Option.map_none, ← record, Table.set_get]
    simp [retestGate, gateTimeoutDue, record, stands]
  | some r =>
    simp only [retestGate, gateTimeoutDue, record, gateLost, onGate, Table.modify, GateRec.retested, Option.map_some]
    split
    · rfl
    · rw [← record, Table.set_get]

/-- Both gates' status timeouts re-tested (R66). -/
theorem retestGates_eq (s : State) (old new : HallConfig) : (s.retestGate old new 0).retestGate old new 1 = { s with
    gates := s.gates.mapFin fun g => Option.map fun r => r.retested old new g s.time.localTime } := by
  rw [retestGate_eq, retestGate_eq,
    ← Table.modify_both s.gates fun g => Option.map fun r => r.retested old new g s.time.localTime]

/-! ## The robots -/

/-- The state with these robots, having given these notices. -/
def withRobots (s : State) (t : Table (Option Robot) 24) (ns : List Notice) : State :=
  { s with robots := t, given := ns }

/-- The state with these ports, having given these notices. -/
def withPorts (s : State) (t : Table Port 16) (ns : List Notice) : State :=
  { s with ports := t, given := ns }

/-- A robot's record is found late (R84). -/
def lateRobot (s : State) (old new : HallConfig) (u : Fin 24) : Option Robot :=
  (s.robots.get u).filter fun r => r.lateUnder old new u s.time.localTime

/-- The late robots, by number. -/
theorem lateRobots_eq (s : State) (old new : HallConfig) :
    s.lateRobots old new = (List.finRange 24).filterMap fun u => (s.lateRobot old new u).map fun r => (u, r) :=
  List.filterMap_congr fun u _ => by
    cases record : s.robots.get u with
    | none => simp [lateRobot, robotTimeoutDue, record]
    | some r => simp [lateRobot, robotTimeoutDue, record, Robot.lateUnder, Option.filter, apply_ite]

/-- ROBOT_LOST of a robot that is late (R85). -/
def lateNotice (s : State) (old new : HallConfig) (u : Fin 24) : Option Notice :=
  (s.lateRobot old new u).bind fun r =>
    if r.accepted = .lost then none
    else some { s.note .robotLost with subject := u.val, detail := BitVec.ofNat 32 r.accepted.code }

/-- The late robots are lost, in one equation (R84, R85). -/
theorem loseLate_eq (s y : State) (old new : HallConfig) (hall : y.time.hall = s.time.hall) :
    (s.lateRobots old new).foldl (fun y r => y.loseRobot r.1 r.2) y =
      y.withRobots (y.robots.mapFin fun u o => if (s.lateRobot old new u).isSome then o.map Robot.lose else o)
        (y.given ++ (List.finRange 24).filterMap (s.lateNotice old new)) := by
  rw [lateRobots_eq, List.foldl_filterMap]
  refine foldl_allEntries (put := y.withRobots) (note := fun u _ => s.lateNotice old new u) (fun t ns u => ?_) y.robots y.given
  cases late : s.lateRobot old new u with
  | none => simp [lateNotice, late]
  | some r =>
    have notices : (y.withRobots t ns).lostNotices u r = (s.lateNotice old new u).toList := by
      simp only [lateNotice, late, lostNotices, note, hall, withRobots, Option.bind_some]
      split <;> rfl
    simp only [Option.map_some, loseRobot_eq, notices, Option.isSome_some, if_true]
    rfl

/-! ## The suspect latches -/

/-- ROBOT_SUSPECT of a record that reaches the threshold (R79). -/
def latchedNotice (s : State) (new : HallConfig) (u : Fin 24) (r : Robot) : Option Notice :=
  if r.turnsSuspect new.timers.suspectThreshold then
    some { s.note .robotSuspect with subject := u.val, detail := detailNat r.ones }
  else none

/-- It is read from hall time. -/
theorem latchedNotice_congr {s y : State} (hall : y.time.hall = s.time.hall) (new : HallConfig) :
    y.latchedNotice new = s.latchedNotice new := by
  funext u r
  rw [latchedNotice, note, hall]
  rfl

/-- A robot's latch re-tested, in one equation (R79). -/
theorem retestSuspect_eq (s : State) (new : HallConfig) (u : Fin 24) : s.retestSuspect new u =
    s.withRobots (s.robots.modify u (Option.map fun r => r.latched new.timers.suspectThreshold))
      (s.given ++ ((s.robots.get u).bind (s.latchedNotice new u)).toList) := by
  cases record : s.robots.get u with
  | none =>
    have stands : s.robots.modify u (Option.map fun r => r.latched new.timers.suspectThreshold) = s.robots := by
      rw [Table.modify, record, Option.map_none, ← record, Table.set_get]
    simp [retestSuspect, record, withRobots, stands]
  | some r =>
    simp only [retestSuspect, record, Table.modify, Robot.latched, latchedNotice, Option.bind_some, Option.map_some]
    split
    · rw [latchSuspect, onRobot, Table.modify, record]
      rfl
    · rw [← record, Table.set_get]
      exact congrArg (s.withRobots s.robots) (List.append_nil _).symm

/-- All latches re-tested (R79). -/
theorem retestSuspects_eq (s : State) (new : HallConfig) : (List.finRange 24).foldl (fun s u => s.retestSuspect new u) s =
    s.withRobots (s.robots.mapFin fun _ => Option.map fun r => r.latched new.timers.suspectThreshold)
      (s.given ++ (List.finRange 24).filterMap fun u => (s.robots.get u).bind (s.latchedNotice new u)) := by
  have start : s = s.withRobots s.robots s.given := rfl
  rw (occs := .pos [1]) [start]
  exact foldl_allEntries (put := s.withRobots) (note := fun u o => o.bind (s.latchedNotice new u))
    (fun t ns u => (s.withRobots t ns).retestSuspect_eq new u) s.robots s.given

/-! ## The silent ports -/

/-- PORT_STATE of a port that returns to ACTIVE (R131). -/
def silentNotice (s : State) (new : HallConfig) (p : Fin 16) (r : Port) : Option Notice :=
  if r.silent new p s.time.localTime then
    some { s.note .portState with
      subject := portId p, code := PortState.active.code, detail := detailNat PortReason.silence.code }
  else none

/-- It is read from the time. -/
theorem silentNotice_congr {s y : State} (hall : y.time.hall = s.time.hall) (now : y.time.localTime = s.time.localTime)
    (new : HallConfig) : y.silentNotice new = s.silentNotice new := by
  funext p r
  rw [silentNotice, note, hall, now]
  rfl

/-- A port's silence re-tested, in one equation (R127, R136). -/
theorem retestSilence_eq (s : State) (new : HallConfig) (p : Fin 16) : s.retestSilence new p =
    s.withPorts (s.ports.modify p fun r => r.retested new p s.time.localTime)
      (s.given ++ (s.silentNotice new p (s.ports.get p)).toList) := by
  have due : s.silenceDue new p = (s.ports.get p).silent new p s.time.localTime := rfl
  simp only [retestSilence, due, silentNotice, Table.modify, Port.retested]
  split
  · rfl
  · simp [withPorts]

/-- All ports' silence re-tested (R127, R136). -/
theorem retestSilences_eq (s : State) (new : HallConfig) : (List.finRange 16).foldl (fun s p => s.retestSilence new p) s =
    s.withPorts (s.ports.mapFin fun p r => r.retested new p s.time.localTime)
      (s.given ++ (List.finRange 16).filterMap fun p => s.silentNotice new p (s.ports.get p)) := by
  have start : s = s.withPorts s.ports s.given := rfl
  rw (occs := .pos [1]) [start]
  exact foldl_allEntries (put := s.withPorts) (fun t ns p => (s.withPorts t ns).retestSilence_eq new p) s.ports s.given

/-! ## All of them -/

/-- The robots tested anew (R79, R84). -/
def robotsRetested (s : State) (old new : HallConfig) : Table (Option Robot) 24 :=
  (s.robots.mapFin fun u o => if (s.lateRobot old new u).isSome then o.map Robot.lose else o).mapFin fun _ =>
    Option.map fun r => r.latched new.timers.suspectThreshold

/-- ROBOT_SUSPECT of the robots that turn SUSPECT under the new threshold (R79). -/
def suspectNotices (s : State) (old new : HallConfig) : List Notice :=
  (List.finRange 24).filterMap fun u =>
    (if (s.lateRobot old new u).isSome then (s.robots.get u).map Robot.lose else s.robots.get u).bind (s.latchedNotice new u)

/-- LINE_STOPPED of a line that the new stop time stops (R14). -/
def stopNotices (s : State) (old new : HallConfig) : List Notice :=
  if s.stopsUnder old new then [{ s.note .lineStopped with bottle := s.time.newest }] else []

/-- The notices of the tests, in their order (log 33). -/
def retestNotices (s : State) (old new : HallConfig) : List Notice :=
  s.dueNotices new ++ s.stopNotices old new ++ (List.finRange 24).filterMap (s.lateNotice old new) ++ s.suspectNotices old new ++
    (List.finRange 16).filterMap fun p => s.silentNotice new p (s.ports.get p)

/-- The time unit after the tests: the line stops when the new stop time has run out (R14), and the accounts' due flags are tested
(R18). -/
def timeRetested (s : State) (old new : HallConfig) : TimeUnit :=
  let t := { s.time with accounts := s.accountsRetested (some old) (some new) }
  if s.stopsUnder old new then { t with running := false, stopStart := none } else t

/-- The state after the tests, before the change is handed on. -/
def retested (s : State) (old new : HallConfig) : State :=
  { s with
    config := some new
    time := s.timeRetested old new
    gates := s.gates.mapFin fun g => Option.map fun r => r.retested old new g s.time.localTime
    robots := s.robotsRetested old new
    ports := s.ports.mapFin fun p r => r.retested new p s.time.localTime
    given := s.given ++ s.retestNotices old new }

/-- Hall time and local time stand. -/
theorem timeRetested_clock (s : State) (old new : HallConfig) :
    (s.timeRetested old new).hall = s.time.hall ∧ (s.timeRetested old new).localTime = s.time.localTime := by
  unfold timeRetested
  split <;> exact ⟨rfl, rfl⟩

/-- The tests, in one equation. -/
theorem applyParameter_eq {s : State} {old : HallConfig} (config : s.config = some old) (new : HallConfig) :
    s.applyParameter old new = (s.lateRobots old new).foldl (fun s r => s.zoneSees new r.1 r.2.accepted .lost)
      (s.retested old new).handOn := by
  have timed : ({ s with config := some new }.retestDues (some old)).retestStop old new = { s with
      config := some new
      time := s.timeRetested old new
      given := s.given ++ s.dueNotices new ++ s.stopNotices old new } := by
    rw [retestDues_eq, retestStop_eq, ← dueNotices_eq, config]
    rfl
  obtain ⟨hall, now⟩ := s.timeRetested_clock old new

  simp only [applyParameter]
  rw [timed, retestGates_eq, loseLate_eq s _ old new hall, retestSuspects_eq, retestSilences_eq]
  refine congrArg (fun y : State => List.foldl _ y.handOn _) ?_
  rw [latchedNotice_congr (s := s) hall, silentNotice_congr (s := s) hall now]
  simp only [withRobots, withPorts, Table.get_mapFin, now, retested, retestNotices, robotsRetested, suspectNotices, List.append_assoc]

end State

end Sys2Proof.Machine
end


section
/-! SUPPORT. What the zones make of the robots that a PARAMETER load loses (R84, R116, R117, log 48): the first of its members to leave
SAFE takes a zone in REQUESTED or BREAK to HELD, where it minds no other. -/

namespace Sys2Proof.Machine

/-! ## One robot -/

/-- A zone minds the loss of robot `u`, whose accepted state was `old` (R116, R117). -/
def Zone.Minds (k : Zone) (u : Fin 24) (old : MachineState) : Prop :=
  old = .safe ∧ (k.state = .breakpoint ∨ (k.state = .requested ∧ u ∈ k.safeReached))

/-- A zone in HELD minds none. -/
theorem Zone.not_minds_of_held {k : Zone} (held : k.state = .held) (u : Fin 24) (old : MachineState) : ¬ k.Minds u old := by
  rintro ⟨-, state | ⟨state, -⟩⟩
  · cases held.symm.trans state
  · cases held.symm.trans state

/-- The origin of the completion of a zone that falls: its ENTER in flight, or none (R110, R111). -/
def Zone.fallOrigin (k : Zone) : Origin :=
  match k.inFlight with
  | some q => .command q
  | none => .autonomous

namespace ZoneFall

variable {k k' : Zone} {u : Fin 24} {old : MachineState} {l : List (Completion × Origin)}

/-- A zone that does not mind stands. -/
theorem of_not_minds (fall : ZoneFall k u old k' l) (calm : ¬ k.Minds u old) : l = [] ∧ k' = k := by
  cases fall with
  | stands => exact ⟨rfl, rfl⟩
  | requested state safe member => exact absurd ⟨safe, .inr ⟨state, member⟩⟩ calm
  | idle state safe member => exact absurd ⟨safe, .inr ⟨state, member⟩⟩ calm
  | breakpoint state safe => exact absurd ⟨safe, .inl state⟩ calm

/-- One that minds is in HELD then. -/
theorem held_of_minds (fall : ZoneFall k u old k' l) (minds : k.Minds u old) : k'.state = .held := by
  cases fall with
  | stands calm =>
    obtain ⟨safe, state | ⟨state, member⟩⟩ := minds
    · simp [safe, state] at calm
    · simp [safe, state, member] at calm
  | requested | idle | breakpoint => rfl

/-- Where an ENTER is in flight in REQUESTED and nowhere else, it falls as R117 says. -/
theorem heldBy_of_minds (fall : ZoneFall k u old k' l) (minds : k.Minds u old) (flight : k.state = .requested ↔ k.inFlight ≠ none) :
    k' = k.heldBy ∧ l = [(.abnormalChanged, k.fallOrigin)] := by
  cases fall with
  | stands calm =>
    obtain ⟨safe, state | ⟨state, member⟩⟩ := minds
    · simp [safe, state] at calm
    · simp [safe, state, member] at calm
  | requested _ _ _ enter => simp only [Zone.fallen, Zone.heldBy, Zone.fallOrigin, enter, and_self]
  | idle state _ _ none => exact absurd none (flight.1 state)
  | breakpoint state =>
    have none : k.inFlight = none := by
      by_contra enter
      cases state.symm.trans (flight.2 enter)
    simp only [Zone.fallen, Zone.heldBy, Zone.fallOrigin, none, and_self]

end ZoneFall

/-! ## All of them -/

/-- Zone `z` with record `k` minds the loss of one of these robots. -/
def Zone.MindsOne (k : Zone) (c : HallConfig) (z : Fin 8) (lost : List (Fin 24 × Robot)) : Prop :=
  ∃ p ∈ lost, c.zoneOf p.1 = some z ∧ k.Minds p.1 p.2.accepted

/-- The zones' tests of these robots, one after another. -/
def State.zonesSee (s : State) (c : HallConfig) (lost : List (Fin 24 × Robot)) : State :=
  lost.foldl (fun s p => s.zoneSees c p.1 p.2.accepted .lost) s

/-- What they make of the zones, and the notices they give. -/
structure State.LossesSeen (s : State) (c : HallConfig) (lost : List (Fin 24 × Robot)) (zones : Table Zone 8)
    (given : List Notice) : Prop where
  /-- A zone that minds falls. -/
  falls : ∀ z, (s.zones.get z).MindsOne c z lost → ((s.zones.get z).state = .requested ↔ (s.zones.get z).inFlight ≠ none) →
    zones.get z = (s.zones.get z).heldBy ∧
      given.filter (fun n => decide (n.subject = z.val)) =
        [s.zoneNotice { s with zones := zones } z (.abnormalChanged, (s.zones.get z).fallOrigin)]
  /-- Any other stands. -/
  stands : ∀ z, ¬ (s.zones.get z).MindsOne c z lost →
    zones.get z = s.zones.get z ∧ given.filter (fun n => decide (n.subject = z.val)) = []
  /-- The notices are completions of zones. -/
  kind : ∀ n ∈ given, n.kind = .zoneCompletion

namespace State

variable {s : State} {c : HallConfig} {u : Fin 24} {r : Robot} {lost : List (Fin 24 × Robot)} {zones : Table Zone 8}
  {given : List Notice}

/-- A robot of no zone is minded by none. -/
theorem LossesSeen.cons_of_none (seen : s.LossesSeen c lost zones given) (alone : c.zoneOf u = none) :
    s.LossesSeen c ((u, r) :: lost) zones given := by
  have same : ∀ (k : Zone) z, k.MindsOne c z ((u, r) :: lost) ↔ k.MindsOne c z lost := fun k z => by
    simp [Zone.MindsOne, alone]
  exact ⟨fun z minds => seen.falls z ((same _ z).1 minds), fun z calm => seen.stands z fun minds => calm ((same _ z).2 minds),
    seen.kind⟩

/-- A robot's zone tests it before the others are tested. -/
theorem LossesSeen.cons_of_zone {z : Fin 8} {k : Zone} {l : List (Completion × Origin)} (member : c.zoneOf u = some z)
    (fall : ZoneFall (s.zones.get z) u r.accepted k l) (seen : (s.zoneBecomes z k l).LossesSeen c lost zones given) :
    s.LossesSeen c ((u, r) :: lost) zones (l.map (s.zoneNotice { s with zones := s.zones.set z k } z) ++ given) := by
  have record : (s.zoneBecomes z k l).zones.get z = k := Table.get_set_self _ _ _
  have own : (l.map (s.zoneNotice { s with zones := s.zones.set z k } z)).filter (fun n => decide (n.subject = z.val)) =
      l.map (s.zoneNotice { s with zones := s.zones.set z k } z) :=
    List.filter_eq_self.2 fun n mem => by
      obtain ⟨e, -, rfl⟩ := List.mem_map.1 mem
      exact decide_eq_true rfl
  have other : ∀ y, y ≠ z → (s.zoneBecomes z k l).zones.get y = s.zones.get y ∧
      ((s.zones.get y).MindsOne c y ((u, r) :: lost) ↔ (s.zones.get y).MindsOne c y lost) ∧
      (l.map (s.zoneNotice { s with zones := s.zones.set z k } z)).filter (fun n => decide (n.subject = y.val)) = [] := fun y ne => by
    refine ⟨Table.get_set_ne _ _ ne, ?_, List.filter_eq_nil_iff.2 fun n mem => ?_⟩
    · simp [Zone.MindsOne, member, Ne.symm ne]
    · obtain ⟨e, -, rfl⟩ := List.mem_map.1 mem
      exact fun same => ne (Fin.ext (of_decide_eq_true same).symm)
  have head : ∀ k : Zone, k.MindsOne c z ((u, r) :: lost) ↔ k.Minds u r.accepted ∨ k.MindsOne c z lost := fun k => by
    simp [Zone.MindsOne, member]
  refine ⟨fun y minds flight => ?_, fun y calm => ?_, fun n mem => ?_⟩
  · by_cases same : y = z
    · subst same
      by_cases first : (s.zones.get y).Minds u r.accepted
      · have held : ((s.zoneBecomes y k l).zones.get y).state = .held := by rw [record]; exact fall.held_of_minds first
        obtain ⟨stands, none⟩ := seen.stands y fun ⟨p, _, _, minds⟩ => Zone.not_minds_of_held held _ _ minds
        obtain ⟨rfl, rfl⟩ := fall.heldBy_of_minds first flight
        refine ⟨stands.trans record, ?_⟩
        rw [List.filter_append, own, none, List.append_nil, List.map_singleton]
        refine congrArg (fun n => [n]) (zoneNotice_congr rfl ?_ _)
        exact stands.symm
      · obtain ⟨rfl, rfl⟩ := fall.of_not_minds first
        have later := ((head _).1 minds).resolve_left first
        rw [zoneBecomes_same] at seen
        exact seen.falls y later flight
    · obtain ⟨record', same', none⟩ := other y same
      have falls := seen.falls y
      rw [record'] at falls
      rw [List.filter_append, none, List.nil_append]
      exact falls (same'.1 minds) flight
  · by_cases same : y = z
    · subst same
      obtain ⟨first, later⟩ := not_or.1 (mt (head _).2 calm)
      obtain ⟨rfl, rfl⟩ := fall.of_not_minds first
      rw [zoneBecomes_same] at seen
      exact seen.stands y later
    · obtain ⟨record', same', none⟩ := other y same
      have stands := seen.stands y
      rw [record'] at stands
      rw [List.filter_append, none, List.nil_append]
      exact stands fun minds => calm (same'.2 minds)
  · rcases List.mem_append.1 mem with mem | mem
    · obtain ⟨e, -, rfl⟩ := List.mem_map.1 mem
      rfl
    · exact seen.kind n mem

/-- The zones' tests move the zones, give their notices, and leave everything else. -/
theorem zonesSee_seen (s : State) (c : HallConfig) (lost : List (Fin 24 × Robot)) : ∃ zones given, s.LossesSeen c lost zones given ∧
    s.zonesSee c lost = { s with zones := zones, given := s.given ++ given } := by
  induction lost generalizing s with
  | nil =>
    refine ⟨s.zones, [], ⟨fun z ⟨_, mem, _⟩ => (nomatch mem), fun z _ => ⟨rfl, rfl⟩, nofun⟩, ?_⟩
    rw [List.append_nil]
    rfl
  | cons p lost ih =>
    obtain ⟨u, r⟩ := p
    cases member : c.zoneOf u with
    | none =>
      obtain ⟨zones, given, seen, eq⟩ := ih s
      have first : s.zoneSees c u r.accepted .lost = s := by simp only [zoneSees, member]
      refine ⟨zones, given, seen.cons_of_none member, ?_⟩
      rw [zonesSee, List.foldl_cons, first]
      exact eq
    | some z =>
      obtain ⟨k, l, fall, becomes⟩ := s.zoneSees_lost member r.accepted
      obtain ⟨zones, given, seen, eq⟩ := ih (s.zoneBecomes z k l)
      refine ⟨zones, _, seen.cons_of_zone member fall, ?_⟩
      rw [zonesSee, List.foldl_cons, becomes, ← List.append_assoc]
      exact eq

end State

end Sys2Proof.Machine
end


section
/-! A PARAMETER load is applied (O60): the items that R161 names are replaced and their timers and counts tested anew, the change is
handed on, and the zones test the robots lost. -/

namespace Sys2Proof.Machine

/-! ## The robots -/

/-- A latch tested anew changes the latch alone (R79). -/
theorem Robot.latched_own (r : Robot) (threshold : Nat) : (r.latched threshold).own = { r.own with
    suspect := r.suspect || (decide (threshold ≠ 0) && decide (threshold ≤ r.ring.count true)) } := by
  unfold Robot.latched Robot.turnsSuspect Robot.ones Robot.own
  cases latch : r.suspect with
  | true => simp [latch]
  | false =>
    split
    · next turns =>
      have turns : (decide (threshold ≠ 0) && decide (threshold ≤ r.ring.count true)) = true := by simpa using turns
      simp only [turns, Bool.false_or]
    · next stays =>
      have stays : (decide (threshold ≠ 0) && decide (threshold ≤ r.ring.count true)) = false := by simpa using stays
      simp only [stays, latch, Bool.false_or]

namespace State

variable {s : State} {old new : HallConfig} {u : Fin 24} {r : Robot}

/-- A robot is found late as R84 says. -/
theorem lateRobot_eq_some : s.lateRobot old new u = some r ↔ s.Late old new u r := by
  simp only [lateRobot, Option.filter_eq_some_iff, Robot.lateUnder, Bool.and_eq_true, decide_eq_true_eq, timerDue_iff, Late, ms]

/-- The late robots. -/
theorem mem_lateRobots : (u, r) ∈ s.lateRobots old new ↔ s.Late old new u r := by
  rw [lateRobots_eq, ← lateRobot_eq_some]
  simp only [List.mem_filterMap, List.mem_finRange, true_and, Option.map_eq_some_iff, Prod.mk.injEq]
  constructor
  · rintro ⟨v, r', late, rfl, rfl⟩
    exact late
  · exact fun late => ⟨u, r, late, rfl, rfl⟩

/-- A robot that is not late is found so. -/
theorem lateRobot_eq_none (robot : s.robots.get u = some r) (timely : ¬ s.Late old new u r) : s.lateRobot old new u = none := by
  cases found : s.lateRobot old new u with
  | none => rfl
  | some r' =>
    have late := lateRobot_eq_some.1 found
    obtain rfl := Option.some.inj (late.1.symm.trans robot)
    exact absurd late timely

/-- A zone minds one of the late robots (R116, R117). -/
theorem mindsOne_iff (z : Fin 8) : (s.zones.get z).MindsOne new z (s.lateRobots old new) ↔ s.ZoneLoses old new z := by
  constructor
  · rintro ⟨⟨u, r⟩, mem, zone, safe, minds⟩
    exact ⟨u, r, mem_lateRobots.1 mem, zone, safe, minds⟩
  · rintro ⟨u, r, late, zone, safe, minds⟩
    exact ⟨(u, r), mem_lateRobots.2 late, zone, safe, minds⟩

/-- The record of a robot after the tests (R79, R84). -/
theorem robotsRetested_get (u : Fin 24) : (s.robotsRetested old new).get u = (s.robots.get u).map fun r =>
    (if (s.lateRobot old new u).isSome then r.lose else r).latched new.timers.suspectThreshold := by
  simp only [robotsRetested, Table.get_mapFin]
  split <;> cases s.robots.get u <;> rfl

/-- A robot that is late. -/
theorem robotsRetested_late (late : s.Late old new u r) :
    (s.robotsRetested old new).get u = some (r.lose.latched new.timers.suspectThreshold) := by
  rw [robotsRetested_get, late.1, lateRobot_eq_some.2 late]
  rfl

/-- One that is not. -/
theorem robotsRetested_timely (robot : s.robots.get u = some r) (timely : ¬ s.Late old new u r) :
    (s.robotsRetested old new).get u = some (r.latched new.timers.suspectThreshold) := by
  rw [robotsRetested_get, robot, lateRobot_eq_none robot timely]
  rfl

/-- A robot's record after the change is handed on. -/
theorem retested_handOn_get {r' : Robot} (tested : (s.robotsRetested old new).get u = some r') :
    ∃ r'', (s.retested old new).handOn.robots.get u = some r'' ∧ r''.own = r'.own := by
  have own := (s.retested old new).handOn_own u
  rw [show (s.retested old new).robots.get u = some r' from tested, Option.map_some] at own
  exact Option.map_eq_some_iff.1 own

/-- A robot that is late is LOST and HELD, with release-confirm set (R84, R89, R90). -/
theorem retested_handOn_late (late : s.Late old new u r) : ∃ r', (s.retested old new).handOn.robots.get u = some r' ∧
    r'.gate = .held ∧ r'.confirm = true ∧ r'.own = (r.lose.latched new.timers.suspectThreshold).own := by
  have tested := robotsRetested_late late
  obtain ⟨accepted, confirmed⟩ : (r.lose.latched new.timers.suspectThreshold).accepted = .lost ∧
      (r.lose.latched new.timers.suspectThreshold).confirm = true := by
    unfold Robot.latched
    split <;> exact ⟨rfl, rfl⟩
  generalize r.lose.latched new.timers.suspectThreshold = r0 at tested accepted confirmed
  have get := (s.retested old new).handOn_get (c := new) rfl u
  rw [show (s.retested old new).robots.get u = some r0 from tested, Option.map_some] at get
  have condition : ∀ a : State, a.robotCondition new u r0 .lost = true := fun a => by
    simp [robotCondition, accepted]
  refine ⟨_, get, ?_, ?_, robotAfter_own _ new u r0⟩
  · rw [robotAfter_of_causes (causesOf_ne_zero (condition _))]
  · rw [robotAfter_of_causes (causesOf_ne_zero (condition _))]
    simp [confirmed]

/-! ## The line and the gates -/

/-- The line stops as R14 says. -/
theorem stopsUnder_iff : s.stopsUnder old new = true ↔ old.timers.stopTime ≠ new.timers.stopTime ∧ s.time.running = true ∧
    ∃ b, s.time.stopStart = some b ∧ b + new.timers.stopTime * 1000000 ≤ s.time.localTime := by
  simp only [stopsUnder, Bool.and_eq_true, decide_eq_true_eq, timerDue_iff, ms, and_assoc]

/-- A line that stops. -/
theorem timeRetested_stops (stops : s.stopsUnder old new = true) :
    { s.timeRetested old new with accounts := s.time.accounts } = { s.time with running := false, stopStart := none } := by
  rw [timeRetested, if_pos stops]

/-- A line that does not. -/
theorem timeRetested_runs (runs : s.stopsUnder old new = false) :
    { s.timeRetested old new with accounts := s.time.accounts } = s.time := by
  rw [timeRetested, runs]
  rfl

/-- The accounts, whether the line stops or not. -/
theorem timeRetested_accounts (s : State) (old new : HallConfig) :
    (s.timeRetested old new).accounts = s.accountsRetested (some old) (some new) := by
  unfold timeRetested
  split <;> rfl

/-! ## The state in which the load settles -/

/-- The state in which the application of a PARAMETER load settles, once the zones' tests are known. -/
def parameterLoaded (s : State) (old new : HallConfig) (zones : Table Zone 8) (more : List Notice) : State :=
  { s.retested old new with
    lineHold := (s.retested old new).handOn.lineHold
    robots := (s.retested old new).handOn.robots
    zones := zones
    loader := { s.loader with kind := none, staged := [], outcome := { code := .applied, kind := 2, part := 0, entry := 0 } }
    given := (s.retested old new).handOn.given ++ more ++
      [s.outcomeNotice { code := .applied, kind := 2, part := 0, entry := 0 }] }

/-- The step that applies a PARAMETER load settles there. -/
theorem applyParameter_parameterLoaded (config : s.config = some old) (new : HallConfig) : ∃ zones more,
    (s.retested old new).handOn.LossesSeen new (s.lateRobots old new) zones more ∧
      (s.applyParameter old new).loadApplied .parameter = s.parameterLoaded old new zones more := by
  obtain ⟨zones, more, seen, eq⟩ := (s.retested old new).handOn.zonesSee_seen new (s.lateRobots old new)
  refine ⟨zones, more, seen, ?_⟩
  have applied : s.applyParameter old new = { s.retested old new with
      lineHold := (s.retested old new).handOn.lineHold
      robots := (s.retested old new).handOn.robots
      zones := zones
      given := (s.retested old new).handOn.given ++ more } := by
    rw [applyParameter_eq config]
    exact eq.trans (congrArg (fun y : State => { y with zones := zones, given := y.given ++ more }) (s.retested old new).handOn_eq :)
  have outcome : (s.applyParameter old new).outcomeNotice = s.outcomeNotice := by
    funext o
    rw [outcomeNotice, note, applied]
    simp only [retested, (s.timeRetested_clock old new).1]
    rfl
  rw [loadApplied_eq, show LoadKind.parameter.code = 2 from rfl, outcome, applied]
  rfl

/-! ## Its notices -/

/-- The notices of the tests are neither completions of zones nor handed on. -/
theorem mem_retestNotices {n : Notice} (mem : n ∈ s.retestNotices old new) : n.kind ≠ .zoneCompletion ∧ n.handed = false := by
  have kinds : n.kind ∈ [NoticeKind.maintDue, .lineStopped, .robotLost, .robotSuspect, .portState] := by
    simp only [retestNotices, List.mem_append, suspectNotices, List.mem_filterMap] at mem
    rcases mem with (((mem | mem) | ⟨u, -, mem⟩) | ⟨u, -, mem⟩) | ⟨p, -, mem⟩
    · simp [mem_dueNotices mem]
    · unfold stopNotices at mem
      split at mem
      · simp [List.mem_singleton.1 mem, note]
      · cases mem
    · obtain ⟨r, -, its⟩ := Option.bind_eq_some_iff.1 mem
      split at its
      · cases its
      · simp [← Option.some.inj its, note]
    · obtain ⟨r, -, its⟩ := Option.bind_eq_some_iff.1 mem
      unfold latchedNotice at its
      split at its
      · simp [← Option.some.inj its, note]
      · cases its
    · unfold silentNotice at mem
      split at mem
      · simp [← Option.some.inj mem, note]
      · cases mem
  simp only [List.mem_cons, List.not_mem_nil, or_false] at kinds
  rcases kinds with kind | kind | kind | kind | kind <;> simp [Notice.handed, kind, NoticeKind.rule]

/-- The notices of the step that `p` picks, when it picks none of the handed-on change. -/
theorem parameterLoaded_notices {zones : Table Zone 8} {more own : List Notice} {p : Notice → Bool}
    (handed : ∀ n, n.handed = true → p n = false)
    (picked : (s.retestNotices old new).filter p ++ more.filter p ++
      [s.outcomeNotice { code := .applied, kind := 2, part := 0, entry := 0 }].filter p = own) :
    s.Notices (s.parameterLoaded old new zones more).settle p own := by
  refine settle_notices rfl rfl fun none => ?_
  have given : (s.parameterLoaded old new zones more).given = (s.retested old new).handOn.given ++ more ++
      [s.outcomeNotice { code := .applied, kind := 2, part := 0, entry := 0 }] := rfl
  rw [← picked, given, List.filter_append, List.filter_append, handOn_filter _ p handed, retested, none, List.nil_append]

/-! ## What the statement's notices come to -/

/-- LINE_STOPPED (R14). -/
theorem stopNotices_eq (s : State) (old new : HallConfig) : s.stopNotices old new =
    if s.time.running && !(s.timeRetested old new).running then [{ s.note .lineStopped with bottle := s.time.newest }] else [] := by
  unfold stopNotices timeRetested
  cases stops : s.stopsUnder old new with
  | true =>
    obtain ⟨-, running, -⟩ := stopsUnder_iff.1 stops
    simp [running]
  | false => simp

/-- ROBOT_LOST (R85). -/
theorem lateNotices_eq (s : State) (old new : HallConfig) : (List.finRange 24).filterMap (s.lateNotice old new) =
    (List.finRange 24).filterMap fun u =>
      match s.robots.get u, (s.retested old new).handOn.robots.get u with
      | some r, some r' =>
        if r'.accepted = .lost ∧ r.accepted ≠ .lost then
          some { s.note .robotLost with subject := u.val, detail := BitVec.ofNat 32 r.accepted.code }
        else none
      | _, _ => none := by
  refine List.filterMap_congr fun u _ => ?_
  cases robot : s.robots.get u with
  | none => simp [lateNotice, lateRobot, robot]
  | some r =>
    by_cases late : s.Late old new u r
    · obtain ⟨r', get, -, -, own⟩ := retested_handOn_late late
      have accepted : r'.accepted = .lost := by
        have := congrArg Robot.accepted own
        rw [Robot.latched_own] at this
        exact this
      simp only [lateNotice, lateRobot_eq_some.2 late, get, accepted, Option.bind_some, true_and, ne_eq]
      split <;> simp [*]
    · obtain ⟨r', get, own⟩ := retested_handOn_get (robotsRetested_timely robot late)
      have accepted : r'.accepted = r.accepted := by
        have := congrArg Robot.accepted own
        rw [Robot.latched_own] at this
        exact this
      simp only [lateNotice, lateRobot_eq_none robot late, get, accepted, Option.bind_none, ne_eq, and_not_self, if_false]

/-- ROBOT_SUSPECT (R79). -/
theorem suspectNotices_eq (s : State) (old new : HallConfig) : s.suspectNotices old new =
    (List.finRange 24).filterMap fun u =>
      match s.robots.get u, (s.retested old new).handOn.robots.get u with
      | some r, some r' =>
        if r'.suspect && !r.suspect then
          some { s.note .robotSuspect with subject := u.val, detail := detailNat (r'.ring.count true) }
        else none
      | _, _ => none := by
  refine List.filterMap_congr fun u _ => ?_
  cases robot : s.robots.get u with
  | none => simp
  | some r =>
    have record : (if (s.lateRobot old new u).isSome then (some r).map Robot.lose else some r) =
        some (if (s.lateRobot old new u).isSome then r.lose else r) := by split <;> rfl
    have stands : (if (s.lateRobot old new u).isSome then r.lose else r).suspect = r.suspect ∧
        (if (s.lateRobot old new u).isSome then r.lose else r).ring = r.ring := by split <;> exact ⟨rfl, rfl⟩
    have tested := robotsRetested_get (s := s) (old := old) (new := new) u
    rw [robot, Option.map_some] at tested
    obtain ⟨r', get, own⟩ := retested_handOn_get tested
    rw [record, get, Option.bind_some]
    generalize (if (s.lateRobot old new u).isSome then r.lose else r) = r0 at stands own
    obtain ⟨suspect, ring⟩ := stands
    rw [Robot.latched_own] at own
    have latch := congrArg Robot.suspect own
    have entries := congrArg Robot.ring own
    dsimp only [Robot.own] at latch entries
    simp only [latchedNotice, Robot.turnsSuspect, Robot.ones, latch, entries, suspect, ring]
    cases r.suspect <;> simp

/-- PORT_STATE (R131). -/
theorem silentNotices_eq (s t : State) (new : HallConfig)
    (ports : ∀ p, t.ports.get p = (s.ports.get p).retested new p s.time.localTime) :
    ((List.finRange 16).filterMap fun p => s.silentNotice new p (s.ports.get p)) = s.portNotices t := by
  rw [portNotices_eq]
  refine List.filterMap_congr fun p _ => ?_
  unfold silentNotice portNotice
  rw [ports p, Port.retested]
  cases silent : (s.ports.get p).silent new p s.time.localTime with
  | true =>
    have listens : (s.ports.get p).state = .listen := by
      simp only [Port.silent, Bool.and_eq_true, decide_eq_true_eq] at silent
      exact silent.1
    simp [listens, Port.activated, portId, detailNat, PortReason.code]
  | false => simp

/-! ## The load applied -/

variable {zones : Table Zone 8} {more : List Notice}

/-- A gate's record after the tests, as R66 says. -/
theorem gateRetested_eq (r : GateRec) (old new : HallConfig) (g : Fin 2) (now : Nat) : r.retested old new g now =
    match r.statusStart with
    | some b =>
      if (old.gates.get g).statusTimeout ≠ (new.gates.get g).statusTimeout ∧
          b + (new.gates.get g).statusTimeout * 1000000 ≤ now then
        { r with accepted := .lost, statusStart := none }
      else r
    | none => r := by
  cases start : r.statusStart with
  | none => simp [GateRec.retested, timerDue, start]
  | some b =>
    rw [GateRec.retested, start]
    exact if_congr (and_congr_right fun _ => decide_eq_true_iff) rfl rfl

/-- A port's record after the tests, as R127 and R136 say. -/
theorem portRetested_eq (r : Port) (new : HallConfig) (p : Fin 16) (now : Nat) : r.retested new p now =
    match r.silence with
    | some b =>
      if r.state = .listen ∧ b + (new.ports.get p).silence * 1000000 ≤ now then
        { r with
          state := .active, reason := .silence, silence := none, intervalViolations := 0, intervalWords := 0,
          wouldQuarantine := false }
      else r
    | none => r := by
  cases start : r.silence with
  | none => simp [Port.retested, Port.silent, timerDue, start]
  | some b =>
    rw [Port.retested, Port.silent, start]
    exact if_congr (Bool.and_eq_true_iff.trans (and_congr decide_eq_true_iff decide_eq_true_iff)) rfl rfl

/-- The causes follow: the tests of the zones leave the conditions (R67, R86). -/
theorem parameterLoaded_follows (config : s.config = some old) (loaded : (s.applyParameter old new).loadApplied .parameter =
    s.parameterLoaded old new zones more) : (s.parameterLoaded old new zones more).settle.CausesFollow := by
  have seen : ((s.retested old new).handOn.zonesSee new (s.lateRobots old new)).conditions = (s.retested old new).handOn.conditions :=
    foldl_conditions _ _ (fun s (p : Fin 24 × Robot) => s.zoneSees_conditions new p.1 _ _) _
  refine ((s.retested old new).handOn_causesFollow).of_conditions ?_
  rw [settle_conditions, ← loaded, loadApplied_conditions, applyParameter_eq config]
  exact seen

/-- The zones' tests, read from the state before the load. -/
theorem lossesSeen_of_retested (seen : (s.retested old new).handOn.LossesSeen new (s.lateRobots old new) zones more) :
    s.LossesSeen new (s.lateRobots old new) zones more := by
  have same : (s.retested old new).handOn.zones = s.zones := handOn_zones _
  have hall : (s.retested old new).handOn.time.hall = s.time.hall := by
    rw [handOn_time]
    exact (s.timeRetested_clock old new).1
  refine ⟨fun z minds flight => ?_, fun z calm => ?_, seen.kind⟩
  · have falls := seen.falls z
    rw [same] at falls
    obtain ⟨record, notices⟩ := falls minds flight
    refine ⟨record, notices.trans ?_⟩
    simp only [zoneNotice, note, hall]
  · have stands := seen.stands z
    rw [same] at stands
    exact stands calm

/-- The completions of zone `z` (R111). -/
theorem parameterLoaded_completes {own : List Notice} (kind : ∀ n ∈ more, n.kind = .zoneCompletion) (z : Fin 8)
    (picked : more.filter (fun n => decide (n.subject = z.val)) = own) :
    s.Notices (s.parameterLoaded old new zones more).settle
      (fun n => decide (n.kind = .zoneCompletion) && decide (n.subject = z.val)) own := by
  refine parameterLoaded_notices (fun n handed => ?_) ?_
  · have other : n.kind ≠ .zoneCompletion := fun kind => by cases (Notice.handed_of_zoneCompletion kind).symm.trans handed
    simp [other]
  · have tests : (s.retestNotices old new).filter (fun n => decide (n.kind = .zoneCompletion) && decide (n.subject = z.val)) = [] :=
      List.filter_eq_nil_iff.2 fun n mem => by simp [mem_retestNotices mem]
    have zone : more.filter (fun n => decide (n.kind = .zoneCompletion) && decide (n.subject = z.val)) =
        more.filter fun n => decide (n.subject = z.val) := List.filter_congr fun n mem => by simp [kind n mem]
    rw [tests, zone, picked, List.nil_append]
    exact List.append_nil _

/-- The other notices, the outcome last. -/
theorem parameterLoaded_gives (kind : ∀ n ∈ more, n.kind = .zoneCompletion) :
    s.Notices (s.parameterLoaded old new zones more).settle (fun n => !n.handed && decide (n.kind ≠ .zoneCompletion))
      (s.retestNotices old new ++ [s.outcomeNotice { code := .applied, kind := 2, part := 0, entry := 0 }]) := by
  refine parameterLoaded_notices (fun n handed => by simp [handed]) ?_
  have tests : (s.retestNotices old new).filter (fun n => !n.handed && decide (n.kind ≠ .zoneCompletion)) = s.retestNotices old new :=
    List.filter_eq_self.2 fun n mem => by simp [mem_retestNotices mem]
  have zone : more.filter (fun n => !n.handed && decide (n.kind ≠ .zoneCompletion)) = [] :=
    List.filter_eq_nil_iff.2 fun n mem => by simp [kind n mem]
  rw [tests, zone, List.append_nil]
  rfl

/-- A PARAMETER load is applied as R161 says. -/
theorem parameterApplied_of (config : s.config = some old)
    (loaded : (s.applyParameter old new).loadApplied .parameter = s.parameterLoaded old new zones more)
    (seen : s.LossesSeen new (s.lateRobots old new) zones more) :
    s.ParameterApplied (s.parameterLoaded old new zones more).settle old new where
  config := rfl
  accounts := accountsRetested_of (by rw [config]; exact timeRetested_accounts s old new)
  stops changed running due := timeRetested_stops (stopsUnder_iff.2 ⟨changed, running, due⟩)
  runs goes := by
    refine timeRetested_runs (Bool.eq_false_iff.2 fun stops => ?_)
    obtain ⟨changed, running, b, start, due⟩ := stopsUnder_iff.1 stops
    rcases goes with same | stopped | early
    · exact changed same
    · cases running.symm.trans stopped
    · exact absurd due (Nat.not_le_of_lt (early b start))
  gates g := by
    refine (Table.get_mapFin _ _ g).trans (congrArg (Option.map · _) (funext fun r => ?_))
    exact gateRetested_eq r old new g s.time.localTime
  present u := by
    have own := congrArg Option.isSome ((s.retested old new).handOn_own u)
    rw [Option.isSome_map, Option.isSome_map] at own
    refine own.trans ((congrArg Option.isSome (robotsRetested_get u)).trans ?_)
    rw [Option.isSome_map]
  lost u r late := by
    obtain ⟨r', get, held, confirm, own⟩ := retested_handOn_late late
    exact ⟨r', get, held, confirm, own.trans (Robot.latched_own _ _)⟩
  robots u r robot timely := by
    obtain ⟨r', get, own⟩ := retested_handOn_get (robotsRetested_timely robot timely)
    exact ⟨r', get, own.trans (Robot.latched_own _ _)⟩
  follows := parameterLoaded_follows config loaded
  latched g k latched := (s.retested old new).handOn_latchedStand g k latched
  ports p := (Table.get_mapFin _ _ p).trans (portRetested_eq _ new p s.time.localTime)
  held z loses flight := by
    obtain ⟨record, notices⟩ := seen.falls z ((mindsOne_iff z).2 loses) flight
    refine ⟨record, parameterLoaded_completes seen.kind z (notices.trans ?_)⟩
    rfl
  zones z calm := by
    obtain ⟨record, notices⟩ := seen.stands z (mt (mindsOne_iff z).1 calm)
    exact ⟨record, parameterLoaded_completes seen.kind z notices⟩
  frame := rfl
  notices := by
    have given := s.parameterLoaded_gives (old := old) (new := new) (zones := zones) seen.kind
    rw [retestNotices, stopNotices_eq, lateNotices_eq, suspectNotices_eq,
      silentNotices_eq s (s.parameterLoaded old new zones more).settle new fun p => Table.get_mapFin _ _ p] at given
    exact given

end State

end Sys2Proof.Machine
end


section
/-! CONFIG_READ_ANSWERED (O60): the step for each kind of load, and the obligation. -/

namespace Sys2Proof.Machine

namespace State

variable {s : State} {rest : List OwnTxn}

/-- A PARAMETER load is applied to the state before the read was answered, too: the path alone differs. -/
theorem ParameterApplied.of_readDone {t : State} {old new : HallConfig} (h : (s.readDone rest).ParameterApplied t old new) :
    s.ParameterApplied t old new :=
  { h with frame := (congrArg (fun y : State => { y with path := s.path }) h.frame :) }

/-- The step that applies a PARAMETER load. -/
theorem parameter_applied {old : HallConfig} (config : s.config = some old) (rest : List OwnTxn) (m : Image) :
    let t := (((s.readDone rest).applyImage .parameter m).loadApplied .parameter).settle
    s.PathAnswered t rest s.path.ownQueue ∧ s.LoadEnds t .parameter .applied 0 0 ∧ s.ParameterApplied t old (Image.config m) := by
  intro t
  have config' : (s.readDone rest).config = some old := config
  obtain ⟨zones, more, seen, loaded⟩ := applyParameter_parameterLoaded config' (Image.config m)
  have applied : (s.readDone rest).applyImage .parameter m = (s.readDone rest).applyParameter old (Image.config m) := by
    simp only [applyImage, config']
  have settles : t = ((s.readDone rest).parameterLoaded old (Image.config m) zones more).settle :=
    congrArg settle ((congrArg (loadApplied · .parameter) applied).trans loaded)
  rw [settles]
  exact ⟨pathAnswered_of rfl, rfl, (parameterApplied_of config' loaded (lossesSeen_of_retested seen)).of_readDone⟩

/-! ## What refuses an image -/

/-- A PARAMETER image (R158, R159, R161). -/
theorem imageRefusal_parameter {c : HallConfig} (config : s.config = some c) (m : Image) : s.imageRefusal .parameter m =
    firstRefusal [Image.validateWhole m, s.zoneOpenRefusal, mismatch c (Image.config m) s.grading.current (Image.bank m)] := by
  simp only [imageRefusal, config]

/-- A CHANGEOVER image (R158, R159). -/
theorem imageRefusal_changeover (s : State) (m : Image) : s.imageRefusal .changeover m =
    firstRefusal [Image.validateTemplates m, s.zoneOpenRefusal, s.generationRefusal] := rfl

/-- A FULL image (R158). -/
theorem imageRefusal_full (s : State) (m : Image) : s.imageRefusal .full m = Image.validateWhole m := rfl

/-! ## The last line -/

section

variable {k : LoadKind} {data : List Word}

/-- With the last line the step refuses the load. -/
theorem Reads.refuses (reads : s.Reads k rest) (last : k.lines.length ≤ (s.loader.staged ++ [fitWords 16 data]).length) {r : Refused}
    (refusal : s.imageRefusal k (imageOf k (s.loader.staged ++ [fitWords 16 data])) = some r) :
    ∃ t, exec (.configReadAnswered true data) s = .next t ∧ s.Refuses t k rest r :=
  ⟨_, reads.okay data, lineStaged_refuses rest last refusal⟩

/-- Or it applies it. -/
theorem Reads.applies (reads : s.Reads k rest) (last : k.lines.length ≤ (s.loader.staged ++ [fitWords 16 data]).length)
    (unrefused : s.imageRefusal k (imageOf k (s.loader.staged ++ [fitWords 16 data])) = none) :
    exec (.configReadAnswered true data) s =
      .next (((s.readDone rest).applyImage k (imageOf k (s.loader.staged ++ [fitWords 16 data]))).loadApplied k).settle := by
  rw [reads.okay data, lineStaged_applies rest last unrefused]

end

end State

/-! ## The obligation -/

/-- Settles O60: the step stages a line, refuses the load or applies it (`State.reads_of`); the three applications are
`State.full_applied`, `State.parameter_applied` and `State.changeover_applied`, and the sections of an image report what fails in
them (`Image.validateWhole_refusesFirst`). -/
theorem configReadAnswered : Obligations.ConfigReadAnswered := by
  refine ⟨fun s k o rest data atMemory mine reading => ?_, mismatch_eq_none, mismatch_refusesFirst,
    fun m => ⟨m.reads, m.validateWhole_refusesFirst, m.validateTemplates_refusesFirst⟩, fun k head staged n => ?_,
    fun data => fitWords_of_length, rfl, rfl, LoadKind.changeover_lines, fun n => partOfLine_past, partOfLine_table⟩
  · have reads := State.reads_of atMemory mine reading
    intro staged image ended pathFrame refused closed firstOpen
    have refuses {code : LoadCode} {part entry : Nat} (last : k.lines.length ≤ staged.length)
        (refusal : s.imageRefusal k image = some { code := code, part := part, entry := entry }) :
        refused true code part entry := reads.refuses last refusal
    have applies (last : k.lines.length ≤ staged.length) (unrefused : s.imageRefusal k image = none) :
        exec (.configReadAnswered true data) s = .next (((s.readDone rest).applyImage k image).loadApplied k).settle :=
      reads.applies last unrefused
    refine ⟨fun n line => ?_, fun n next => ⟨_, reads.okay data, State.lineStaged_goesOn next⟩, fun kind all => ?_,
      fun c kind all config => ?_, fun kind all => ?_⟩
    · have current : s.currentLine k = n := by
        rw [State.currentLine, List.getD_eq_getElem?_getD, line, Option.getD_some]
      have ends := s.refuseLoad_refuses k rest { code := .readError, part := partOfLine (s.currentLine k), entry := 0 }
      rw [current] at ends
      exact ⟨_, current ▸ reads.fault data, ends⟩
    · subst kind
      have last : LoadKind.changeover.lines.length ≤ staged.length := by rw [all]; exact Nat.le_refl 17
      have judged := s.imageRefusal_changeover image
      refine ⟨fun r fails => refuses last (judged.trans (by rw [fails]; rfl)), fun valid => ?_⟩
      rw [valid] at judged
      refine ⟨fun z opened => refuses last (judged.trans ?_), fun shut other => refuses last (judged.trans ?_), fun shut same =>
        ⟨_, applies last (judged.trans ?_), s.changeover_applied rest image⟩⟩
      · rw [State.zoneOpenRefusal_some opened.1 opened.2]
        rfl
      · rw [State.zoneOpenRefusal_none shut, State.generationRefusal_some other]
        rfl
      · rw [State.zoneOpenRefusal_none shut, State.generationRefusal_none same]
        rfl
    · subst kind
      have last : LoadKind.parameter.lines.length ≤ staged.length := by rw [all]; exact Nat.le_refl 128
      have judged := State.imageRefusal_parameter config image
      intro new
      refine ⟨fun r fails => refuses last (judged.trans (by rw [fails]; rfl)), fun valid => ?_⟩
      rw [valid] at judged
      refine ⟨fun z opened => refuses last (judged.trans ?_), fun r shut differs => refuses last (judged.trans ?_), fun shut same =>
        ⟨_, applies last (judged.trans ?_), State.parameter_applied config rest image⟩⟩
      · rw [State.zoneOpenRefusal_some opened.1 opened.2]
        rfl
      · rw [State.zoneOpenRefusal_none shut, differs]
        rfl
      · rw [State.zoneOpenRefusal_none shut, same]
        rfl
    · subst kind
      have last : LoadKind.full.lines.length ≤ staged.length := by rw [all]; exact Nat.le_refl 128
      have judged := s.imageRefusal_full image
      exact ⟨fun r fails => refuses last (judged.trans fails), fun valid =>
        ⟨_, applies last (judged.trans valid), s.full_applied rest image⟩⟩
  · simp only [← lineBytes_eq]
    refine ⟨fun whole => imageOf_whole whole staged n, ?_⟩
    rintro rfl
    exact imageOf_changeover head staged n

end Sys2Proof.Machine
end
